-- ==== Sys2Proof/Word.lean ====
section
/-!
DEFINITION. The word types of the YG-M1048 and nothing else: bytes, the engines' 32-bit words,
the bit set with one bit per image tile (R39: 4,096 tiles) and the bit set with one bit per field (32 fields).
-/

namespace Sys2Proof

/-- A byte (R303: values are byte strings, least significant byte first). -/
abbrev Byte := BitVec 8

/-- A 16-bit word: a drive word (R100) or a latch word (R131). -/
abbrev Half := BitVec 16

/-- A 32-bit word of an engine (R350). -/
abbrev Word := BitVec 32

/-- One bit for each of the 4,096 tiles of the array (R39). -/
abbrev TileSet := BitVec 4096

/-- One bit for each of the 32 fields of the array. -/
abbrev FieldSet := BitVec 32

/-- Bit `i` of a set, put to `b`; a set has no bit past its width. -/
def bvPut {n : Nat} (x : BitVec n) (i : Nat) (b : Bool) : BitVec n :=
  if b then x ||| BitVec.ofNat n (2 ^ i) else x &&& ~~~ BitVec.ofNat n (2 ^ i)

end Sys2Proof
end

