-- ==== Sys2Proof/Syntax.lean ====
section
/-!
DEFINITION. The commands of the YG-M1048 as plain data: one constructor for each row of spec/opcode_table.json, and the
types of their operands. What the device senses of the world outside it (a voltage, a temperature, an echoed word,
a memory error) arrives with the command at which the specification lets the device sense it.
-/

namespace Sys2Proof

/-- An ECC finding of a pixel store read (R254, R255): the byte address of a 64-bit word and whether it is uncorrectable. -/
structure EccFinding where
  addr : Nat
  fatal : Bool
  deriving DecidableEq, Repr

/-- What the reads of tiles met: ECC findings, and the tiles whose first read fails its check where the second does not (R285): by the address of their
data in pixel store, and an MRAM tile by 0x4000000 + 0x1000 for each area + its index. -/
structure TileObs where
  ecc : List EccFinding
  transient : List Nat
  deriving DecidableEq, Repr

/-- What a read of memory met: an engine's load, another read of its local RAM (R357), or its fetch of a word that it cannot execute (R254, R255, R357). -/
inductive MemObs where
  | sound | corrected | fatal
  deriving DecidableEq, Repr

/-- Observations of one scan: the share of the past period with slack (R395, in 1/256ths) and the scrubber's findings. -/
structure ScanObs where
  slack : Nat
  ecc : List EccFinding
  /-- Tiles read for the light check whose first read fails where the second does not (R285). -/
  again : List Nat
  deriving DecidableEq, Repr

/-- One analog sample of a pixel: the node step of a probe, a junction current or a photocharge, in the unit of its method. -/
structure Probe where
  pixel : Nat
  level : Nat
  deriving DecidableEq, Repr

/-- A lit sample (R140, R141): delivered share of the commanded current in percent, and forward voltage in mV. -/
structure LitObs where
  pixel : Nat
  pct : Nat
  vf : Int
  deriving DecidableEq, Repr

/-- Observations of one phase slot. A sampled pixel that a list does not name reads the nominal level (a probe), or
reaches its current inside its window (a lit check); `conductDiff` names the pixels whose conduction sense
differs from what their front latch commands (R298); `supplyBad` says a condition of R155 held. -/
structure SlotObs where
  nominal : Nat
  probes : List Probe
  subNominal : Nat
  subth : List Probe
  lit : List LitObs
  listen : List Probe
  conductDiff : List Nat
  deriving DecidableEq, Repr

/-- A latch whose echo differs (R132): whether the second read-back differs too, and whether the write of 0x0000 echoed. -/
structure EchoFault where
  pixel : Nat
  second : Bool
  zeroOk : Bool
  deriving DecidableEq, Repr

/-- A request's transport (0 CAN A, 1 CAN B, 2 SPI, 3 Skorlink), SESSION and SEQ (R315). -/
structure Hdr where
  transport : Fin 4
  session : Byte
  seq : Byte
  /-- What the service's reads of the request's entry on its queue find (R254). -/
  ecc : List EccFinding
  deriving DecidableEq, Repr

/-- Who writes an entry: a KDP session, or the stock firmware through its ports. -/
inductive Writer where
  | host (h : Hdr)
  | firmware
  deriving DecidableEq, Repr

/-- An entry of the dictionary, INDEX.SUB. -/
structure EntryRef where
  index : Half
  sub : Byte
  deriving DecidableEq, Repr

/-- A CAN frame on the bus: FDF, identifier format, identifier, data. -/
structure CanFrame where
  fd : Bool
  ext : Bool
  id : Nat
  data : List Byte
  deriving DecidableEq, Repr

/-- The conditions of R352. -/
inductive Cond where
  | al | eq | ne | lt | ge | ltu | geu | mi | pl | es | ec
  deriving DecidableEq, Repr

/-- What an extension image declares for its engine (R371, R372): entries with their descriptor fields, and BLOB sizes. -/
structure ModuleEntry where
  index : Nat
  sub : Nat
  type : Nat
  access : Nat
  size : Nat
  min : Int
  max : Int
  default : Nat
  deriving DecidableEq, Repr

/-- A module's declarations. -/
structure ModuleDecl where
  engine : Nat
  entries : List ModuleEntry
  blobs : List Nat
  deriving DecidableEq, Repr

/-- The control symbols of the line code (R207), and any other one. -/
inductive CtlSymbol where
  | hsp | lul | roj | sol | soc | eop | void | idl | other
  deriving DecidableEq, Repr

/-- A symbol as a lane carries it: data, a control symbol, or one received with a code or disparity error (R207, R208). -/
inductive LaneSymbol where
  | data (b : Byte)
  | ctl (c : CtlSymbol)
  | error
  deriving DecidableEq, Repr

/-- A training sequence as received (R211, R216): TS-B or TS-A, its fields LANE to LCNT, symbols 9 to 14, its TCHK, and whether HSP arrived
inverted. -/
structure TrainSeq where
  b : Bool
  lane : Nat
  link : Nat
  rung : Nat
  flags : Nat
  emi : Nat
  preset : Nat
  lcnt : Nat
  resv : Nat
  tchk : Nat
  inverted : Bool
  deriving DecidableEq, Repr

/-- The outcome of equaliser adaptation (R211, R217): the openings H and V at each CTLE setting from 0 dB on, and the DFE taps in mV. -/
structure AdaptObs where
  sweep : List (Nat × Nat)
  dfe : List Int
  deriving DecidableEq, Repr

/-- What a lane's eye monitor measures (R217, R218): the openings H and V, and the DFE taps in mV. -/
structure EyeObs where
  h : Nat
  v : Nat
  dfe : List Int
  deriving DecidableEq, Repr

/-- A Lull set as received (R209, R210): its LCNT, and by how many symbols the elastic buffer has filled since the set before. -/
structure LullObs where
  lcnt : Nat
  drift : Int
  deriving DecidableEq, Repr

/-- A reading of a sensor's two elements in eighths of a degree Celsius; none where the element is invalid. -/
structure SensorObs where
  e0 : Option Int
  e1 : Option Int
  deriving DecidableEq, Repr

/-- A reading of a protection sensor (R397, R409): its monitor value and its two elements, in eighths of a degree Celsius. -/
structure TpObs where
  monitor : Int
  e0 : Int
  e1 : Int
  deriving DecidableEq, Repr

/-- What steps 2 to 4 of a rotation measured (R431): the offset of each comparator half in 1/16 LSB, the gain error in ppm, the timing against the
partner slice of a PAIR group in ps. -/
structure RotationObs where
  offset0 : Int
  offset1 : Int
  gain : Int
  timing : Int
  deriving DecidableEq, Repr

/-- What a shadow sample of channel 14 gives at a grid point at which the target converter has no conversion (R431): the code of the target's slice
and that of the spare, before either is clamped to the range. -/
structure ZeroObs where
  target : Int
  spare : Int
  deriving DecidableEq, Repr

/-- Sources of an injected request (R429). -/
inductive InjSource where
  | write (by_ : Writer) | loadstep | fltIn | e2
  deriving DecidableEq, Repr

/-- Means of a field reference trim (R450, R453) in nA: the DAC output (channel 11) and each reference sink in the dummy
load (channel 10); whether a conversion used was not valid (R449). -/
structure FrefObs where
  dac : Nat
  sink0 : Nat
  sink1 : Nat
  bad : Bool
  /-- The same three again, where R451 has the reference sinks checked at once. -/
  dac2 : Nat
  sink02 : Nat
  sink12 : Nat
  deriving DecidableEq, Repr

/-- What the calibration loader found damaged in MRAM after the re-read (R444, R445): binning tiles, copies of the field
records, aging words and trim words. -/
structure MirrorObs where
  tiles : List Nat
  record0 : Bool
  record1 : Bool
  aging : List Nat
  trim : List Nat
  /-- Binning tiles whose first read fails where the second does not. -/
  again : List Nat
  deriving DecidableEq, Repr

/-- The supply, the clock and TEST_EN at tV (R464, R31, R516). -/
structure StartObs where
  mv : Nat
  xin : Bool
  testEn : Bool
  deriving DecidableEq, Repr

/-- What a Hallmark step found (R489, R490, R492): a bit for each element it tested, set where the element passed; the sinks found DEAD or WEAK in
block B1; the code of a bandgap core in block B4; whether VLED lay below 2.7 V. -/
structure StepObs where
  passed : Nat
  weak : List Nat
  code : Int
  vledLow : Bool
  deriving DecidableEq, Repr

/-- What a start BIST found (R497, R498): the steps in which an element failed, each with what it found, steps rising; every other step passed. -/
structure StartBistObs where
  steps : List (Nat × StepObs)
  deriving DecidableEq, Repr

/-- A TCK edge. -/
structure JtagObs where
  rising : Bool
  tms : Bool
  tdi : Bool
  trstN : Bool
  deriving DecidableEq, Repr


/-- The commands and events of the opcode table, one constructor for each row. An engine's instruction names the engine `e`
(0 to 7 for W0 to W7, 8 for WJ) and the fields of its encoding; a write of an entry names who writes; an event that
depends on something outside the device carries what was observed. -/
inductive Instr where
  /-- XIN_LOSS (R29): XIN shows no edge for 200 ns; the timebase continues from the RC oscillator and raises E125. -/
  | xinLoss
  /-- XIN_RESTORED (R29): XIN has given 1 ms of stable edges; the timebase resumes trimming against it. -/
  | xinRestored
  /-- SCAN_BOUNDARY (R63): A global scan boundary occurs every T_SCAN; per-scan work such as references, budget and Toll period starts here. -/
  | scanBoundary (o : ScanObs)
  /-- PHASE_SLOT (R55): A phase slot begins with its Sweep, PWM window and guard for every cluster. -/
  | phaseSlot (o : SlotObs)
  /-- COVERAGE_REWRITE (R151): After each lit round of 4P scans, the Lamplighter rewrites the driven codes 0x0 to 0x2. -/
  | coverageRewrite
  /-- LISTEN_ROUND_END (R145): A listening round of 64P scans ends and the uncovered count is updated. -/
  | listenRoundEnd
  /-- MASS_GUARD_REARM (R156): 64 probe scans after disarming, the mass guard is armed again and MASS_DISARMED clears. -/
  | massGuardRearm
  /-- FRAME_BOUNDARY (R72): A frame boundary passes; E32 is raised and frame.count increments. -/
  | frameBoundary
  /-- CLUSTER_SWAP (R73): A stagger group swaps front and back latches at the start of its first own scan after the boundary. -/
  | clusterSwap (g : Fin 16) (again : List Nat) (echo : List EchoFault)
  /-- TE_OUT_RISE (R84): TE_OUT rises frame.te_delay_us after a swap and E33 is raised. -/
  | teOutRise
  /-- COMMIT_WINDOW_CLOSE (R78): The commit window closes at tW, TE_OUT falls and later commits become late. -/
  | commitWindowClose
  /-- ADMISSION_POINT (R120): At t1 minus T_FRAME/2, internal dirtiness moves to the next-but-one boundary. -/
  | admissionPoint
  /-- SYNC_EDGE (R88): A follower measures the phase error at a SYNC rising edge and adjusts its trim. -/
  | syncEdge
  /-- SYNC_EDGE_MISSING (R90): No SYNC edge arrives within 1.5 T_FRAME; the follower enters LOST with E39. -/
  | syncEdgeMissing
  /-- SYNC_ACQUIRE_TIMEOUT (R90): A follower in ACQUIRING has not locked after 100 frames and raises E39. -/
  | syncAcquireTimeout
  /-- COMMIT_REQUEST (R77): A write of commit.request takes a snapshot, validates it and targets a boundary. -/
  | commitRequest (by_ : Writer) (tag : Byte)
  /-- COMPOSE_TILE_DONE (R198): The compositor writes a composed tile with its new check word. -/
  | composeTileDone (t : Fin 4096) (o : TileObs)
  /-- DRIVE_TILE_DONE (R104): The drive pipeline writes a drive tile from a composed tile, calibration words and fault map. -/
  | driveTileDone (t : Fin 4096) (o : TileObs)
  /-- LATCH_LOAD_TILE_DONE (R131): The latch loader writes and echoes the back latches of one tile. -/
  | latchLoadTileDone (t : Fin 4096) (o : TileObs) (echo : List EchoFault)
  /-- DRIVE_RECOMPUTE (R119): A write of drive.recompute marks all tiles dirty as internal work. -/
  | driveRecompute (by_ : Writer)
  /-- FAULT_NOTICE (R169): The stock fault policy processes a Q6 notice and writes the Ledger record. -/
  | faultNotice (ecc : List EccFinding)
  /-- DIAG_CLEAR (R170): A write of diag.clear clears a pixel's fault code, isolation and evidence. -/
  | diagClear (by_ : Writer) (pixel : Word)
  /-- DIAG_DISABLE (R171): A write of 0 to diag.enable stops sampling at the next boundary and clears the evidence map. -/
  | diagDisable (by_ : Writer)
  /-- WRITEBACK_DONE (R200): A writeback copy completes, a Q8 notice is posted and E69 is raised. -/
  | writebackDone (o : TileObs)
  /-- LANE_BIT_LOCK (R211): A lane's clock recovery achieves bit lock in stage 1. -/
  | laneBitLock (k : Fin 4) (net0 net1 : Nat)
  /-- TRAINING_SEQUENCE (R211): A training sequence TS-A or TS-B is received and advances the lane's stages. -/
  | trainingSequence (k : Fin 4) (ts : TrainSeq)
  /-- LANE_ADAPT_DONE (R211): The CTLE sweep and DFE training complete and the lane sets ADAPT_DONE. -/
  | laneAdaptDone (k : Fin 4) (a : AdaptObs)
  /-- LANE_DESKEW_DONE (R211): The lane aligns to the common Lull sets and becomes ACTIVE. -/
  | laneDeskewDone (k : Fin 4)
  /-- RUNG_TIMEOUT (R212): 50 ms pass at a rung without identity and the lane steps down the ladder. -/
  | rungTimeout (k : Fin 4)
  /-- LINK_UP_WAIT_END (R215): 10 ms after the first identity, the lanes are deskewed and the link comes up with E85. -/
  | linkUpWaitEnd
  /-- EMI_UPDATE (R217): The eye monitor updates a lane's EMI every 100 µs. -/
  | emiUpdate (k : Fin 4) (eye : EyeObs)
  /-- LANE_EMI_DROP (R219): A lane's EMI stays below lane.emi_drop for 1 ms and the lane is dropped. -/
  | laneEmiDrop (k : Fin 4)
  /-- LULL_SET_RECEIVED (R210): A received Lull set lets the elastic buffer insert or delete one LUL and its LCNT is checked. -/
  | lullSetReceived (k : Fin 4) (lull : LullObs)
  /-- LULL_SET_SEND (R209): At every 1,024th symbol, the transmitter sends a Lull set on all active lanes. -/
  | lullSetSend
  /-- LINK_PACKET (R222): A link packet is received, checked by LCRC and LSEQ, and acknowledged or NAKed. -/
  | linkPacket (k : Fin 4) (symbols : List LaneSymbol)
  /-- ACK (R223): An ACK control packet frees acknowledged packets from the retry buffer. -/
  | ack (k : Fin 4) (symbols : List LaneSymbol)
  /-- NAK (R223): A NAK control packet makes the lane resend from the named LSEQ. -/
  | nak (k : Fin 4) (symbols : List LaneSymbol)
  /-- CREDIT (R228): A CREDIT control packet grants the device credits for a pool. -/
  | credit (k : Fin 4) (symbols : List LaneSymbol)
  /-- DROP (R221): A DROP control packet reports a lost lane and the last good LSEQ on it. -/
  | drop (k : Fin 4) (symbols : List LaneSymbol)
  /-- REPLAY_TIMEOUT (R223): 16 µs pass without ACK or NAK and the lane resends from its oldest unacknowledged packet. -/
  | replayTimeout (k : Fin 4)
  /-- LANE_LOST (R243): An active lane is declared lost; E80+k is raised, DROP is sent, packets are replayed and the lane retrains. -/
  | laneLost (k : Fin 4) (cause : Fin 6)
  /-- LANE_REJOIN (R245): A ROJ marks the Lull set at which a retrained lane joins the stripe, with E84. -/
  | laneRejoin (k : Fin 4) (lull : LullObs)
  /-- LANE_ENABLE_MASK_WRITE (R246): A write of lane.enable_mask removes or starts lanes within 1 ms. -/
  | laneEnableMaskWrite (by_ : Writer) (mask : Byte)
  /-- PARTNER_ABSENT (R248): No enabled lane has comma lock for 200 ms; E87 is raised. -/
  | partnerAbsent
  /-- REGION (R233): A REGION transaction packet is verified, refused or staged for landing. -/
  | region (packet : List Byte)
  /-- REGION_LANDED (R232): The last tile of a region is written, a Q9 notice is posted and STATUS is sent. -/
  | regionLanded (o : TileObs)
  /-- SET_CLOSE (R235): A SET_CLOSE packet records the close and count of a named set. -/
  | setClose (packet : List Byte)
  /-- SET_COMMIT (R236): A SET_COMMIT packet flips a named set and requests a commit. -/
  | setCommit (packet : List Byte)
  /-- KDP_PACKET (R238): A KDP transaction packet is verified and its frame is posted to Q0. -/
  | kdpPacket (packet : List Byte) (ecc : List EccFinding)
  /-- READBACK_REQ (R239): A READBACK_REQ is answered with READBACK_DATA or a STATUS. -/
  | readbackReq (packet : List Byte) (o : TileObs)
  /-- CHAN_CREATE (R261): A write of a descriptor to chan.create allocates, zero-fills and returns a channel handle. -/
  | chanCreate (by_ : Writer) (descriptor : List Byte)
  /-- CHAN_DESTROY (R266): A write of chan.destroy refuses further use of the handle and discards its open sets. -/
  | chanDestroy (by_ : Writer) (handle : Word)
  /-- DEFERRED_FREE (R267): The last reference of a destroyed channel ends and its pages and slot are freed with E67. -/
  | deferredFree (slot : Fin 256)
  /-- ROW_REPAIR_DONE (R257): A row copy to a spare row completes and the row's address is remapped. -/
  | rowRepairDone (row : Nat)
  /-- QUEUE_ENTRIES_WRITE (R279): A write of queue.entries resizes an empty ring, or is refused. -/
  | queueEntriesWrite (by_ : Writer) (q : Fin 16) (n : Half)
  /-- ASSAY_RESET (R291): A write of assay.reset loads assay.init and clears assay.count. -/
  | assayReset (by_ : Writer) (a : Fin 8)
  /-- ASSAY_CONFIG_WRITE (R292): A write of assay.config sets snoop point and POLY, or starts and stops RUN. -/
  | assayConfigWrite (by_ : Writer) (a : Fin 8) (v : Word)
  /-- RECT_VALUE_CHECK (R295): After a swap, rectangle values are computed and compared, raising E112 on a mismatch. -/
  | rectValueCheck (r : Fin 16) (ecc : List EccFinding)
  /-- RECT_LEARN (R296): A write of rect.learn makes the next comparison store the actual value as the expected value. -/
  | rectLearn (by_ : Writer) (r : Fin 16)
  /-- LIGHT_CHECK (R300): The sensed conduction of the sampled own scans is compared with the drive frame, raising E113 on a mismatch. -/
  | lightCheck (r : Fin 16)
  /-- READ (R307): A KDP READ returns an entry's value. -/
  | read (h : Hdr) (entry : EntryRef)
  /-- READ_STAGED (R307): A READ with STAGED returns the staged value of an RC entry, or its applied value. -/
  | readStaged (h : Hdr) (entry : EntryRef)
  /-- DESCRIBE (R310): A READ with DESCRIBE returns the 32-byte descriptor of an entry. -/
  | describe (h : Hdr) (entry : EntryRef)
  /-- WRITE (R305): A KDP WRITE checks and writes an entry's value. -/
  | write (h : Hdr) (entry : EntryRef) (value : List Byte)
  /-- WRITE_STAGED (R305): A KDP WRITE_STAGED stages a value for the next commit. -/
  | writeStaged (h : Hdr) (entry : EntryRef) (value : List Byte)
  /-- COMMIT (R323): A KDP COMMIT requests a commit and returns reason, flags and target. -/
  | commit (h : Hdr) (tag : Byte)
  /-- SEGMENTED_WRITE_START (R324): A WRITE with SEGMENTED set opens a segmented write of TOTAL bytes. -/
  | segmentedWriteStart (h : Hdr) (entry : EntryRef) (staged : Bool) (total : Word)
  /-- SEGMENTED_READ_START (R325): A READ with SEGMENTED set returns TOTAL and snapshots the value. -/
  | segmentedReadStart (h : Hdr) (entry : EntryRef)
  /-- SEGMENT_WRITE (R324): A SEGMENT carries write data at OFFSET, and with LAST it completes the write. -/
  | segmentWrite (h : Hdr) (offset : Word) (data : List Byte) (last : Bool)
  /-- SEGMENT_READ (R325): A SEGMENT returns read data from OFFSET for COUNT bytes. -/
  | segmentRead (h : Hdr) (offset : Word) (count : Half)
  /-- SESSION_OPEN (R328): A HEARTBEAT with SESSION 0 opens a session on its transport. -/
  | sessionOpen (h : Hdr)
  /-- HEARTBEAT (R332): A HEARTBEAT in an open session keeps it alive and reports keyholder, level and state. -/
  | heartbeat (h : Hdr) (flags : Byte)
  /-- TAKE_KEY (R332): The HEARTBEAT flag TAKE_KEY takes the writing key when it is free. -/
  | takeKey (h : Hdr)
  /-- RELEASE_KEY (R333): The HEARTBEAT flag RELEASE_KEY releases the key and discards the session's staged writes. -/
  | releaseKey (h : Hdr)
  /-- FORCE (R332): The HEARTBEAT flag FORCE, with TAKE_KEY at the service level, takes the key and raises E103. -/
  | force (h : Hdr)
  /-- DISCARD_STAGED (R332): The HEARTBEAT flag DISCARD_STAGED discards the session's untaken staged writes. -/
  | discardStaged (h : Hdr)
  /-- CLOSE (R330): The HEARTBEAT flag CLOSE closes the session after the response. -/
  | close (h : Hdr)
  /-- DROP_SERVICE (R339): The HEARTBEAT flag DROP_SERVICE ends the session's service level. -/
  | dropService (h : Hdr)
  /-- SESSION_TIMEOUT (R330): No valid request arrives within kdp.session_timeout_ms; the session closes with E99. -/
  | sessionTimeout (n : Fin 8)
  /-- DICT_SAVE (R311): A write of dict.save stores the persistent set into the older MRAM copy. -/
  | dictSave (by_ : Writer)
  /-- DICT_RESTORE (R314): A write of dict.restore marks both saved copies invalid. -/
  | dictRestore (by_ : Writer)
  /-- UNLOCK_CHALLENGE (R336): A read of unlock.challenge returns and arms 16 random bytes for the session. -/
  | unlockChallenge (h : Hdr)
  /-- UNLOCK_RESPONSE (R337): A write of unlock.response grants the service level on a matching HMAC, or counts a failure. -/
  | unlockResponse (h : Hdr) (mac : List Byte)
  /-- UNLOCK_KEY_WRITE (R335): A write of unlock.key stores the service key. -/
  | unlockKeyWrite (h : Hdr) (key : List Byte)
  /-- UNLOCK_BLOCK_END (R338): The running unlock block expires. -/
  | unlockBlockEnd
  /-- PUT (R347): The SPI PUT command receives a KDP frame into a receive buffer. -/
  | put (length : Half) (bytes : List Byte) (ecc : List EccFinding)
  /-- GET (R347): The SPI GET command sends the oldest waiting frame. -/
  | get (clocked : Nat)
  /-- STAT (R346): The SPI STAT command returns status and clears RX_OVERFLOW. -/
  | stat
  /-- SPI_UNKNOWN_COMMAND (R346): An SPI transaction with an unknown command byte is ignored and counted. -/
  | spiUnknownCommand (command : Byte)
  /-- CAN_FRAME_RX (R343): A CAN FD frame with the request identifier delivers a KDP frame to Q2 or Q3. -/
  | canFrameRx (c : Fin 2) (f : CanFrame) (ecc : List EccFinding)
  /-- CAN_BITRATE_APPLY (R344): A changed CAN bit rate takes effect when the controller is next idle. -/
  | canBitrateApply (c : Fin 2)
  /-- CAN_MODE_WRITE (R345): A write of can.mode sets NORMAL, LISTEN_ONLY or OFF and ends a bus-off hold. -/
  | canModeWrite (by_ : Writer) (c : Fin 2) (mode : Byte)
  /-- REGISTER_WRITE (R304): A write of any entry without a row of its own takes effect under its access class. -/
  | registerWrite (by_ : Writer) (entry : EntryRef) (value : List Byte)
  /-- ADD (R353): Engine instruction ADD. -/
  | add (e : Fin 9) (rd ra rb : Fin 32)
  /-- SUB (R353): Engine instruction SUB. -/
  | sub (e : Fin 9) (rd ra rb : Fin 32)
  /-- AND (R353): Engine instruction AND. -/
  | and (e : Fin 9) (rd ra rb : Fin 32)
  /-- OR (R353): Engine instruction OR. -/
  | or (e : Fin 9) (rd ra rb : Fin 32)
  /-- XOR (R353): Engine instruction XOR. -/
  | xor (e : Fin 9) (rd ra rb : Fin 32)
  /-- SLL (R353): Engine instruction SLL. -/
  | sll (e : Fin 9) (rd ra rb : Fin 32)
  /-- SRL (R353): Engine instruction SRL. -/
  | srl (e : Fin 9) (rd ra rb : Fin 32)
  /-- SRA (R353): Engine instruction SRA. -/
  | sra (e : Fin 9) (rd ra rb : Fin 32)
  /-- MUL (R353): Engine instruction MUL, giving the low 32 bits. -/
  | mul (e : Fin 9) (rd ra rb : Fin 32)
  /-- MULH (R353): Engine instruction MULH, giving the signed high 32 bits. -/
  | mulh (e : Fin 9) (rd ra rb : Fin 32)
  /-- MULHU (R353): Engine instruction MULHU, giving the unsigned high 32 bits. -/
  | mulhu (e : Fin 9) (rd ra rb : Fin 32)
  /-- DIV (R354): Engine instruction DIV, signed quotient. -/
  | div (e : Fin 9) (rd ra rb : Fin 32)
  /-- DIVU (R354): Engine instruction DIVU, unsigned quotient. -/
  | divu (e : Fin 9) (rd ra rb : Fin 32)
  /-- REM (R354): Engine instruction REM, signed remainder. -/
  | rem (e : Fin 9) (rd ra rb : Fin 32)
  /-- REMU (R354): Engine instruction REMU, unsigned remainder. -/
  | remu (e : Fin 9) (rd ra rb : Fin 32)
  /-- CMP (R351): Engine instruction CMP sets flags from ra minus rb. -/
  | cmp (e : Fin 9) (ra rb : Fin 32)
  /-- CLZ (R353): Engine instruction CLZ counts leading zeros. -/
  | clz (e : Fin 9) (rd ra : Fin 32)
  /-- ADDI (R353): Engine instruction ADDI. -/
  | addi (e : Fin 9) (rd ra : Fin 32) (imm : Half)
  /-- ANDI (R353): Engine instruction ANDI. -/
  | andi (e : Fin 9) (rd ra : Fin 32) (imm : Half)
  /-- ORI (R353): Engine instruction ORI. -/
  | ori (e : Fin 9) (rd ra : Fin 32) (imm : Half)
  /-- XORI (R353): Engine instruction XORI. -/
  | xori (e : Fin 9) (rd ra : Fin 32) (imm : Half)
  /-- SHI (R353): Engine instruction SHI, a shift by an immediate. -/
  | shi (e : Fin 9) (rd ra : Fin 32) (imm : Half)
  /-- LUI (R353): Engine instruction LUI. -/
  | lui (e : Fin 9) (rd : Fin 32) (imm : Half)
  /-- CMPI (R351): Engine instruction CMPI sets flags from ra minus an immediate. -/
  | cmpi (e : Fin 9) (ra : Fin 32) (imm : Half)
  /-- LB (R353): Engine instruction LB, signed byte load. -/
  | lb (e : Fin 9) (rd ra : Fin 32) (imm : Half) (m : MemObs)
  /-- LBU (R353): Engine instruction LBU, unsigned byte load. -/
  | lbu (e : Fin 9) (rd ra : Fin 32) (imm : Half) (m : MemObs)
  /-- LH (R353): Engine instruction LH, signed halfword load. -/
  | lh (e : Fin 9) (rd ra : Fin 32) (imm : Half) (m : MemObs)
  /-- LHU (R353): Engine instruction LHU, unsigned halfword load. -/
  | lhu (e : Fin 9) (rd ra : Fin 32) (imm : Half) (m : MemObs)
  /-- LW (R353): Engine instruction LW, word load. -/
  | lw (e : Fin 9) (rd ra : Fin 32) (imm : Half) (m : MemObs)
  /-- SB (R353): Engine instruction SB, byte store. -/
  | sb (e : Fin 9) (rd ra : Fin 32) (imm : Half) (m : MemObs)
  /-- SH (R353): Engine instruction SH, halfword store. -/
  | sh (e : Fin 9) (rd ra : Fin 32) (imm : Half) (m : MemObs)
  /-- SW (R353): Engine instruction SW, word store. -/
  | sw (e : Fin 9) (rd ra : Fin 32) (imm : Half) (m : MemObs)
  /-- B (R352): Engine instruction B branches when its condition holds. -/
  | b (e : Fin 9) (cond : Cond) (offset : BitVec 22)
  /-- BL (R353): Engine instruction BL branches and links in g31. -/
  | bl (e : Fin 9) (offset : BitVec 26)
  /-- JR (R353): Engine instruction JR jumps to ra plus an immediate and links. -/
  | jr (e : Fin 9) (rd ra : Fin 32) (imm : Half)
  /-- AMOADD (R360): Atomic add on a BLOB word through a window. -/
  | amoadd (e : Fin 9) (rd ra rb : Fin 32) (m : MemObs)
  /-- AMOSWAP (R360): Atomic swap on a BLOB word through a window. -/
  | amoswap (e : Fin 9) (rd ra rb : Fin 32) (m : MemObs)
  /-- CAS (R360): Atomic compare-and-swap on a BLOB word through a window. -/
  | cas (e : Fin 9) (rd ra rb : Fin 32) (m : MemObs)
  /-- AMOOR (R360): Atomic OR on a BLOB word through a window. -/
  | amoor (e : Fin 9) (rd ra rb : Fin 32) (m : MemObs)
  /-- AMOAND (R360): Atomic AND on a BLOB word through a window. -/
  | amoand (e : Fin 9) (rd ra rb : Fin 32) (m : MemObs)
  /-- QPUSH (R276): An engine pushes a 32-byte entry to a queue, or is refused when the queue is full. -/
  | qpush (e : Fin 9) (ra : Fin 32) (imm : Half) (m : MemObs)
  /-- QPOP (R276): An engine lease-pops a queue entry, taking returned entries first. -/
  | qpop (e : Fin 9) (rd ra : Fin 32) (imm : Half) (m : MemObs)
  /-- QACK (R377): An engine acknowledges an entry, deferred to the next checkpoint when checkpointing is on. -/
  | qack (e : Fin 9) (ra : Fin 32) (imm : Half)
  /-- EWAIT (R385): An engine waits for a pending event in its mask, or for a timeout. -/
  | ewait (e : Fin 9) (rd ra : Fin 32)
  /-- ESIG (R386): An engine raises one of E105 to E111 with DATA. -/
  | esig (e : Fin 9) (ra : Fin 32) (imm : Half) (m : MemObs)
  /-- MOVE (R361): An engine starts a block move from a descriptor. -/
  | move (e : Fin 9) (rd ra : Fin 32) (m : MemObs)
  /-- MWAIT (R363): An engine waits for a move ID and receives its status. -/
  | mwait (e : Fin 9) (rd ra : Fin 32)
  /-- ASSAY (R353): An engine feeds bytes of data RAM to an Assayer. -/
  | assay (e : Fin 9) (rd ra rb : Fin 32) (m : MemObs)
  /-- TOLL (R353): An engine reads the tokens left to a class in the present period. -/
  | toll (e : Fin 9) (rd : Fin 32) (imm : Half)
  /-- TWAIT (R353): An engine stalls until the next budget period begins. -/
  | twait (e : Fin 9)
  /-- CHKPT (R376): An engine stores registers and its checkpoint region into the alternate buffer. -/
  | chkpt (e : Fin 9) (ra : Fin 32) (m : MemObs)
  /-- TRET (R353): An engine returns from a trap to TPC. -/
  | tret (e : Fin 9)
  /-- ILLEGAL_INSTRUCTION (R353): An unlisted opcode, func or cond raises a trap with cause 1. -/
  | illegalInstruction (e : Fin 9) (m : MemObs)
  /-- WDOG_WRITE (R374): A write of the WDOG port restarts the engine watchdog. -/
  | wdogWrite (e : Fin 9) (rd : Fin 32)
  /-- EVROUTE_WRITE (R358): A write of EVROUTE sets or clears the engine's ENGINE bit for an event. -/
  | evrouteWrite (e : Fin 9) (rd : Fin 32)
  /-- TIME_LO_READ (R358): A read of TIME_LO returns the time code and latches TIME_HI. -/
  | timeLoRead (e : Fin 9) (rd : Fin 32)
  /-- DICT_OP_READ (R358): A DICT_OP of 1 reads a dictionary entry into data RAM. -/
  | dictOpRead (e : Fin 9)
  /-- DICT_OP_WRITE (R358): A DICT_OP of 2 writes a dictionary entry from data RAM. -/
  | dictOpWrite (e : Fin 9) (m : MemObs)
  /-- DICT_OP_WRITE_STAGED (R358): A DICT_OP of 3 stages a dictionary entry. -/
  | dictOpWriteStaged (e : Fin 9) (m : MemObs)
  /-- DICT_OP_READ_STAGED (R358): A DICT_OP of 4 reads an entry with STAGED. -/
  | dictOpReadStaged (e : Fin 9)
  /-- MOVE_COMPLETE (R363): A block move completes or stops with its status. -/
  | moveComplete (e : Fin 9) (o : TileObs) (m : MemObs)
  /-- WATCHDOG_EXPIRY (R374): An engine watchdog expires, raising E127, and the engine fails. -/
  | watchdogExpiry (e : Fin 9)
  /-- WJ_RESUME (R378): WJ, loaded and restored from the checkpoint, resumes as the failed engine with E119. -/
  | wjResume
  /-- WJ_SELF_CHECK (R381): Once per second, the standing-by WJ runs its self-check. -/
  | wjSelfCheck (passed : Bool)
  /-- PAIR_OUTPUT_TIMEOUT (R383): One pair engine's output waits more than 20 µs for the other's, which is a pair mismatch. -/
  | pairOutputTimeout
  /-- PAIR_SELF_CHECK_DONE (R383): The self-checks after a pair mismatch complete and one or both engines are failed. -/
  | pairSelfCheckDone (pass0 pass1 : Bool)
  /-- IMAGE_WRITE (R369): A segmented write of eng.image_write writes a firmware image into the target slot. -/
  | imageWrite (h : Hdr) (image : List Byte)
  /-- IMAGE_ACTIVATE (R369): A write of eng.image_activate verifies the slot and sets the boot selector. -/
  | imageActivate (by_ : Writer)
  /-- EVT_CLEAR (R387): A write of evt.clear clears latched event status bits. -/
  | evtClear (by_ : Writer) (mask : BitVec 128)
  /-- STORM_WINDOW_END (R389): A storm window ends and sources not over the limit are unmasked. -/
  | stormWindowEnd
  /-- FIELD_SENSOR_READING (R398): A field sensor delivers its 1 ms reading and T_F is updated. -/
  | fieldSensorReading (f : Fin 32) (r : SensorObs)
  /-- THROTTLE_HOLD_END (R408): The 2 s throttle hold expires and HOLD clears. -/
  | throttleHoldEnd
  /-- TP_VOTE (R397): A protection comparator input holds at or above 160 °C for 20 µs and casts a vote. -/
  | tpVote (n : Fin 4)
  /-- TP_MONITOR_READING (R409): A protection sensor's monitor value is read every 1 ms and checked for failure. -/
  | tpMonitorReading (n : Fin 4) (r : TpObs)
  /-- ADC_GRID_POINT (R427): At a grid point, each converter starts the pending conversion of highest precedence. -/
  | adcGridPoint (z : ZeroObs)
  /-- ADC_CONVERSION_DONE (R422): A conversion completes and yields its result word. -/
  | adcConversionDone (k : Fin 4) (raw spare : Int)
  /-- GROUP_TRIGGER (R426): A group's periodic, scan or frame trigger arrives and its conversions are queued. -/
  | groupTrigger (g : Fin 8)
  /-- ADCG_FIRE (R426): A write of adcg.fire gives a SOFTWARE trigger. -/
  | adcgFire (by_ : Writer) (g : Fin 4)
  /-- ADCG_ENABLE (R439): A write of adcg.enable enables a group, or is refused. -/
  | adcgEnable (by_ : Writer) (g : Fin 4) (on : Bool)
  /-- ADC_INJ_REQUEST (R429): An injected request, by write or by a hardware source, becomes pending or is dropped. -/
  | adcInjRequest (source : InjSource)
  /-- SPARE_ROTATION (R431): Every adc.rotate_ms, the spare slice starts its calibration and shadow. -/
  | spareRotation (c : RotationObs)
  /-- SPARE_HANDOVER (R434): The shadow completes and the spare takes over its target converter. -/
  | spareHandover
  /-- SHADOW_ABANDON (R432): 4,096 grid points pass without 64 usable pairs and the rotation is abandoned. -/
  | shadowAbandon
  /-- SINK_MEASUREMENT (R447): Every sink interval, a field measures one sink against the reference sink. -/
  | sinkMeasurement (f : Fin 32) (permille : Nat)
  /-- FIELD_REF_TRIM (R450): Every cal.fref_period_ms, one field's reference DAC gain is trimmed. -/
  | fieldRefTrim (o : FrefObs)
  /-- AGING_NOTICE (R457): The stock firmware processes a Q7 Vf median and may raise AGE. -/
  | agingNotice (ecc : List EccFinding)
  /-- TRIM_MAP_SAVE (R448): After 10 minutes of LIT, the stock firmware writes changed trim codes to MRAM. -/
  | trimMapSave
  /-- MIRROR_BUILD_DONE (R443): The calibration loader completes the mirror and MIRROR_READY is set. -/
  | mirrorBuildDone (o : MirrorObs)
  /-- CAL_IMPORT (R460): A segmented import of cal.import is received, validated and written to MRAM. -/
  | calImport (h : Hdr) (file : List Byte)
  /-- VSUP_VALID (R464): VSUP stays at or above 2.65 V for 200 µs (tV) and the device starts. -/
  | vsupValid (p : StartObs)
  /-- VSUP_UV_WARN (R464): VSUP falls below 2.60 V and E0 becomes active. -/
  | vsupUvWarn (mv : Nat)
  /-- RIDE_THROUGH (R464): VSUP returns after a dip below 2.45 V and E8 is raised. -/
  | rideThrough (mv : Nat)
  /-- BROWN_OUT (R465): VSUP browns out and every domain is removed. -/
  | brownOut (journal : Nat)
  /-- DOMAIN_RAMP_DONE (R471): A domain completes its ramp, enters ON and raises E4. -/
  | domainRampDone (d : Fin 8)
  /-- DOMAIN_DRAIN_DONE (R471): A domain completes its drain, enters OFF and raises E4. -/
  | domainDrainDone (d : Fin 8)
  /-- PWR_REQUEST_READY (R476): A pwr.request of READY darkens the powered halves at the next admission point. -/
  | pwrRequestReady (by_ : Writer)
  /-- PWR_REQUEST_LIT (R476): A pwr.request of LIT relights the halves from the present drive frames. -/
  | pwrRequestLit (by_ : Writer)
  /-- PWR_REQUEST_SLEEP (R476): A pwr.request of SLEEP darkens both halves and enters SHUTDOWN-BIST at the swap. -/
  | pwrRequestSleep (by_ : Writer)
  /-- ARRAY_MASK_WRITE (R475): A write of pwr.array_mask ramps or darkens and drains an array half. -/
  | arrayMaskWrite (by_ : Writer) (mask : Byte)
  /-- WAKE_RISE (R484): A qualified WAKE rise wakes the device from AO or aborts the shutdown BIST. -/
  | wakeRise
  /-- WAKE_OFF_TIMEOUT (R476): WAKE stays low for pwr.wake_off_ms in WAKE mode, which acts as a request of SLEEP. -/
  | wakeOffTimeout
  /-- CAN_WAKE (R467): A CAN wake-up pattern on CANA_RX moves the device from AO to BOOT. -/
  | canWake
  /-- RESET_N_PULSE (R486): A qualified RESET_N pulse restarts the control plane while the latches stay lit. -/
  | resetNPulse
  /-- FLT_IN (R482): FLT_IN_N held low activates E3 and caps the k_B target. -/
  | fltIn
  /-- INPUT_STUCK (R485): An input stays active beyond its stuck timeout and E6 is raised. -/
  | inputStuck (n : Fin 4)
  /-- INPUT_PULSE_IGNORED (R485): An input pulse shorter than the filter is ignored, counted, and may raise E7. -/
  | inputPulseIgnored (n : Fin 4)
  /-- LOADSTEP_RISE (R481): At t1 minus the lead, LOADSTEP rises when the frames differ enough or the back frame is incomplete. -/
  | loadstepRise
  /-- LOADSTEP_FALL (R481): LOADSTEP falls one scan period after the swap. -/
  | loadstepFall
  /-- ANTICIPATION_END (R483): V_BAT stays high for pwr.vbat_hold_ms and anticipation ends. -/
  | anticipationEnd
  /-- VCORE_ADJUST (R487): Every 16 Toll periods, VCORE is adjusted towards the slack target. -/
  | vcoreAdjust
  /-- LANTERN_LOAD_DONE (R502): The Lantern frame is loaded from MRAM into the back latches, ready to swap. -/
  | lanternLoadDone (bad again : List Nat)
  /-- BOOT_END (R468): Boot ends and the device enters LIT or READY. -/
  | bootEnd
  /-- START_BIST_DONE (R497): The start BIST completes and its verdict decides any lockout. -/
  | startBistDone (v : StartBistObs)
  /-- SHUTDOWN_BIST (R489): On entry to SHUTDOWN-BIST, the Hallmark sequencer runs its steps and seals the record. -/
  | shutdownBist
  /-- BIST_FIRMWARE_WINDOW_END (R489): The 20 ms firmware window ends and the sequencer halts the engines. -/
  | bistFirmwareWindowEnd
  /-- BIST_ABORT (R495): A wake or reset request aborts the shutdown BIST at the next step boundary. -/
  | bistAbort
  /-- HOST_TIMEOUT (R500): The host is silent for host.timeout_ms; E96 is raised and the Lantern beam lights. -/
  | hostTimeout
  /-- FEED_LOSS (R501): The Q15 feed fails and the Lantern beam lights with cause 2. -/
  | feedLoss
  /-- LANTERN_COMMAND (R503): A write of lantern.command lights the Lantern beam with cause 5. -/
  | lanternCommand (by_ : Writer)
  /-- LANTERN_RELEASE (R504): A write of lantern.release returns the array to host frames at the next commit. -/
  | lanternRelease (by_ : Writer)
  /-- DUMP_TRIGGER (R510): E120 or a Q14 request starts a fatal-error dump. -/
  | dumpTrigger (ecc : List EccFinding)
  /-- DUMP_CLOSE (R510): 50 ms after the trigger, the dump is closed, summarised to the Ledger and E121 is raised. -/
  | dumpClose (ecc : List EccFinding)
  /-- DUMP_CLEAR (R510): A write of dump.clear clears the dump so that the next may be written. -/
  | dumpClear (by_ : Writer)
  /-- VSUP_UV_WARN_CLEAR (R464): VSUP rises back to 2.65 V or more and E0 VSUP_UV_WARN stops being active. -/
  | vsupUvWarnClear (mv : Nat)
  /-- RIDE_THROUGH_START (R464): VSUP falls below 2.45 V; the device enters ride-through, shows RIDE_THROUGH and holds VCORE. -/
  | rideThroughStart (mv : Nat)
  /-- VIO_LOSS (R518): VIO falls below 1.60 V and every VIO-level output goes high-Z while the inputs read their pulls. -/
  | vioLoss
  /-- VIO_RESTORED (R518): VIO returns to 1.60 V or more and the VIO-level pins work again. -/
  | vioRestored
  /-- FLT_IN_RELEASE (R482): FLT_IN_N is released high; E3 FLT_IN stops being active and the k_B cap is lifted. -/
  | fltInRelease
  /-- WAKE_FALL (R476): A qualified fall of WAKE starts the pwr.wake_off_ms count in WAKE mode. -/
  | wakeFall
  /-- TP_VOTE_RELEASE (R397): A protection comparator's input falls below threshold and its vote is withdrawn. -/
  | tpVoteRelease (n : Fin 4)
  /-- AIN_CLAMP (R428): An AIN pin's input clamp starts or stops conducting, which flags RECOVER on every slice and sets AIN_CLAMP. -/
  | ainClamp (pin : Fin 8) (on : Bool)
  /-- AIN_CLAMP_HOLD_END (R428): 1 ms after a clamp, AIN_CLAMP in adc.status clears. -/
  | ainClampHoldEnd
  /-- SYNC_PULSE_END (R86): The leader's 2 µs SYNC pulse ends and the SYNC pin falls. -/
  | syncPulseEnd
  /-- EWAIT_TIMEOUT (R385): The timeout of a waiting EWAIT runs out; the engine resumes with E = 1 and rd = 0xFFFFFFFF. -/
  | ewaitTimeout (e : Fin 9)
  /-- HALLMARK_STEP_DONE (R489): A Hallmark BIST step completes; its verdict is folded in and the next step starts, or the record is sealed and the device enters AO. -/
  | hallmarkStepDone (v : StepObs)
  /-- ENGINE_START (R367): Verification of the image slots completes and the device starts W0-W3, W4-W7 or the recovery loader. -/
  | engineStart (modules : List ModuleDecl)
  /-- DICT_SAVE_DONE (R311): The save of the persistent set to MRAM completes and the dict.save write is answered. -/
  | dictSaveDone
  /-- CAL_IMPORT_WRITE_DONE (R460): Writing an accepted import to MRAM completes; PENDING_RESTART is set, the BLOB is destroyed and the final segment is answered. -/
  | calImportWriteDone
  /-- BUS_OFF (R345): A CAN controller's error counting under ISO 11898-1 takes it to bus-off, and can.state shows BUS_OFF. -/
  | busOff (c : Fin 2)
  /-- BUS_OFF_RECOVERY (R345): With can.busoff_hold 0, a bus-off controller completes the standard recovery sequence and returns to the bus. -/
  | busOffRecovery (c : Fin 2)
  /-- TCK_EDGE (R534): A TCK edge advances the IEEE 1149.1 TAP, which may shift data or take control of the lands under EXTEST, CLAMP or HIGHZ. -/
  | tckEdge (j : JtagObs)
  deriving DecidableEq, Repr

end Sys2Proof
end

