-- ==== Sys2Proof/Decode.lean ====
section
/-!
DEFINITION. The words of commands. The opcode table's rows carry no bits, so no table word spells a command. The engines' instructions have words of
their own (R350 to R353): their encoder and decoder.
-/

namespace Sys2Proof

/-- No row of the table gives bits, so no word spells a command. -/
def decodeTableWord (_nbits _w : Nat) : Option Instr := none

/-! ### The engines' instruction words (R352, R353) -/

/-- R352, format R: op [31:26], rd [25:21], ra [20:16], rb [15:11], func [10:0]. -/
def wordR (op : Nat) (rd ra rb : Fin 32) (func : Nat) : Word :=
  BitVec.ofNat 32 (op * 67108864 + rd * 2097152 + ra * 65536 + rb * 2048 + func)

/-- R352, format I: op [31:26], rd [25:21], ra [20:16], imm [15:0]. -/
def wordI (op : Nat) (rd ra : Fin 32) (imm : Half) : Word :=
  BitVec.ofNat 32 (op * 67108864 + rd * 2097152 + ra * 65536 + imm.toNat)

/-- R352: the code of a condition. -/
def condCode : Cond → Nat
  | .al => 0
  | .eq => 1
  | .ne => 2
  | .lt => 3
  | .ge => 4
  | .ltu => 5
  | .geu => 6
  | .mi => 7
  | .pl => 8
  | .es => 9
  | .ec => 10

/-- R352: the condition of a code; 11 to 15 name none. -/
def condOf : Nat → Option Cond
  | 0 => some .al
  | 1 => some .eq
  | 2 => some .ne
  | 3 => some .lt
  | 4 => some .ge
  | 5 => some .ltu
  | 6 => some .geu
  | 7 => some .mi
  | 8 => some .pl
  | 9 => some .es
  | 10 => some .ec
  | _ => none

/-- R352, R353: the word of an engine's instruction; fields that an instruction does not use are 0. A command that is no instruction has none. -/
def encodeEngine : Instr → Option Word
  | .add _ rd ra rb => some (wordR 0x00 rd ra rb 0x0)
  | .sub _ rd ra rb => some (wordR 0x00 rd ra rb 0x1)
  | .and _ rd ra rb => some (wordR 0x00 rd ra rb 0x2)
  | .or _ rd ra rb => some (wordR 0x00 rd ra rb 0x3)
  | .xor _ rd ra rb => some (wordR 0x00 rd ra rb 0x4)
  | .sll _ rd ra rb => some (wordR 0x00 rd ra rb 0x5)
  | .srl _ rd ra rb => some (wordR 0x00 rd ra rb 0x6)
  | .sra _ rd ra rb => some (wordR 0x00 rd ra rb 0x7)
  | .mul _ rd ra rb => some (wordR 0x00 rd ra rb 0x8)
  | .mulh _ rd ra rb => some (wordR 0x00 rd ra rb 0x9)
  | .mulhu _ rd ra rb => some (wordR 0x00 rd ra rb 0xA)
  | .div _ rd ra rb => some (wordR 0x00 rd ra rb 0xB)
  | .divu _ rd ra rb => some (wordR 0x00 rd ra rb 0xC)
  | .rem _ rd ra rb => some (wordR 0x00 rd ra rb 0xD)
  | .remu _ rd ra rb => some (wordR 0x00 rd ra rb 0xE)
  | .cmp _ ra rb => some (wordR 0x00 0 ra rb 0xF)
  | .clz _ rd ra => some (wordR 0x00 rd ra 0 0x10)
  | .addi _ rd ra imm => some (wordI 0x1 rd ra imm)
  | .andi _ rd ra imm => some (wordI 0x2 rd ra imm)
  | .ori _ rd ra imm => some (wordI 0x3 rd ra imm)
  | .xori _ rd ra imm => some (wordI 0x4 rd ra imm)
  | .shi _ rd ra imm => some (wordI 0x5 rd ra imm)
  | .sb _ rd ra imm _ => some (wordI 0xD rd ra imm)
  | .sh _ rd ra imm _ => some (wordI 0xE rd ra imm)
  | .sw _ rd ra imm _ => some (wordI 0xF rd ra imm)
  | .jr _ rd ra imm => some (wordI 0x12 rd ra imm)
  | .qpop _ rd ra imm _ => some (wordI 0x19 rd ra imm)
  | .lb _ rd ra imm _ => some (wordI 0x8 rd ra imm)
  | .lbu _ rd ra imm _ => some (wordI 0x9 rd ra imm)
  | .lh _ rd ra imm _ => some (wordI 0xA rd ra imm)
  | .lhu _ rd ra imm _ => some (wordI 0xB rd ra imm)
  | .lw _ rd ra imm _ => some (wordI 0xC rd ra imm)
  | .cmpi _ ra imm => some (wordI 0x7 0 ra imm)
  | .qpush _ ra imm _ => some (wordI 0x18 0 ra imm)
  | .qack _ ra imm => some (wordI 0x1A 0 ra imm)
  | .esig _ ra imm _ => some (wordI 0x1D 0 ra imm)
  | .lui _ rd imm => some (wordI 0x6 rd 0 imm)
  | .toll _ rd imm => some (wordI 0x26 rd 0 imm)
  | .ewait _ rd ra => some (wordI 0x1C rd ra 0)
  | .move _ rd ra _ => some (wordI 0x20 rd ra 0)
  | .mwait _ rd ra => some (wordI 0x21 rd ra 0)
  | .b _ cond off => some (BitVec.ofNat 32 (0x10 * 67108864 + condCode cond * 4194304 + off.toNat))
  | .bl _ off => some (BitVec.ofNat 32 (0x11 * 67108864 + off.toNat))
  | .amoadd _ rd ra rb _ => some (wordR 0x14 rd ra rb 0x0)
  | .amoswap _ rd ra rb _ => some (wordR 0x14 rd ra rb 0x1)
  | .cas _ rd ra rb _ => some (wordR 0x14 rd ra rb 0x2)
  | .amoor _ rd ra rb _ => some (wordR 0x14 rd ra rb 0x3)
  | .amoand _ rd ra rb _ => some (wordR 0x14 rd ra rb 0x4)
  | .assay _ rd ra rb _ => some (wordR 0x24 rd ra rb 0)
  | .twait _ => some (wordI 0x27 0 0 0)
  | .chkpt _ ra _ => some (wordI 0x28 0 ra 0)
  | .tret _ => some (wordI 0x2C 0 0 0)
  | _ => none

/-- A register field of a word, from the unit of its lowest bit. -/
def regField (w : Word) (unit : Nat) : Fin 32 := ⟨w.toNat / unit % 32, Nat.mod_lt _ (by decide)⟩

/-- R353: opcode 0x00, by func. -/
def decodeRegister (e : Fin 9) (rd ra rb : Fin 32) (func : Nat) : Instr :=
  match func with
  | 0x0 => .add e rd ra rb
  | 0x1 => .sub e rd ra rb
  | 0x2 => .and e rd ra rb
  | 0x3 => .or e rd ra rb
  | 0x4 => .xor e rd ra rb
  | 0x5 => .sll e rd ra rb
  | 0x6 => .srl e rd ra rb
  | 0x7 => .sra e rd ra rb
  | 0x8 => .mul e rd ra rb
  | 0x9 => .mulh e rd ra rb
  | 0xA => .mulhu e rd ra rb
  | 0xB => .div e rd ra rb
  | 0xC => .divu e rd ra rb
  | 0xD => .rem e rd ra rb
  | 0xE => .remu e rd ra rb
  | 0xF => .cmp e ra rb
  | 0x10 => .clz e rd ra
  | _ => .illegalInstruction e .sound

/-- R353: opcode 0x14, by func. -/
def decodeAtomic (e : Fin 9) (rd ra rb : Fin 32) (func : Nat) : Instr :=
  match func with
  | 0x0 => .amoadd e rd ra rb .sound
  | 0x1 => .amoswap e rd ra rb .sound
  | 0x2 => .cas e rd ra rb .sound
  | 0x3 => .amoor e rd ra rb .sound
  | 0x4 => .amoand e rd ra rb .sound
  | _ => .illegalInstruction e .sound

/-- R352, R353: the instruction that a word means to an engine; an opcode, func or cond not listed is an illegal instruction. What a load or an
atomic meets in memory is no part of its word: none of the error kinds. -/
def decodeEngine (e : Fin 9) (w : Word) : Instr :=
  let rd := regField w 2097152
  let ra := regField w 65536
  let rb := regField w 2048
  let func := w.toNat % 2048
  let imm : Half := BitVec.ofNat 16 w.toNat
  match w.toNat / 67108864 with
  | 0x0 => decodeRegister e rd ra rb func
  | 0x1 => .addi e rd ra imm
  | 0x2 => .andi e rd ra imm
  | 0x3 => .ori e rd ra imm
  | 0x4 => .xori e rd ra imm
  | 0x5 => .shi e rd ra imm
  | 0x6 => .lui e rd imm
  | 0x7 => .cmpi e ra imm
  | 0x8 => .lb e rd ra imm .sound
  | 0x9 => .lbu e rd ra imm .sound
  | 0xA => .lh e rd ra imm .sound
  | 0xB => .lhu e rd ra imm .sound
  | 0xC => .lw e rd ra imm .sound
  | 0xD => .sb e rd ra imm .sound
  | 0xE => .sh e rd ra imm .sound
  | 0xF => .sw e rd ra imm .sound
  | 0x10 => match condOf (w.toNat / 4194304 % 16) with
    | some c => .b e c (BitVec.ofNat 22 w.toNat)
    | none => .illegalInstruction e .sound
  | 0x11 => .bl e (BitVec.ofNat 26 w.toNat)
  | 0x12 => .jr e rd ra imm
  | 0x14 => decodeAtomic e rd ra rb func
  | 0x18 => .qpush e ra imm .sound
  | 0x19 => .qpop e rd ra imm .sound
  | 0x1A => .qack e ra imm
  | 0x1C => .ewait e rd ra
  | 0x1D => .esig e ra imm .sound
  | 0x20 => .move e rd ra .sound
  | 0x21 => .mwait e rd ra
  | 0x24 => .assay e rd ra rb .sound
  | 0x26 => .toll e rd imm
  | 0x27 => .twait e
  | 0x28 => .chkpt e ra .sound
  | 0x2C => .tret e
  | _ => .illegalInstruction e .sound

end Sys2Proof
end

