-- ==== Sys2Proof/Config.lean ====
section
/-!
DEFINITION. What the specification leaves to the part, its factory or the moment: constants without a body.
Nothing in Lean can evaluate them, so no proof rests on a value of one.
-/

namespace Sys2Proof.Config

/-- The source of every free value that a step draws: applied to the counter `State.free`, which each draw advances. -/
opaque freeNat : Nat → Nat

/-- A free rational, for analog quantities to which the specification gives no number. -/
opaque freeRat : Nat → Rat

/-- R366: whether a 64-byte ECDSA P-256 signature over a digest verifies against the Kamoft public key. -/
opaque stockSignatureOk : (digest sig : List Byte) → Bool

/-- R366: whether a signature verifies against a public key whose SHA-256 is `keyHash`. -/
opaque extSignatureOk : (keyHash digest sig : List Byte) → Bool

/-- R534: the length of the instruction register less two; the specification names the instructions and gives no length and no code. -/
opaque jtagIrExtra : Nat

/-- R534: the instruction that a code of the instruction register other than all ones stands for: 1 SAMPLE/PRELOAD, 2 EXTEST, 3 IDCODE,
4 CLAMP, 5 HIGHZ, any other number BYPASS. -/
opaque jtagCode : (ir : Nat) → Nat

/-- R534: Kamoft's manufacturer identity in IDCODE. -/
opaque jtagManufacturer : BitVec 11

/-- R373: the luminance kept at a soft-edge pixel of a dark box, whose profile the specification does not give: box, u and v. -/
opaque maskEdge : (box : Nat) → (u v : Nat) → Nat

/-- Values of entries that the specification leaves without one, by key (the running firmware's identity under the recovery loader, R368). -/
opaque openEntry : Nat → Nat

end Sys2Proof.Config
end

