-- ==== Sys2Proof/Machine/Bits.lean ====
section
/-!
DEFINITION. Byte strings, signed values, REAL32, the check algorithms of R281 and the hash functions the
specification names by their standards. All of it is arithmetic on numerals that the kernel evaluates.
-/

namespace Sys2Proof.Machine

/-! ### Byte strings, least significant byte first (R303) -/

/-- The `n` low bytes of `v`, least significant first. -/
def bytesLE : Nat → Nat → List Byte
  | 0, _ => []
  | n + 1, v => BitVec.ofNat 8 (v % 256) :: bytesLE n (v / 256)

/-- The number that a byte string spells, least significant byte first. -/
def natLE : List Byte → Nat
  | [] => 0
  | b :: bs => b.toNat + 256 * natLE bs

/-- `n` bytes of `l` from offset `o`; past the end the string reads 0. -/
def slice (l : List Byte) (o n : Nat) : List Byte :=
  let t := (l.drop o).take n
  t ++ List.replicate (n - t.length) 0

/-- The number in bytes `o` to `o + n - 1` of `l`. -/
def field (l : List Byte) (o n : Nat) : Nat := natLE (slice l o n)

/-- `l` with the bytes `v` written from offset `o`, keeping its length when they fit. -/
def putBytes (l : List Byte) (o : Nat) (v : List Byte) : List Byte :=
  l.take o ++ v ++ l.drop (o + v.length)

/-- The numbers `a`, `a + 1`, … `a + n - 1`. -/
def span (a n : Nat) : List Nat := (List.range n).map (a + ·)

/-- Bits `hi` down to `lo` of a number. -/
def bits (v hi lo : Nat) : Nat := (v / 2 ^ lo) % 2 ^ (hi + 1 - lo)

/-- Bit `i` of a number. -/
def bitAt (v i : Nat) : Bool := v.testBit i

/-- `v` with bit `i` put to `b`. -/
def setBit (v i : Nat) (b : Bool) : Nat :=
  if b then (if v.testBit i then v else v + 2 ^ i) else (if v.testBit i then v - 2 ^ i else v)

/-- A Bool as a number (BOOL of R303). -/
def b2n (b : Bool) : Nat := if b then 1 else 0

/-- The two's complement value of the low `w` bits (INT types of R303). -/
def toInt (w v : Nat) : Int :=
  let u := v % 2 ^ w
  if u < 2 ^ (w - 1) then u else (u : Int) - (2 : Int) ^ w

/-- The `w`-bit two's complement code of an integer. -/
def ofInt (w : Nat) (i : Int) : Nat := (i % (2 : Int) ^ w).toNat

/-- An integer held within bounds. -/
def clampI (lo hi x : Int) : Int := if x < lo then lo else if hi < x then hi else x

/-- A rational held within bounds. -/
def clampQ (lo hi x : Rat) : Rat := if x < lo then lo else if hi < x then hi else x

/-- Division rounded up. -/
def ceilDiv (a b : Nat) : Nat := (a + b - 1) / b

/-- Nearest integer, halves away from minus infinity: floor (x + 1/2). -/
def roundQ (x : Rat) : Int := (x + 1 / 2).floor

/-! ### REAL32 (R303: IEEE 754 binary32) -/

/-- The value of a finite binary32 code; infinities and NaN, which no entry holds, read 0. -/
def f32ToRat (v : Nat) : Rat :=
  let e := bits v 30 23
  let m := bits v 22 0
  let mag : Rat :=
    if e = 0 then (m : Rat) / (2 ^ 149 : Nat)
    else if e = 255 then 0
    else if e ≥ 150 then (((2 ^ 23 + m) * 2 ^ (e - 150) : Nat) : Rat)
    else ((2 ^ 23 + m : Nat) : Rat) / (2 ^ (150 - e) : Nat)
  if bitAt v 31 then -mag else mag

/-- Round half to even. -/
def roundEven (x : Rat) : Int :=
  let f := x.floor
  let d := x - f
  if d < 1 / 2 then f else if 1 / 2 < d then f + 1 else if f % 2 = 0 then f else f + 1

/-- The binary32 code nearest a rational, ties to even; overflow gives the largest finite code. DESIGN CHOICE (log 12):
the specification does not state how the device rounds a REAL32. -/
def ratToF32 (q : Rat) : Nat :=
  if q = 0 then 0 else
  let s := if q < 0 then 2 ^ 31 else 0
  let a : Rat := if q < 0 then -q else q
  -- e with 2^e ≤ a < 2^(e+1), as a biased exponent estimate corrected by one
  let e0 : Int := (Nat.log2 a.num.toNat : Int) - (Nat.log2 a.den : Int)
  let pow (k : Int) : Rat := if k < 0 then 1 / ((2 ^ (-k).toNat : Nat) : Rat) else ((2 ^ k.toNat : Nat) : Rat)
  let e1 : Int := if a < pow e0 then e0 - 1 else e0
  let e2 : Int := if e1 < -126 then -126 else e1
  let m : Nat := (roundEven (a / pow (e2 - 23))).toNat
  -- m = 2^24 after rounding carries into the exponent by itself in this sum
  let code : Int := (e2 + 126) * 2 ^ 23 + m
  if code ≥ 255 * 2 ^ 23 then s + 0x7F7FFFFF else s + code.toNat

/-- Whether a REAL32 code is a number (R303: NaN and infinities are out of range). -/
def f32Finite (v : Nat) : Bool := bits v 30 23 != 255

/-! ### The check algorithms of R281 -/

/-- A row of the table of R281. -/
structure CrcAlg where
  width : Nat
  poly : Nat
  init : Nat
  reflected : Bool
  xorout : Nat
  deriving DecidableEq, Repr

/-- R281, POLY 0 to 3. -/
def crcAlg : Nat → CrcAlg
  | 0 => ⟨32, 0x04C11DB7, 0xFFFFFFFF, true, 0xFFFFFFFF⟩
  | 1 => ⟨32, 0x1EDC6F41, 0xFFFFFFFF, true, 0xFFFFFFFF⟩
  | 2 => ⟨16, 0x1021, 0xFFFF, false, 0⟩
  | _ => ⟨8, 0x2F, 0xFF, false, 0xFF⟩

/-- One bit into the register. -/
def crcBit (w poly reg : Nat) (b : Bool) : Nat :=
  let r := (reg * 2) % 2 ^ w
  if reg.testBit (w - 1) != b then r ^^^ poly else r

/-- One byte into the register, in the bit order of the algorithm. -/
def crcByte (a : CrcAlg) (reg : Nat) (x : Byte) : Nat :=
  let order := if a.reflected then [0, 1, 2, 3, 4, 5, 6, 7] else [7, 6, 5, 4, 3, 2, 1, 0]
  order.foldl (fun r i => crcBit a.width a.poly r (x.getLsbD i)) reg

/-- The running register after a byte string (R292: before reflection and output XOR). -/
def crcRun (a : CrcAlg) (reg : Nat) (l : List Byte) : Nat := l.foldl (crcByte a) reg

/-- The `w` bits of a register in reverse order. -/
def reflectBits (w v : Nat) : Nat :=
  (List.range w).foldl (fun acc i => acc + (if v.testBit i then 2 ^ (w - 1 - i) else 0)) 0

/-- The final value: reflected when the algorithm is, then the output XOR (R281). -/
def crcFinal (a : CrcAlg) (reg xorout : Nat) : Nat :=
  ((if a.reflected then reflectBits a.width reg else reg) ^^^ xorout) % 2 ^ a.width

/-- A whole check value with the table's own initial and output values. -/
def crcOf (p : Nat) (l : List Byte) : Nat :=
  let a := crcAlg p
  crcFinal a (crcRun a a.init l) a.xorout

/-- CRC-32C, the tile check word (R281). -/
def crc32c (l : List Byte) : Nat := crcOf 1 l

/-- CRC-16 of row 2 (R281): KDP frames and control packets. -/
def crc16 (l : List Byte) : Nat := crcOf 2 l

/-- CRC-8 of row 3 (R281). -/
def crc8 (l : List Byte) : Nat := crcOf 3 l

/-! ### SHA-256 and HMAC-SHA-256 -/

/-- Addition modulo 2^32. -/
def add32 (a b : Nat) : Nat := (a + b) % 4294967296

/-- Rotation right of a 32-bit number. -/
def rotr32 (x n : Nat) : Nat := (x / 2 ^ n) ||| ((x * 2 ^ (32 - n)) % 4294967296)

/-- The integer root: the greatest number below `x + 2 ^ b` whose `k`-th power is at most `n`, found bit by bit. -/
def rootFrom (k n : Nat) : Nat → Nat → Nat
  | 0, x => x
  | b + 1, x => rootFrom k n b (if (x + 2 ^ b) ^ k ≤ n then x + 2 ^ b else x)

/-- The first 64 primes, those up to 311: the numbers that no prime up to 17 properly divides. -/
def shaPrimes : List Nat := (span 2 310).filter (fun n => [2, 3, 5, 7, 11, 13, 17].all (fun d => n == d || n % d != 0))

/-- The first 32 bits of the fractional part of the `k`-th root of a number. -/
def rootFraction (k p : Nat) : Nat := rootFrom k (p * 2 ^ (32 * k)) 38 0 % 4294967296

/-- The round constants of SHA-256, from the cube roots of the primes. PRESUMED (log 13): FIPS 180-4, which the name SHA-256 stands for. -/
def shaK : List Nat := shaPrimes.map (rootFraction 3)

/-- The initial hash value of SHA-256, from the square roots of the first eight primes (log 13). -/
def shaInit : List Nat := (shaPrimes.take 8).map (rootFraction 2)

/-- A big-endian number from bytes. -/
def natBE (l : List Byte) : Nat := natLE l.reverse

/-- The message schedule of one block, newest word first, `n` words past the first sixteen. -/
def shaSchedule : Nat → List Nat → List Nat
  | 0, ws => ws
  | n + 1, ws =>
    let w2 := ws.getD 1 0
    let w7 := ws.getD 6 0
    let w15 := ws.getD 14 0
    let w16 := ws.getD 15 0
    let s0 := rotr32 w15 7 ^^^ rotr32 w15 18 ^^^ (w15 / 8)
    let s1 := rotr32 w2 17 ^^^ rotr32 w2 19 ^^^ (w2 / 1024)
    shaSchedule n (add32 (add32 w16 s0) (add32 w7 s1) :: ws)

/-- One round. -/
def shaRound (h : List Nat) (kw : Nat × Nat) : List Nat :=
  match h with
  | [a, b, c, d, e, f, g, hh] =>
    let s1 := rotr32 e 6 ^^^ rotr32 e 11 ^^^ rotr32 e 25
    let ch := (e &&& f) ^^^ ((4294967295 - e) &&& g)
    let t1 := add32 (add32 (add32 hh s1) (add32 ch kw.1)) kw.2
    let s0 := rotr32 a 2 ^^^ rotr32 a 13 ^^^ rotr32 a 22
    let mj := (a &&& b) ^^^ (a &&& c) ^^^ (b &&& c)
    [add32 t1 (add32 s0 mj), a, b, c, add32 d t1, e, f, g]
  | _ => h

/-- One 64-byte block. -/
def shaBlock (h : List Nat) (blk : List Byte) : List Nat :=
  let w0 := (List.range 16).map (fun i => natBE (slice blk (4 * i) 4))
  let w := (shaSchedule 48 w0.reverse).reverse
  List.zipWith add32 h ((shaK.zip w).foldl shaRound h)

/-- The blocks of a padded message. -/
def shaBlocks : Nat → List Byte → List Nat → List Nat
  | 0, _, h => h
  | n + 1, m, h => shaBlocks n (m.drop 64) (shaBlock h (m.take 64))

/-- The digest of a byte string, 32 bytes. -/
def sha256 (m : List Byte) : List Byte :=
  let pad := m ++ (0x80 : Byte) :: List.replicate ((119 - m.length % 64) % 64) 0 ++ (bytesLE 8 (8 * m.length)).reverse
  (shaBlocks (pad.length / 64) pad shaInit).flatMap (fun v => (bytesLE 4 v).reverse)

/-- HMAC-SHA-256 under a key of at most 64 bytes (R337). PRESUMED (log 13): RFC 2104. -/
def hmacSha256 (key msg : List Byte) : List Byte :=
  let k := slice key 0 64
  let x (v : Byte) := k.map (· ^^^ v)
  sha256 (x 0x5C ++ sha256 (x 0x36 ++ msg))

end Sys2Proof.Machine
end

