-- ==== Sys2Proof/Machine/Dict.lean ====
section
/-!
DEFINITION. The object dictionary's tables: one row for each entry or block of entries that a chapter of the
specification lists, with its type, access class, persistence, range and default (R303, R304, R310). An entry's key is
256 * index + sub-index.
-/

namespace Sys2Proof.Machine

/-- The types of R303; `domain` has a fixed size, `variable` is a variable-size DOMAIN. -/
inductive EntryType where
  | bool | u8 | u16 | u32 | u64 | i8 | i16 | i32 | i64 | real | handle | domain | variable
  deriving DecidableEq, Repr

/-- The access classes of R304. -/
inductive Access where
  | ro | rw | wo | rc
  deriving DecidableEq, Repr

/-- Persistence: not persistent, kept by dict.save, or kept by the device itself. -/
inductive Persist where
  | no | saved | kept
  deriving DecidableEq, Repr

/-- One row of a dictionary table: `indexes` consecutive indices from `index`, each with `subs` consecutive
sub-indices from `sub`. `min` and `max` are the stated range, in thousandths for REAL32; 0 and 0 stand for
the range of the type. `default` is the value's bytes as a number, least significant first. -/
structure Row where
  index : Nat
  indexes : Nat
  sub : Nat
  subs : Nat
  type : EntryType
  size : Nat
  access : Access
  persist : Persist
  min : Int
  max : Int
  default : Nat
  perSession : Bool
  deriving DecidableEq, Repr

/-! ### Keys of the entries by name -/

namespace Reg

/-- `commit.request` (chapter 03). -/
def commitRequest : Nat := 0x212001
/-- `commit.status` (chapter 03). -/
def commitStatus : Nat := 0x212002
/-- `commit.window_us` (chapter 03). -/
def commitWindowUs : Nat := 0x212003
/-- `commit.late_count` (chapter 03). -/
def commitLateCount : Nat := 0x212004
/-- `scan.period_us` (chapter 03). -/
def scanPeriodUs : Nat := 0x210001
/-- `scan.scans_per_frame` (chapter 03). -/
def scanScansPerFrame : Nat := 0x210002
/-- `scan.phase_order` (chapter 03). -/
def scanPhaseOrder : Nat := 0x210003
/-- `scan.stagger` (chapter 03). -/
def scanStagger : Nat := 0x210004
/-- `scan.kc_relax_ms` (chapter 03). -/
def scanKcRelaxMs : Nat := 0x210005
/-- `scan.kc` (chapter 03). -/
def scanKc : Nat := 0x210006
/-- `scan.period_active_ns` (chapter 03). -/
def scanPeriodActiveNs : Nat := 0x210007
/-- `scan.sweep_active_ns` (chapter 03). -/
def scanSweepActiveNs : Nat := 0x210008
/-- `scan.continuity_clip` (chapter 03). -/
def scanContinuityClip : Nat := 0x210009
/-- `scan.sweep_ns` (chapter 03). -/
def scanSweepNs (i : Nat) : Nat := 0x210101 + i
/-- `frame.sync_mode` (chapter 03). -/
def frameSyncMode : Nat := 0x211001
/-- `frame.sync_offset_ns` (chapter 03). -/
def frameSyncOffsetNs : Nat := 0x211002
/-- `frame.sync_state` (chapter 03). -/
def frameSyncState : Nat := 0x211003
/-- `frame.sync_trim_ppm` (chapter 03). -/
def frameSyncTrimPpm : Nat := 0x211004
/-- `frame.te_delay_us` (chapter 03). -/
def frameTeDelayUs : Nat := 0x211005
/-- `frame.count` (chapter 03). -/
def frameCount : Nat := 0x211006
/-- `light.budget_mw` (chapter 04). -/
def lightBudgetMw : Nat := 0x220001
/-- `light.slew_pct` (chapter 04). -/
def lightSlewPct : Nat := 0x220002
/-- `light.power_mw` (chapter 04). -/
def lightPowerMw : Nat := 0x220003
/-- `light.kb` (chapter 04). -/
def lightKb : Nat := 0x220004
/-- `drive.policy` (chapter 04). -/
def drivePolicy : Nat := 0x220005
/-- `drive.diag_min_class` (chapter 04). -/
def driveDiagMinClass : Nat := 0x220006
/-- `drive.chroma_enable` (chapter 04). -/
def driveChromaEnable : Nat := 0x220007
/-- `drive.comp_enable` (chapter 04). -/
def driveCompEnable : Nat := 0x220008
/-- `drive.comp_select` (chapter 04). -/
def driveCompSelect : Nat := 0x220009
/-- `drive.comp_sat_pct` (chapter 04). -/
def driveCompSatPct : Nat := 0x22000A
/-- `drive.clip_count` (chapter 04). -/
def driveClipCount : Nat := 0x22000B
/-- `drive.comp_sat_count` (chapter 04). -/
def driveCompSatCount : Nat := 0x22000C
/-- `drive.recompute` (chapter 04). -/
def driveRecompute : Nat := 0x22000D
/-- `drive.ipk_ua` (chapter 04). -/
def driveIpkUa (i : Nat) : Nat := 0x220101 + i
/-- `drive.class_ladder` (chapter 04). -/
def driveClassLadder (i : Nat) : Nat := 0x220201 + i
/-- `drive.tempco` (chapter 04). -/
def driveTempco : Nat := 0x220301
/-- `drive.chroma_weight` (chapter 04). -/
def driveChromaWeight : Nat := 0x220401
/-- `drive.comp_kernel` (chapter 04). -/
def driveCompKernel (i : Nat) : Nat := 0x220501 + i
/-- `drive.residual` (chapter 04). -/
def driveResidual (i : Nat) : Nat := 0x220601 + i
/-- `drive.iref_ua` (chapter 04). -/
def driveIrefUa (i : Nat) : Nat := 0x220701 + i
/-- `diag.enable` (chapter 05). -/
def diagEnable : Nat := 0x230001
/-- `diag.probe_interval` (chapter 05). -/
def diagProbeInterval : Nat := 0x230002
/-- `diag.status` (chapter 05). -/
def diagStatus : Nat := 0x230003
/-- `diag.inop_count` (chapter 05). -/
def diagInopCount : Nat := 0x230004
/-- `diag.twin_total` (chapter 05). -/
def diagTwinTotal : Nat := 0x230005
/-- `diag.twin_max` (chapter 05). -/
def diagTwinMax : Nat := 0x230006
/-- `diag.twin_weak` (chapter 05). -/
def diagTwinWeak : Nat := 0x230007
/-- `diag.blue_leak_isolate` (chapter 05). -/
def diagBlueLeakIsolate : Nat := 0x230008
/-- `diag.mass_limit` (chapter 05). -/
def diagMassLimit : Nat := 0x230009
/-- `diag.loadstep_hold_us` (chapter 05). -/
def diagLoadstepHoldUs : Nat := 0x23000A
/-- `diag.suppressed_scans` (chapter 05). -/
def diagSuppressedScans : Nat := 0x23000B
/-- `diag.notice_lost` (chapter 05). -/
def diagNoticeLost : Nat := 0x23000C
/-- `diag.clear` (chapter 05). -/
def diagClear : Nat := 0x23000D
/-- `diag.sink_weak_pct` (chapter 05). -/
def diagSinkWeakPct : Nat := 0x23000E
/-- `diag.toll_discards` (chapter 05). -/
def diagTollDiscards : Nat := 0x23000F
/-- `diag.map_handle` (chapter 05). -/
def diagMapHandle : Nat := 0x230010
/-- `diag.evidence_handle` (chapter 05). -/
def diagEvidenceHandle : Nat := 0x230011
/-- `diag.listen_uncovered` (chapter 05). -/
def diagListenUncovered : Nat := 0x230012
/-- `diag.confirm` (chapter 05). -/
def diagConfirm (i : Nat) : Nat := 0x230101 + i
/-- `diag.probe_thr` (chapter 05). -/
def diagProbeThr : Nat := 0x230201
/-- `diag.subth_thr` (chapter 05). -/
def diagSubthThr : Nat := 0x230202
/-- `diag.vf_window` (chapter 05). -/
def diagVfWindow (i : Nat) : Nat := 0x230301 + i
/-- `diag.cov_count` (chapter 05). -/
def diagCovCount (i : Nat) : Nat := 0x230401 + i
/-- `diag.twin_table` (chapter 05). -/
def diagTwinTable (i : Nat) : Nat := 0x230501 + i
/-- `diag.listen_coupling` (chapter 05). -/
def diagListenCoupling : Nat := 0x230601
/-- `diag.listen_thr` (chapter 05). -/
def diagListenThr : Nat := 0x230602
/-- `comp.orientation` (chapter 06). -/
def compOrientation : Nat := 0x240001
/-- `comp.background` (chapter 06). -/
def compBackground : Nat := 0x240002
/-- `comp.order` (chapter 06). -/
def compOrder : Nat := 0x240003
/-- `comp.glaze_enable` (chapter 06). -/
def compGlazeEnable : Nat := 0x240004
/-- `comp.admit_margin_us` (chapter 06). -/
def compAdmitMarginUs : Nat := 0x240005
/-- `comp.glaze_span` (chapter 06). -/
def compGlazeSpan : Nat := 0x240006
/-- `comp.stale_mask` (chapter 06). -/
def compStaleMask : Nat := 0x240007
/-- `comp.refused_slot` (chapter 06). -/
def compRefusedSlot : Nat := 0x240008
/-- `comp.wb_handle` (chapter 06). -/
def compWbHandle : Nat := 0x240009
/-- `comp.wb_source` (chapter 06). -/
def compWbSource : Nat := 0x24000A
/-- `comp.wb_mode` (chapter 06). -/
def compWbMode : Nat := 0x24000B
/-- `comp.wb_frame` (chapter 06). -/
def compWbFrame : Nat := 0x24000C
/-- `comp.wb_aborted` (chapter 06). -/
def compWbAborted : Nat := 0x24000D
/-- `comp.glaze_rebuilds` (chapter 06). -/
def compGlazeRebuilds : Nat := 0x24000E
/-- `comp.held_count` (chapter 06). -/
def compHeldCount : Nat := 0x24000F
/-- `layer.handle` (chapter 06). -/
def layerHandle (n : Nat) : Nat := 0x241001 + 256 * n
/-- `layer.visible` (chapter 06). -/
def layerVisible (n : Nat) : Nat := 0x241002 + 256 * n
/-- `layer.src_x` (chapter 06). -/
def layerSrcX (n : Nat) : Nat := 0x241003 + 256 * n
/-- `layer.src_y` (chapter 06). -/
def layerSrcY (n : Nat) : Nat := 0x241004 + 256 * n
/-- `layer.src_w` (chapter 06). -/
def layerSrcW (n : Nat) : Nat := 0x241005 + 256 * n
/-- `layer.src_h` (chapter 06). -/
def layerSrcH (n : Nat) : Nat := 0x241006 + 256 * n
/-- `layer.pos_u` (chapter 06). -/
def layerPosU (n : Nat) : Nat := 0x241007 + 256 * n
/-- `layer.pos_v` (chapter 06). -/
def layerPosV (n : Nat) : Nat := 0x241008 + 256 * n
/-- `layer.dst_w` (chapter 06). -/
def layerDstW (n : Nat) : Nat := 0x241009 + 256 * n
/-- `layer.dst_h` (chapter 06). -/
def layerDstH (n : Nat) : Nat := 0x24100A + 256 * n
/-- `layer.blend` (chapter 06). -/
def layerBlend (n : Nat) : Nat := 0x24100B + 256 * n
/-- `layer.gain` (chapter 06). -/
def layerGain (n : Nat) : Nat := 0x24100C + 256 * n
/-- `layer.glaze` (chapter 06). -/
def layerGlaze (n : Nat) : Nat := 0x24100D + 256 * n
/-- `layer.priority` (chapter 06). -/
def layerPriority (n : Nat) : Nat := 0x24100E + 256 * n
/-- `layer.flip_set` (chapter 06). -/
def layerFlipSet (n : Nat) : Nat := 0x24100F + 256 * n
/-- `layer.palette` (chapter 06). -/
def layerPalette (n : Nat) : Nat := 0x241010 + 256 * n
/-- `layer.stale_limit` (chapter 06). -/
def layerStaleLimit (n : Nat) : Nat := 0x241011 + 256 * n
/-- `layer.stale_policy` (chapter 06). -/
def layerStalePolicy (n : Nat) : Nat := 0x241012 + 256 * n
/-- `layer.state` (chapter 06). -/
def layerState (n : Nat) : Nat := 0x241013 + 256 * n
/-- `layer.stale_frames` (chapter 06). -/
def layerStaleFrames (n : Nat) : Nat := 0x241014 + 256 * n
/-- `layer.scaler` (chapter 06). -/
def layerScaler (n : Nat) : Nat := 0x241015 + 256 * n
/-- `lane.enable_mask` (chapter 07). -/
def laneEnableMask : Nat := 0x250001
/-- `lane.rate_max` (chapter 07). -/
def laneRateMax : Nat := 0x250002
/-- `lane.min_lanes` (chapter 07). -/
def laneMinLanes : Nat := 0x250003
/-- `lane.link_id` (chapter 07). -/
def laneLinkId : Nat := 0x250004
/-- `lane.emi_min` (chapter 07). -/
def laneEmiMin : Nat := 0x250005
/-- `lane.emi_drop` (chapter 07). -/
def laneEmiDrop : Nat := 0x250006
/-- `lane.link_state` (chapter 07). -/
def laneLinkState : Nat := 0x250007
/-- `lane.active_mask` (chapter 07). -/
def laneActiveMask : Nat := 0x250008
/-- `lane.rate_active` (chapter 07). -/
def laneRateActive : Nat := 0x250009
/-- `lane.tp_check_fail` (chapter 07). -/
def laneTpCheckFail : Nat := 0x25000A
/-- `lane.partner_absent` (chapter 07). -/
def lanePartnerAbsent : Nat := 0x25000B
/-- `lane.state` (chapter 07). -/
def laneState (n : Nat) : Nat := 0x251001 + 256 * n
/-- `lane.rung` (chapter 07). -/
def laneRung (n : Nat) : Nat := 0x251002 + 256 * n
/-- `lane.emi` (chapter 07). -/
def laneEmi (n : Nat) : Nat := 0x251003 + 256 * n
/-- `lane.ctle_db` (chapter 07). -/
def laneCtleDb (n : Nat) : Nat := 0x251004 + 256 * n
/-- `lane.dfe_mv` (chapter 07). -/
def laneDfeMv (n : Nat) : Nat := 0x251005 + 256 * n
/-- `lane.preset_tx` (chapter 07). -/
def lanePresetTx (n : Nat) : Nat := 0x251006 + 256 * n
/-- `lane.partner_lane` (chapter 07). -/
def lanePartnerLane (n : Nat) : Nat := 0x251007 + 256 * n
/-- `lane.polarity_inv` (chapter 07). -/
def lanePolarityInv (n : Nat) : Nat := 0x251008 + 256 * n
/-- `lane.lost_count` (chapter 07). -/
def laneLostCount (n : Nat) : Nat := 0x251009 + 256 * n
/-- `lane.replay_count` (chapter 07). -/
def laneReplayCount (n : Nat) : Nat := 0x25100A + 256 * n
/-- `lane.code_errors` (chapter 07). -/
def laneCodeErrors (n : Nat) : Nat := 0x25100B + 256 * n
/-- `chan.create` (chapter 08). -/
def chanCreate : Nat := 0x260001
/-- `chan.created` (chapter 08). -/
def chanCreated : Nat := 0x260002
/-- `chan.create_result` (chapter 08). -/
def chanCreateResult : Nat := 0x260003
/-- `chan.destroy` (chapter 08). -/
def chanDestroy : Nat := 0x260004
/-- `chan.live` (chapter 08). -/
def chanLive : Nat := 0x260005
/-- `chan.deferred` (chapter 08). -/
def chanDeferred : Nat := 0x260006
/-- `chan.free_pages` (chapter 08). -/
def chanFreePages : Nat := 0x260007
/-- `chan.stale_count` (chapter 08). -/
def chanStaleCount : Nat := 0x260008
/-- `store.ecc_corrected` (chapter 08). -/
def storeEccCorrected : Nat := 0x260009
/-- `store.ecc_uncorrectable` (chapter 08). -/
def storeEccUncorrectable : Nat := 0x26000A
/-- `store.rows_repaired` (chapter 08). -/
def storeRowsRepaired : Nat := 0x26000B
/-- `store.spare_rows_min` (chapter 08). -/
def storeSpareRowsMin : Nat := 0x26000C
/-- `store.scrub_tokens` (chapter 08). -/
def storeScrubTokens : Nat := 0x26000D
/-- `store.scrub_pass_ms` (chapter 08). -/
def storeScrubPassMs : Nat := 0x26000E
/-- `queue.entries` (chapter 08). -/
def queueEntries (n : Nat) : Nat := 0x261001 + 256 * n
/-- `queue.count` (chapter 08). -/
def queueCount (n : Nat) : Nat := 0x261002 + 256 * n
/-- `queue.leased` (chapter 08). -/
def queueLeased (n : Nat) : Nat := 0x261003 + 256 * n
/-- `queue.high_water` (chapter 08). -/
def queueHighWater (n : Nat) : Nat := 0x261004 + 256 * n
/-- `queue.dropped` (chapter 08). -/
def queueDropped (n : Nat) : Nat := 0x261005 + 256 * n
/-- `queue.base` (chapter 08). -/
def queueBase (n : Nat) : Nat := 0x261006 + 256 * n
/-- `integ.tile_fail` (chapter 09). -/
def integTileFail : Nat := 0x270001
/-- `integ.check_regen` (chapter 09). -/
def integCheckRegen : Nat := 0x270002
/-- `integ.reread_ok` (chapter 09). -/
def integRereadOk : Nat := 0x270003
/-- `integ.rect_status` (chapter 09). -/
def integRectStatus : Nat := 0x270004
/-- `integ.light_unsampled` (chapter 09). -/
def integLightUnsampled : Nat := 0x270005
/-- `rect.mode` (chapter 09). -/
def rectMode (n : Nat) : Nat := 0x271001 + 256 * n
/-- `rect.frame` (chapter 09). -/
def rectFrame (n : Nat) : Nat := 0x271002 + 256 * n
/-- `rect.tile_x` (chapter 09). -/
def rectTileX (n : Nat) : Nat := 0x271003 + 256 * n
/-- `rect.tile_y` (chapter 09). -/
def rectTileY (n : Nat) : Nat := 0x271004 + 256 * n
/-- `rect.tiles_w` (chapter 09). -/
def rectTilesW (n : Nat) : Nat := 0x271005 + 256 * n
/-- `rect.tiles_h` (chapter 09). -/
def rectTilesH (n : Nat) : Nat := 0x271006 + 256 * n
/-- `rect.expected` (chapter 09). -/
def rectExpected (n : Nat) : Nat := 0x271007 + 256 * n
/-- `rect.actual` (chapter 09). -/
def rectActual (n : Nat) : Nat := 0x271008 + 256 * n
/-- `rect.value_mismatches` (chapter 09). -/
def rectValueMismatches (n : Nat) : Nat := 0x271009 + 256 * n
/-- `rect.light_mismatches` (chapter 09). -/
def rectLightMismatches (n : Nat) : Nat := 0x27100A + 256 * n
/-- `rect.action` (chapter 09). -/
def rectAction (n : Nat) : Nat := 0x27100B + 256 * n
/-- `rect.learn` (chapter 09). -/
def rectLearn (n : Nat) : Nat := 0x27100C + 256 * n
/-- `assay.config` (chapter 09). -/
def assayConfig (n : Nat) : Nat := 0x272001 + 256 * n
/-- `assay.filter` (chapter 09). -/
def assayFilter (n : Nat) : Nat := 0x272002 + 256 * n
/-- `assay.init` (chapter 09). -/
def assayInit (n : Nat) : Nat := 0x272003 + 256 * n
/-- `assay.xorout` (chapter 09). -/
def assayXorout (n : Nat) : Nat := 0x272004 + 256 * n
/-- `assay.value` (chapter 09). -/
def assayValue (n : Nat) : Nat := 0x272005 + 256 * n
/-- `assay.count` (chapter 09). -/
def assayCount (n : Nat) : Nat := 0x272006 + 256 * n
/-- `assay.result` (chapter 09). -/
def assayResult (n : Nat) : Nat := 0x272007 + 256 * n
/-- `assay.reset` (chapter 09). -/
def assayReset (n : Nat) : Nat := 0x272008 + 256 * n
/-- `id.vendor` (chapter 10). -/
def idVendor : Nat := 0x100001
/-- `id.product` (chapter 10). -/
def idProduct : Nat := 0x100002
/-- `id.variant` (chapter 10). -/
def idVariant : Nat := 0x100003
/-- `id.serial` (chapter 10). -/
def idSerial : Nat := 0x100004
/-- `id.silicon_step` (chapter 10). -/
def idSiliconStep : Nat := 0x100005
/-- `id.fw_version` (chapter 10). -/
def idFwVersion : Nat := 0x100006
/-- `id.fw_image` (chapter 10). -/
def idFwImage : Nat := 0x100007
/-- `id.dict_version` (chapter 10). -/
def idDictVersion : Nat := 0x100008
/-- `id.name` (chapter 10). -/
def idName : Nat := 0x100009
/-- `dict.save` (chapter 10). -/
def dictSave : Nat := 0x101001
/-- `dict.restore` (chapter 10). -/
def dictRestore : Nat := 0x101002
/-- `dict.persist_state` (chapter 10). -/
def dictPersistState : Nat := 0x101003
/-- `dict.save_count` (chapter 10). -/
def dictSaveCount : Nat := 0x101004
/-- `kdp.data_id` (chapter 10). -/
def kdpDataId : Nat := 0x101101
/-- `kdp.session_timeout_ms` (chapter 10). -/
def kdpSessionTimeoutMs : Nat := 0x101102
/-- `kdp.sessions` (chapter 10). -/
def kdpSessions : Nat := 0x101103
/-- `kdp.keyholder` (chapter 10). -/
def kdpKeyholder : Nat := 0x101104
/-- `kdp.check_fail` (chapter 10). -/
def kdpCheckFail : Nat := 0x101105
/-- `kdp.seq_errors` (chapter 10). -/
def kdpSeqErrors : Nat := 0x101106
/-- `unlock.challenge` (chapter 10). -/
def unlockChallenge : Nat := 0x103001
/-- `unlock.response` (chapter 10). -/
def unlockResponse : Nat := 0x103002
/-- `unlock.key` (chapter 10). -/
def unlockKey : Nat := 0x103003
/-- `unlock.state` (chapter 10). -/
def unlockState : Nat := 0x103004
/-- `unlock.fail_count` (chapter 10). -/
def unlockFailCount : Nat := 0x103005
/-- `unlock.block_s` (chapter 10). -/
def unlockBlockS : Nat := 0x103006
/-- `can.mode` (chapter 10). -/
def canMode (n : Nat) : Nat := 0x102001 + 256 * n
/-- `can.nom_kbps` (chapter 10). -/
def canNomKbps (n : Nat) : Nat := 0x102002 + 256 * n
/-- `can.data_kbps` (chapter 10). -/
def canDataKbps (n : Nat) : Nat := 0x102003 + 256 * n
/-- `can.nom_sp` (chapter 10). -/
def canNomSp (n : Nat) : Nat := 0x102004 + 256 * n
/-- `can.data_sp` (chapter 10). -/
def canDataSp (n : Nat) : Nat := 0x102005 + 256 * n
/-- `can.brs` (chapter 10). -/
def canBrs (n : Nat) : Nat := 0x102006 + 256 * n
/-- `can.id_ext` (chapter 10). -/
def canIdExt (n : Nat) : Nat := 0x102007 + 256 * n
/-- `can.req_id` (chapter 10). -/
def canReqId (n : Nat) : Nat := 0x102008 + 256 * n
/-- `can.resp_id` (chapter 10). -/
def canRespId (n : Nat) : Nat := 0x102009 + 256 * n
/-- `can.notify_id` (chapter 10). -/
def canNotifyId (n : Nat) : Nat := 0x10200A + 256 * n
/-- `can.busoff_hold` (chapter 10). -/
def canBusoffHold (n : Nat) : Nat := 0x10200B + 256 * n
/-- `can.state` (chapter 10). -/
def canState (n : Nat) : Nat := 0x10200C + 256 * n
/-- `can.rx_dropped` (chapter 10). -/
def canRxDropped (n : Nat) : Nat := 0x10200D + 256 * n
/-- `can.rx_classic` (chapter 10). -/
def canRxClassic (n : Nat) : Nat := 0x10200E + 256 * n
/-- `spi.int_enable` (chapter 10). -/
def spiIntEnable : Nat := 0x102201
/-- `spi.framing_errors` (chapter 10). -/
def spiFramingErrors : Nat := 0x102202
/-- `spi.rx_dropped` (chapter 10). -/
def spiRxDropped : Nat := 0x102203
/-- `session.state` (chapter 10). -/
def sessionState (n : Nat) : Nat := 0x104101 + 256 * n
/-- `session.transport` (chapter 10). -/
def sessionTransport (n : Nat) : Nat := 0x104102 + 256 * n
/-- `session.level` (chapter 10). -/
def sessionLevel (n : Nat) : Nat := 0x104103 + 256 * n
/-- `session.notify_mask` (chapter 10). -/
def sessionNotifyMask (n : Nat) : Nat := 0x104104 + 256 * n
/-- `session.notify_lost` (chapter 10). -/
def sessionNotifyLost (n : Nat) : Nat := 0x104105 + 256 * n
/-- `beam.mode` (chapter 11). -/
def beamMode : Nat := 0x600001
/-- `beam.profile_version` (chapter 11). -/
def beamProfileVersion : Nat := 0x600002
/-- `beam.base_handle` (chapter 11). -/
def beamBaseHandle : Nat := 0x600003
/-- `beam.bend_u` (chapter 11). -/
def beamBendU : Nat := 0x600004
/-- `beam.box` (chapter 11). -/
def beamBox (i : Nat) : Nat := 0x601001 + i
/-- `beam.symbol` (chapter 11). -/
def beamSymbol (i : Nat) : Nat := 0x602001 + i
/-- `eng.pair_mode` (chapter 11). -/
def engPairMode : Nat := 0x280002
/-- `eng.watchdog_us` (chapter 11). -/
def engWatchdogUs : Nat := 0x280003
/-- `eng.failovers` (chapter 11). -/
def engFailovers : Nat := 0x280004
/-- `eng.image_target` (chapter 11). -/
def engImageTarget : Nat := 0x280005
/-- `eng.image_write` (chapter 11). -/
def engImageWrite : Nat := 0x280006
/-- `eng.image_activate` (chapter 11). -/
def engImageActivate : Nat := 0x280007
/-- `eng.image_state` (chapter 11). -/
def engImageState : Nat := 0x280008
/-- `eng.rollback_min` (chapter 11). -/
def engRollbackMin : Nat := 0x280009
/-- `eng.ext_key_hash` (chapter 11). -/
def engExtKeyHash : Nat := 0x28000A
/-- `eng.boot_select` (chapter 11). -/
def engBootSelect : Nat := 0x28000B
/-- `eng.failed_mask` (chapter 11). -/
def engFailedMask : Nat := 0x280010
/-- `eng.run_state` (chapter 11). -/
def engRunState (i : Nat) : Nat := 0x280101 + i
/-- `eng.c7_cap` (chapter 11). -/
def engC7Cap (i : Nat) : Nat := 0x280201 + i
/-- `toll.budget` (chapter 11). -/
def tollBudget (i : Nat) : Nat := 0x281001 + i
/-- `toll.used` (chapter 11). -/
def tollUsed (i : Nat) : Nat := 0x281101 + i
/-- `toll.overruns` (chapter 11). -/
def tollOverruns (i : Nat) : Nat := 0x281201 + i
/-- `toll.slack` (chapter 11). -/
def tollSlack : Nat := 0x281301
/-- `evt.config` (chapter 11). -/
def evtConfig (i : Nat) : Nat := 0x282001 + i
/-- `evt.count` (chapter 11). -/
def evtCount (i : Nat) : Nat := 0x282101 + i
/-- `evt.status` (chapter 11). -/
def evtStatus : Nat := 0x282201
/-- `evt.clear` (chapter 11). -/
def evtClear : Nat := 0x282202
/-- `evt.storm_window_ms` (chapter 11). -/
def evtStormWindowMs : Nat := 0x282203
/-- `evt.storm_mask` (chapter 11). -/
def evtStormMask : Nat := 0x282205
/-- `evt.storm_dropped` (chapter 11). -/
def evtStormDropped : Nat := 0x282206
/-- `therm.status` (chapter 12). -/
def thermStatus : Nat := 0x290001
/-- `therm.derate_start_c` (chapter 12). -/
def thermDerateStartC : Nat := 0x290002
/-- `therm.derate_end_c` (chapter 12). -/
def thermDerateEndC : Nat := 0x290003
/-- `therm.recover_pct_s` (chapter 12). -/
def thermRecoverPctS : Nat := 0x290004
/-- `therm.vote_tol_c` (chapter 12). -/
def thermVoteTolC : Nat := 0x290005
/-- `therm.voted_out` (chapter 12). -/
def thermVotedOut : Nat := 0x290006
/-- `therm.hottest_c` (chapter 12). -/
def thermHottestC : Nat := 0x290007
/-- `therm.shutdown_count` (chapter 12). -/
def thermShutdownCount : Nat := 0x290008
/-- `therm.field_c` (chapter 12). -/
def thermFieldC (i : Nat) : Nat := 0x291001 + i
/-- `therm.field_band` (chapter 12). -/
def thermFieldBand (i : Nat) : Nat := 0x291101 + i
/-- `therm.kt` (chapter 12). -/
def thermKt (i : Nat) : Nat := 0x291201 + i
/-- `therm.field_raw_c` (chapter 12). -/
def thermFieldRawC (i : Nat) : Nat := 0x291301 + i
/-- `therm.tp_c` (chapter 12). -/
def thermTpC (i : Nat) : Nat := 0x292001 + i
/-- `adc.status` (chapter 13). -/
def adcStatus : Nat := 0x2A0001
/-- `adc.slice_map` (chapter 13). -/
def adcSliceMap : Nat := 0x2A0002
/-- `adc.spare` (chapter 13). -/
def adcSpare : Nat := 0x2A0003
/-- `adc.rotate_ms` (chapter 13). -/
def adcRotateMs : Nat := 0x2A0004
/-- `adc.shadow_discards` (chapter 13). -/
def adcShadowDiscards : Nat := 0x2A0005
/-- `adc.handovers` (chapter 13). -/
def adcHandovers : Nat := 0x2A0006
/-- `adc.trig_overrun` (chapter 13). -/
def adcTrigOverrun : Nat := 0x2A0007
/-- `adc.inj_lost` (chapter 13). -/
def adcInjLost : Nat := 0x2A0008
/-- `adc.slice_offset` (chapter 13). -/
def adcSliceOffset (i : Nat) : Nat := 0x2A0101 + i
/-- `adc.slice_gain` (chapter 13). -/
def adcSliceGain (i : Nat) : Nat := 0x2A0201 + i
/-- `adc.ch_result` (chapter 13). -/
def adcChResult (i : Nat) : Nat := 0x2A1001 + i
/-- `adc.ch_value` (chapter 13). -/
def adcChValue (i : Nat) : Nat := 0x2A1101 + i
/-- `adc.inj_config` (chapter 13). -/
def adcInjConfig : Nat := 0x2A2001
/-- `adc.inj_request` (chapter 13). -/
def adcInjRequest : Nat := 0x2A2002
/-- `adc.inj_result` (chapter 13). -/
def adcInjResult (i : Nat) : Nat := 0x2A2003 + i
/-- `adc.inj_state` (chapter 13). -/
def adcInjState : Nat := 0x2A2007
/-- `adcg.mode` (chapter 13). -/
def adcgMode (n : Nat) : Nat := 0x2A3001 + 256 * n
/-- `adcg.converters` (chapter 13). -/
def adcgConverters (n : Nat) : Nat := 0x2A3002 + 256 * n
/-- `adcg.channels` (chapter 13). -/
def adcgChannels (n : Nat) : Nat := 0x2A3003 + 256 * n
/-- `adcg.count` (chapter 13). -/
def adcgCount (n : Nat) : Nat := 0x2A3004 + 256 * n
/-- `adcg.trigger` (chapter 13). -/
def adcgTrigger (n : Nat) : Nat := 0x2A3005 + 256 * n
/-- `adcg.period_ns` (chapter 13). -/
def adcgPeriodNs (n : Nat) : Nat := 0x2A3006 + 256 * n
/-- `adcg.delay_ns` (chapter 13). -/
def adcgDelayNs (n : Nat) : Nat := 0x2A3007 + 256 * n
/-- `adcg.ref` (chapter 13). -/
def adcgRef (n : Nat) : Nat := 0x2A3008 + 256 * n
/-- `adcg.wait_settle` (chapter 13). -/
def adcgWaitSettle (n : Nat) : Nat := 0x2A3009 + 256 * n
/-- `adcg.cap_handle` (chapter 13). -/
def adcgCapHandle (n : Nat) : Nat := 0x2A300A + 256 * n
/-- `adcg.cap_words` (chapter 13). -/
def adcgCapWords (n : Nat) : Nat := 0x2A300B + 256 * n
/-- `adcg.state` (chapter 13). -/
def adcgState (n : Nat) : Nat := 0x2A300C + 256 * n
/-- `adcg.enable` (chapter 13). -/
def adcgEnable (n : Nat) : Nat := 0x2A300D + 256 * n
/-- `adcg.fire` (chapter 13). -/
def adcgFire (n : Nat) : Nat := 0x2A300E + 256 * n
/-- `cal.status` (chapter 14). -/
def calStatus : Nat := 0x2B0001
/-- `cal.sink_interval_us` (chapter 14). -/
def calSinkIntervalUs : Nat := 0x2B0002
/-- `cal.sink_pass_ms` (chapter 14). -/
def calSinkPassMs : Nat := 0x2B0003
/-- `cal.trim_limit` (chapter 14). -/
def calTrimLimit : Nat := 0x2B0004
/-- `cal.discards` (chapter 14). -/
def calDiscards : Nat := 0x2B0005
/-- `cal.fref_period_ms` (chapter 14). -/
def calFrefPeriodMs : Nat := 0x2B0006
/-- `cal.aging_enable` (chapter 14). -/
def calAgingEnable : Nat := 0x2B0007
/-- `cal.age_slope` (chapter 14). -/
def calAgeSlope : Nat := 0x2B0008
/-- `cal.vf_tempco` (chapter 14). -/
def calVfTempco : Nat := 0x2B0009
/-- `cal.age_updates` (chapter 14). -/
def calAgeUpdates : Nat := 0x2B000A
/-- `cal.bin_fallback_tiles` (chapter 14). -/
def calBinFallbackTiles : Nat := 0x2B000B
/-- `cal.map_words_lost` (chapter 14). -/
def calMapWordsLost : Nat := 0x2B000C
/-- `cal.bg_pick` (chapter 14). -/
def calBgPick : Nat := 0x2B000D
/-- `cal.fref_limit` (chapter 14). -/
def calFrefLimit : Nat := 0x2B000E
/-- `cal.fref_gain` (chapter 14). -/
def calFrefGain (i : Nat) : Nat := 0x2B0101 + i
/-- `cal.import` (chapter 14). -/
def calImport : Nat := 0x2B0201
/-- `cal.import_state` (chapter 14). -/
def calImportState : Nat := 0x2B0202
/-- `cal.sink_trim` (chapter 14). -/
def calSinkTrim (i : Nat) : Nat := 0x2B0301 + i
/-- `pwr.state` (chapter 15). -/
def pwrState : Nat := 0x200001
/-- `pwr.request` (chapter 15). -/
def pwrRequest : Nat := 0x200002
/-- `pwr.start_mode` (chapter 15). -/
def pwrStartMode : Nat := 0x200003
/-- `pwr.array_mask` (chapter 15). -/
def pwrArrayMask : Nat := 0x200004
/-- `pwr.wake_off_ms` (chapter 15). -/
def pwrWakeOffMs : Nat := 0x200005
/-- `pwr.can_wake` (chapter 15). -/
def pwrCanWake : Nat := 0x200006
/-- `pwr.light_source` (chapter 15). -/
def pwrLightSource : Nat := 0x200007
/-- `pwr.domain_state` (chapter 15). -/
def pwrDomainState : Nat := 0x200008
/-- `pwr.status` (chapter 15). -/
def pwrStatus : Nat := 0x200009
/-- `pwr.vsup_mv` (chapter 15). -/
def pwrVsupMv : Nat := 0x200101
/-- `pwr.vled_mv` (chapter 15). -/
def pwrVledMv : Nat := 0x200102
/-- `pwr.vcore_mv` (chapter 15). -/
def pwrVcoreMv : Nat := 0x200103
/-- `pwr.iled_ma` (chapter 15). -/
def pwrIledMa : Nat := 0x200104
/-- `pwr.vbat_mv` (chapter 15). -/
def pwrVbatMv : Nat := 0x200105
/-- `pwr.ride_count` (chapter 15). -/
def pwrRideCount : Nat := 0x200108
/-- `pwr.hdrm_mode` (chapter 15). -/
def pwrHdrmMode : Nat := 0x200201
/-- `pwr.hdrm_target_mv` (chapter 15). -/
def pwrHdrmTargetMv : Nat := 0x200202
/-- `pwr.vled_min_mv` (chapter 15). -/
def pwrVledMinMv : Nat := 0x200203
/-- `pwr.vled_max_mv` (chapter 15). -/
def pwrVledMaxMv : Nat := 0x200204
/-- `pwr.vled_boot_mv` (chapter 15). -/
def pwrVledBootMv : Nat := 0x200205
/-- `pwr.hdrm_boost_mv` (chapter 15). -/
def pwrHdrmBoostMv : Nat := 0x200206
/-- `pwr.vled_target_mv` (chapter 15). -/
def pwrVledTargetMv : Nat := 0x200207
/-- `pwr.loadstep_lead_us` (chapter 15). -/
def pwrLoadstepLeadUs : Nat := 0x200301
/-- `pwr.loadstep_ma` (chapter 15). -/
def pwrLoadstepMa : Nat := 0x200302
/-- `pwr.loadstep_count` (chapter 15). -/
def pwrLoadstepCount : Nat := 0x200303
/-- `pwr.vbat_ratio` (chapter 15). -/
def pwrVbatRatio : Nat := 0x200401
/-- `pwr.vbat_warn_mv` (chapter 15). -/
def pwrVbatWarnMv : Nat := 0x200402
/-- `pwr.vbat_slope_mv_ms` (chapter 15). -/
def pwrVbatSlopeMvMs : Nat := 0x200403
/-- `pwr.vbat_budget_mw` (chapter 15). -/
def pwrVbatBudgetMw : Nat := 0x200404
/-- `pwr.vbat_hold_ms` (chapter 15). -/
def pwrVbatHoldMs : Nat := 0x200405
/-- `pwr.flt_kb` (chapter 15). -/
def pwrFltKb : Nat := 0x200501
/-- `pwr.vled_dip_mv` (chapter 15). -/
def pwrVledDipMv : Nat := 0x200502
/-- `pwr.vcore_slack` (chapter 15). -/
def pwrVcoreSlack : Nat := 0x200601
/-- `pwr.input_chatter` (chapter 15). -/
def pwrInputChatter (i : Nat) : Nat := 0x200701 + i
/-- `pwr.input_stuck` (chapter 15). -/
def pwrInputStuck : Nat := 0x200705
/-- `bist.last` (chapter 16). -/
def bistLast : Nat := 0x2C0001
/-- `bist.first_fail` (chapter 16). -/
def bistFirstFail : Nat := 0x2C0002
/-- `bist.start_count` (chapter 16). -/
def bistStartCount : Nat := 0x2C0003
/-- `bist.lockout` (chapter 16). -/
def bistLockout : Nat := 0x2C0004
/-- `bist.run_ms` (chapter 16). -/
def bistRunMs : Nat := 0x2C0005
/-- `bist.returned` (chapter 16). -/
def bistReturned : Nat := 0x2C0006
/-- `bist.expected` (chapter 16). -/
def bistExpected : Nat := 0x2C0007
/-- `bist.record` (chapter 16). -/
def bistRecord : Nat := 0x2C1001
/-- `ledger.first` (chapter 16). -/
def ledgerFirst : Nat := 0x2C2001
/-- `ledger.entries` (chapter 16). -/
def ledgerEntries : Nat := 0x2C2002
/-- `ledger.oldest` (chapter 16). -/
def ledgerOldest : Nat := 0x2C2003
/-- `ledger.newest` (chapter 16). -/
def ledgerNewest : Nat := 0x2C2004
/-- `ledger.fault_count` (chapter 16). -/
def ledgerFaultCount : Nat := 0x2C2005
/-- `ledger.fault_full` (chapter 16). -/
def ledgerFaultFull : Nat := 0x2C2006
/-- `dump.summary` (chapter 16). -/
def dumpSummary : Nat := 0x2C4001
/-- `dump.image` (chapter 16). -/
def dumpImage : Nat := 0x2C4101
/-- `dump.seq` (chapter 16). -/
def dumpSeq : Nat := 0x2C4201
/-- `dump.clear` (chapter 16). -/
def dumpClear : Nat := 0x2C4202
/-- `dump.suppressed` (chapter 16). -/
def dumpSuppressed : Nat := 0x2C4203
/-- `host.timeout_ms` (chapter 16). -/
def hostTimeoutMs : Nat := 0x2D0001
/-- `lantern.select` (chapter 16). -/
def lanternSelect : Nat := 0x2D0002
/-- `lantern.auto_on` (chapter 16). -/
def lanternAutoOn : Nat := 0x2D0003
/-- `lantern.release` (chapter 16). -/
def lanternRelease : Nat := 0x2D0004
/-- `lantern.command` (chapter 16). -/
def lanternCommand : Nat := 0x2D0005
/-- `lantern.state` (chapter 16). -/
def lanternState : Nat := 0x2D0006
/-- `lantern.cause` (chapter 16). -/
def lanternCause : Nat := 0x2D0007
/-- `lantern.valid` (chapter 16). -/
def lanternValid : Nat := 0x2D0008
/-- `lantern.on_bist_fail` (chapter 16). -/
def lanternOnBistFail : Nat := 0x2D0009
/-- `host.silent_ms` (chapter 16). -/
def hostSilentMs : Nat := 0x2D000A
/-- `lantern.feed_frames` (chapter 16). -/
def lanternFeedFrames : Nat := 0x2D000B

end Reg

/-! ### The tables -/

/-- Entries 0x1000 to 0x10FF, part 1. -/
def rows10a : List Row := [
  ⟨0x1000, 1, 0x01, 1, .u16, 2, .ro, .no, 0, 0, 0x4B4D, false⟩,
  ⟨0x1000, 1, 0x02, 1, .u32, 4, .ro, .no, 0, 0, 0x1048, false⟩,
  ⟨0x1000, 1, 0x03, 1, .u8, 1, .ro, .no, 0, 0, 0x0, false⟩,
  ⟨0x1000, 1, 0x04, 1, .u64, 8, .ro, .no, 0, 0, 0x0, false⟩,
  ⟨0x1000, 1, 0x05, 1, .u16, 2, .ro, .no, 0, 0, 0x0, false⟩,
  ⟨0x1000, 1, 0x06, 1, .u32, 4, .ro, .no, 0, 0, 0x0, false⟩,
  ⟨0x1000, 1, 0x07, 1, .u8, 1, .ro, .no, 0, 0, 0x0, false⟩,
  ⟨0x1000, 1, 0x08, 1, .u16, 2, .ro, .no, 0, 0, 0x100, false⟩,
  ⟨0x1000, 1, 0x09, 1, .domain, 16, .ro, .no, 0, 0, 0x383430314D2D4759, false⟩,
  ⟨0x1010, 1, 0x01, 1, .u8, 1, .wo, .no, 0, 0, 0x0, false⟩,
  ⟨0x1010, 1, 0x02, 1, .u8, 1, .wo, .no, 0, 0, 0x0, false⟩,
  ⟨0x1010, 1, 0x03, 1, .u8, 1, .ro, .no, 0, 0, 0x0, false⟩,
  ⟨0x1010, 1, 0x04, 1, .u32, 4, .ro, .no, 0, 0, 0x0, false⟩,
  ⟨0x1011, 1, 0x01, 1, .u8, 1, .rw, .saved, 1, 254, 0x4B, false⟩,
  ⟨0x1011, 1, 0x02, 1, .u16, 2, .rw, .saved, 50, 10000, 0x1F4, false⟩,
  ⟨0x1011, 1, 0x03, 1, .u8, 1, .ro, .no, 0, 0, 0x0, false⟩,
  ⟨0x1011, 1, 0x04, 1, .u8, 1, .ro, .no, 0, 0, 0x0, false⟩,
  ⟨0x1011, 1, 0x05, 1, .u32, 4, .ro, .no, 0, 0, 0x0, false⟩,
  ⟨0x1011, 1, 0x06, 1, .u32, 4, .ro, .no, 0, 0, 0x0, false⟩,
  ⟨0x1020, 2, 0x01, 1, .u8, 1, .rw, .saved, 0, 2, 0x0, false⟩,
  ⟨0x1020, 2, 0x02, 1, .u16, 2, .rw, .saved, 125, 1000, 0x1F4, false⟩,
  ⟨0x1020, 2, 0x03, 1, .u16, 2, .rw, .saved, 1000, 8000, 0x7D0, false⟩,
  ⟨0x1020, 2, 0x04, 1, .u16, 2, .rw, .saved, 600, 900, 0x320, false⟩,
  ⟨0x1020, 2, 0x05, 1, .u16, 2, .rw, .saved, 600, 900, 0x2EE, false⟩]

/-- Entries 0x1000 to 0x10FF, part 2. -/
def rows10b : List Row := [
  ⟨0x1020, 2, 0x06, 1, .bool, 1, .rw, .saved, 0, 0, 0x1, false⟩,
  ⟨0x1020, 2, 0x07, 1, .bool, 1, .rw, .saved, 0, 0, 0x0, false⟩,
  ⟨0x1020, 2, 0x08, 1, .u32, 4, .rw, .saved, 0, 536870911, 0x5A0, false⟩,
  ⟨0x1020, 2, 0x09, 1, .u32, 4, .rw, .saved, 0, 536870911, 0x5A8, false⟩,
  ⟨0x1020, 2, 0x0A, 1, .u32, 4, .rw, .saved, 0, 536870911, 0x5B0, false⟩,
  ⟨0x1020, 2, 0x0B, 1, .bool, 1, .rw, .saved, 0, 0, 0x0, false⟩,
  ⟨0x1020, 2, 0x0C, 1, .u8, 1, .ro, .no, 0, 0, 0x0, false⟩,
  ⟨0x1020, 2, 0x0D, 1, .u32, 4, .ro, .no, 0, 0, 0x0, false⟩,
  ⟨0x1020, 2, 0x0E, 1, .u32, 4, .ro, .no, 0, 0, 0x0, false⟩,
  ⟨0x1022, 1, 0x01, 1, .bool, 1, .rw, .saved, 0, 0, 0x1, false⟩,
  ⟨0x1022, 1, 0x02, 1, .u32, 4, .ro, .no, 0, 0, 0x0, false⟩,
  ⟨0x1022, 1, 0x03, 1, .u32, 4, .ro, .no, 0, 0, 0x0, false⟩,
  ⟨0x1030, 1, 0x01, 1, .domain, 16, .ro, .no, 0, 0, 0x0, true⟩,
  ⟨0x1030, 1, 0x02, 1, .domain, 32, .wo, .no, 0, 0, 0x0, false⟩,
  ⟨0x1030, 1, 0x03, 1, .domain, 32, .wo, .kept, 0, 0, 0x0, false⟩,
  ⟨0x1030, 1, 0x04, 1, .u8, 1, .ro, .no, 0, 0, 0x0, false⟩,
  ⟨0x1030, 1, 0x05, 1, .u32, 4, .ro, .kept, 0, 0, 0x0, false⟩,
  ⟨0x1030, 1, 0x06, 1, .u16, 2, .ro, .kept, 0, 0, 0x0, false⟩,
  ⟨0x1041, 8, 0x01, 1, .u8, 1, .ro, .no, 0, 0, 0x0, false⟩,
  ⟨0x1041, 8, 0x02, 1, .u8, 1, .ro, .no, 0, 0, 0xFF, false⟩,
  ⟨0x1041, 8, 0x03, 1, .u8, 1, .ro, .no, 0, 0, 0x0, false⟩,
  ⟨0x1041, 8, 0x04, 1, .domain, 16, .rw, .no, 0, 0, 0x0, false⟩,
  ⟨0x1041, 8, 0x05, 1, .u32, 4, .ro, .no, 0, 0, 0x0, false⟩]

/-- Entries 0x2000 to 0x20FF, part 1. -/
def rows20a : List Row := [
  ⟨0x2000, 1, 0x01, 1, .u8, 1, .ro, .no, 0, 0, 0x0, false⟩,
  ⟨0x2000, 1, 0x02, 1, .u8, 1, .wo, .no, 1, 3, 0x0, false⟩,
  ⟨0x2000, 1, 0x03, 1, .u8, 1, .rw, .saved, 0, 1, 0x0, false⟩,
  ⟨0x2000, 1, 0x04, 1, .u8, 1, .rw, .saved, 0, 0, 0x3, false⟩,
  ⟨0x2000, 1, 0x05, 1, .u16, 2, .rw, .saved, 10, 60000, 0x1F4, false⟩,
  ⟨0x2000, 1, 0x06, 1, .bool, 1, .rw, .saved, 0, 0, 0x1, false⟩,
  ⟨0x2000, 1, 0x07, 1, .u8, 1, .ro, .no, 0, 0, 0x0, false⟩,
  ⟨0x2000, 1, 0x08, 1, .domain, 8, .ro, .no, 0, 0, 0x0, false⟩,
  ⟨0x2000, 1, 0x09, 1, .u32, 4, .ro, .no, 0, 0, 0x0, false⟩,
  ⟨0x2001, 1, 0x01, 1, .u16, 2, .ro, .no, 0, 0, 0x0, false⟩,
  ⟨0x2001, 1, 0x02, 1, .u16, 2, .ro, .no, 0, 0, 0x0, false⟩,
  ⟨0x2001, 1, 0x03, 1, .u16, 2, .ro, .no, 0, 0, 0x0, false⟩,
  ⟨0x2001, 1, 0x04, 1, .u16, 2, .ro, .no, 0, 0, 0x0, false⟩,
  ⟨0x2001, 1, 0x05, 1, .u16, 2, .ro, .no, 0, 0, 0x0, false⟩,
  ⟨0x2001, 1, 0x08, 1, .u32, 4, .ro, .no, 0, 0, 0x0, false⟩,
  ⟨0x2002, 1, 0x01, 1, .u8, 1, .rw, .saved, 0, 2, 0x0, false⟩,
  ⟨0x2002, 1, 0x02, 1, .u16, 2, .rw, .saved, 260, 1000, 0x15E, false⟩,
  ⟨0x2002, 1, 0x03, 1, .u16, 2, .rw, .saved, 2700, 5500, 0xBB8, false⟩,
  ⟨0x2002, 1, 0x04, 1, .u16, 2, .rw, .saved, 2700, 5500, 0xFA0, false⟩,
  ⟨0x2002, 1, 0x05, 1, .u16, 2, .rw, .saved, 2700, 5500, 0xE10, false⟩,
  ⟨0x2002, 1, 0x06, 1, .u16, 2, .rw, .saved, 0, 1000, 0x96, false⟩,
  ⟨0x2002, 1, 0x07, 1, .u16, 2, .ro, .no, 0, 0, 0x0, false⟩,
  ⟨0x2003, 1, 0x01, 1, .u16, 2, .rw, .saved, 20, 1000, 0x32, false⟩,
  ⟨0x2003, 1, 0x02, 1, .u16, 2, .rw, .saved, 50, 10000, 0x1F4, false⟩]

/-- Entries 0x2000 to 0x20FF, part 2. -/
def rows20b : List Row := [
  ⟨0x2003, 1, 0x03, 1, .u32, 4, .ro, .no, 0, 0, 0x0, false⟩,
  ⟨0x2004, 1, 0x01, 1, .real, 4, .rw, .saved, 1000, 40000, 0x41200000, false⟩,
  ⟨0x2004, 1, 0x02, 1, .u16, 2, .rw, .saved, 3000, 60000, 0x2328, false⟩,
  ⟨0x2004, 1, 0x03, 1, .u16, 2, .rw, .saved, 100, 50000, 0x7D0, false⟩,
  ⟨0x2004, 1, 0x04, 1, .u16, 2, .rw, .saved, 1000, 34000, 0x1F40, false⟩,
  ⟨0x2004, 1, 0x05, 1, .u16, 2, .rw, .saved, 10, 10000, 0x1F4, false⟩,
  ⟨0x2005, 1, 0x01, 1, .real, 4, .rw, .saved, 0, 1000, 0x3F000000, false⟩,
  ⟨0x2005, 1, 0x02, 1, .u16, 2, .rw, .saved, 100, 2000, 0x12C, false⟩,
  ⟨0x2006, 1, 0x01, 1, .u8, 1, .rw, .saved, 8, 128, 0x28, false⟩,
  ⟨0x2007, 1, 0x01, 4, .u32, 4, .ro, .no, 0, 0, 0x0, false⟩,
  ⟨0x2007, 1, 0x05, 1, .u8, 1, .ro, .no, 0, 0, 0x0, false⟩]

/-- Entries 0x2100 to 0x21FF, part 1. -/
def rows21a : List Row := [
  ⟨0x2100, 1, 0x01, 1, .u16, 2, .rc, .saved, 100, 1000, 0xFA, false⟩,
  ⟨0x2100, 1, 0x02, 1, .u16, 2, .rc, .saved, 4, 400, 0x20, false⟩,
  ⟨0x2100, 1, 0x03, 1, .domain, 16, .rc, .saved, 0, 0, 0xC0609030E040B010D0708020F050A00, false⟩,
  ⟨0x2100, 1, 0x04, 1, .domain, 16, .rc, .saved, 0, 0, 0x1F0E1D0C1B0A19081706150413021100, false⟩,
  ⟨0x2100, 1, 0x05, 1, .u16, 2, .rw, .saved, 0, 10000, 0x0, false⟩,
  ⟨0x2100, 1, 0x06, 1, .real, 4, .ro, .no, 0, 0, 0x3F800000, false⟩,
  ⟨0x2100, 1, 0x07, 1, .u32, 4, .ro, .no, 0, 0, 0x3D090, false⟩,
  ⟨0x2100, 1, 0x08, 1, .u16, 2, .ro, .no, 0, 0, 0x258, false⟩,
  ⟨0x2100, 1, 0x09, 1, .u32, 4, .ro, .no, 0, 0, 0x0, false⟩,
  ⟨0x2101, 1, 0x01, 1, .u16, 2, .rc, .saved, 1200, 2000, 0x4B0, false⟩,
  ⟨0x2101, 1, 0x02, 1, .u16, 2, .rc, .saved, 600, 2000, 0x258, false⟩,
  ⟨0x2101, 1, 0x03, 1, .u16, 2, .rc, .saved, 520, 2000, 0x208, false⟩,
  ⟨0x2101, 1, 0x04, 1, .u16, 2, .rc, .saved, 460, 2000, 0x1CC, false⟩,
  ⟨0x2101, 1, 0x05, 1, .u16, 2, .rc, .saved, 400, 2000, 0x190, false⟩,
  ⟨0x2110, 1, 0x01, 1, .u8, 1, .rc, .saved, 0, 2, 0x0, false⟩,
  ⟨0x2110, 1, 0x02, 1, .i32, 4, .rc, .saved, -200000000, 200000000, 0x0, false⟩,
  ⟨0x2110, 1, 0x03, 1, .u8, 1, .ro, .no, 0, 0, 0x0, false⟩,
  ⟨0x2110, 1, 0x04, 1, .i32, 4, .ro, .no, -20000, 20000, 0x0, false⟩,
  ⟨0x2110, 1, 0x05, 1, .u32, 4, .rw, .saved, 0, 399900, 0x0, false⟩,
  ⟨0x2110, 1, 0x06, 1, .u32, 4, .ro, .no, 0, 0, 0x0, false⟩,
  ⟨0x2120, 1, 0x01, 1, .u8, 1, .wo, .no, 0, 0, 0x0, false⟩,
  ⟨0x2120, 1, 0x02, 1, .u32, 4, .ro, .no, 0, 0, 0x0, false⟩,
  ⟨0x2120, 1, 0x03, 1, .u16, 2, .rw, .saved, 50, 1000, 0x12C, false⟩,
  ⟨0x2120, 1, 0x04, 1, .u32, 4, .ro, .no, 0, 0, 0x0, false⟩]

/-- Entries 0x2200 to 0x22FF, part 1. -/
def rows22a : List Row := [
  ⟨0x2200, 1, 0x01, 1, .u16, 2, .rw, .saved, 1000, 34000, 0x4E20, false⟩,
  ⟨0x2200, 1, 0x02, 1, .u8, 1, .rw, .saved, 1, 100, 0x19, false⟩,
  ⟨0x2200, 1, 0x03, 1, .u16, 2, .ro, .no, 0, 0, 0x0, false⟩,
  ⟨0x2200, 1, 0x04, 1, .real, 4, .ro, .no, 0, 0, 0x3F800000, false⟩,
  ⟨0x2200, 1, 0x05, 1, .u8, 1, .rc, .saved, 0, 1, 0x0, false⟩,
  ⟨0x2200, 1, 0x06, 1, .u8, 1, .rc, .saved, 0, 15, 0x5, false⟩,
  ⟨0x2200, 1, 0x07, 1, .bool, 1, .rc, .saved, 0, 0, 0x1, false⟩,
  ⟨0x2200, 1, 0x08, 1, .bool, 1, .rc, .saved, 0, 0, 0x1, false⟩,
  ⟨0x2200, 1, 0x09, 1, .u64, 8, .rc, .saved, 0, 0, 0x0, false⟩,
  ⟨0x2200, 1, 0x0A, 1, .u8, 1, .rw, .saved, 50, 100, 0x5A, false⟩,
  ⟨0x2200, 1, 0x0B, 1, .u32, 4, .ro, .no, 0, 0, 0x0, false⟩,
  ⟨0x2200, 1, 0x0C, 1, .u32, 4, .ro, .no, 0, 0, 0x0, false⟩,
  ⟨0x2200, 1, 0x0D, 1, .u8, 1, .wo, .no, 0, 0, 0x0, false⟩,
  ⟨0x2201, 1, 0x01, 32, .real, 4, .rc, .saved, 20000, 160000, 0x42F00000, false⟩,
  ⟨0x2202, 1, 0x01, 5, .domain, 32, .rc, .saved, 0, 0, 0x80005F0A4666339725C31B2713850DEA09EC06F504D7034F023D0183010300AC, false⟩,
  ⟨0x2203, 1, 0x01, 1, .domain, 32, .rc, .saved, 0, 0, 0x0, false⟩,
  ⟨0x2204, 1, 0x01, 1, .domain, 16, .rc, .saved, 0, 0, 0x80008000800080008000800080008000, false⟩,
  ⟨0x2205, 1, 0x01, 4, .domain, 4, .rc, .saved, 0, 0, 0x40404040, false⟩,
  ⟨0x2206, 1, 0x01, 32, .real, 4, .ro, .no, 0, 0, 0x3F800000, false⟩,
  ⟨0x2207, 1, 0x01, 32, .real, 4, .ro, .no, 0, 0, 0x42F00000, false⟩]

/-- Entries 0x2300 to 0x23FF, part 1. -/
def rows23a : List Row := [
  ⟨0x2300, 1, 0x01, 1, .bool, 1, .rc, .saved, 0, 0, 0x1, false⟩,
  ⟨0x2300, 1, 0x02, 1, .u8, 1, .rc, .saved, 4, 64, 0x10, false⟩,
  ⟨0x2300, 1, 0x03, 1, .u32, 4, .ro, .no, 0, 0, 0x0, false⟩,
  ⟨0x2300, 1, 0x04, 1, .u32, 4, .ro, .no, 0, 0, 0x0, false⟩,
  ⟨0x2300, 1, 0x05, 1, .u16, 2, .ro, .no, 0, 0, 0x0, false⟩,
  ⟨0x2300, 1, 0x06, 1, .u8, 1, .rw, .saved, 0, 16, 0x8, false⟩,
  ⟨0x2300, 1, 0x07, 1, .bool, 1, .rw, .saved, 0, 0, 0x1, false⟩,
  ⟨0x2300, 1, 0x08, 1, .bool, 1, .rw, .saved, 0, 0, 0x1, false⟩,
  ⟨0x2300, 1, 0x09, 1, .u16, 2, .rw, .saved, 16, 4096, 0x100, false⟩,
  ⟨0x2300, 1, 0x0A, 1, .u16, 2, .rw, .saved, 50, 2000, 0xC8, false⟩,
  ⟨0x2300, 1, 0x0B, 1, .u32, 4, .ro, .no, 0, 0, 0x0, false⟩,
  ⟨0x2300, 1, 0x0C, 1, .u32, 4, .ro, .no, 0, 0, 0x0, false⟩,
  ⟨0x2300, 1, 0x0D, 1, .u32, 4, .wo, .no, 0, 1048575, 0x0, false⟩,
  ⟨0x2300, 1, 0x0E, 1, .u8, 1, .rw, .saved, 50, 95, 0x55, false⟩,
  ⟨0x2300, 1, 0x0F, 1, .u32, 4, .ro, .no, 0, 0, 0x0, false⟩,
  ⟨0x2300, 1, 0x10, 1, .handle, 4, .ro, .no, 0, 0, 0x0, false⟩,
  ⟨0x2300, 1, 0x11, 1, .handle, 4, .ro, .no, 0, 0, 0x0, false⟩,
  ⟨0x2300, 1, 0x12, 1, .u32, 4, .ro, .no, 0, 0, 0x0, false⟩,
  ⟨0x2301, 1, 0x01, 9, .u8, 1, .rc, .saved, 0, 0, 0x0, false⟩,
  ⟨0x2302, 1, 0x01, 1, .domain, 8, .rc, .saved, 0, 0, 0x366623331333599A, false⟩,
  ⟨0x2302, 1, 0x02, 1, .domain, 4, .rc, .saved, 0, 0, 0x40000400, false⟩,
  ⟨0x2303, 1, 0x01, 5, .domain, 32, .rc, .saved, 0, 0, 0x0, false⟩,
  ⟨0x2304, 1, 0x01, 3, .u32, 4, .ro, .no, 0, 0, 0x0, false⟩,
  ⟨0x2305, 1, 0x01, 32, .domain, 32, .ro, .kept, 0, 0, 0x0, false⟩]

/-- Entries 0x2300 to 0x23FF, part 2. Of the Factory values of `diag.listen_coupling` the spec gives none: 0 (DESIGN CHOICE, log 187). -/
def rows23b : List Row := [
  ⟨0x2306, 1, 0x01, 1, .domain, 96, .rc, .saved, 0, 0, 0x0, false⟩,
  ⟨0x2306, 1, 0x02, 1, .domain, 6, .rc, .saved, 0, 0, 0x26666666199A, false⟩]

/-- Entries 0x2400 to 0x24FF, part 1. -/
def rows24a : List Row := [
  ⟨0x2400, 1, 0x01, 1, .u8, 1, .rc, .saved, 0, 3, 0x0, false⟩,
  ⟨0x2400, 1, 0x02, 1, .u16, 2, .rc, .saved, 0, 0, 0x0, false⟩,
  ⟨0x2400, 1, 0x03, 1, .domain, 8, .rc, .saved, 0, 0, 0x706050403020100, false⟩,
  ⟨0x2400, 1, 0x04, 1, .bool, 1, .rc, .saved, 0, 0, 0x1, false⟩,
  ⟨0x2400, 1, 0x05, 1, .u16, 2, .rw, .saved, 0, 1000, 0x32, false⟩,
  ⟨0x2400, 1, 0x06, 1, .u8, 1, .ro, .no, 0, 0, 0x0, false⟩,
  ⟨0x2400, 1, 0x07, 1, .u8, 1, .ro, .no, 0, 0, 0x0, false⟩,
  ⟨0x2400, 1, 0x08, 1, .u8, 1, .ro, .no, 0, 0, 0xFF, false⟩,
  ⟨0x2400, 1, 0x09, 1, .handle, 4, .rc, .no, 0, 0, 0x0, false⟩,
  ⟨0x2400, 1, 0x0A, 1, .u8, 1, .rc, .no, 0, 1, 0x0, false⟩,
  ⟨0x2400, 1, 0x0B, 1, .u8, 1, .rc, .no, 0, 2, 0x0, false⟩,
  ⟨0x2400, 1, 0x0C, 1, .u32, 4, .ro, .no, 0, 0, 0x0, false⟩,
  ⟨0x2400, 1, 0x0D, 1, .u32, 4, .ro, .no, 0, 0, 0x0, false⟩,
  ⟨0x2400, 1, 0x0E, 1, .u32, 4, .ro, .no, 0, 0, 0x0, false⟩,
  ⟨0x2400, 1, 0x0F, 1, .u32, 4, .ro, .no, 0, 0, 0x0, false⟩,
  ⟨0x2410, 8, 0x01, 1, .handle, 4, .rc, .no, 0, 0, 0x0, false⟩,
  ⟨0x2410, 8, 0x02, 1, .bool, 1, .rc, .no, 0, 0, 0x0, false⟩,
  ⟨0x2410, 8, 0x03, 1, .u16, 2, .rc, .no, 0, 4095, 0x0, false⟩,
  ⟨0x2410, 8, 0x04, 1, .u16, 2, .rc, .no, 0, 2047, 0x0, false⟩,
  ⟨0x2410, 8, 0x05, 1, .u16, 2, .rc, .no, 0, 4096, 0x0, false⟩,
  ⟨0x2410, 8, 0x06, 1, .u16, 2, .rc, .no, 0, 2048, 0x0, false⟩,
  ⟨0x2410, 8, 0x07, 1, .i16, 2, .rc, .no, -16384, 16383, 0x0, false⟩,
  ⟨0x2410, 8, 0x08, 1, .i16, 2, .rc, .no, -16384, 16383, 0x0, false⟩,
  ⟨0x2410, 8, 0x09, 1, .u16, 2, .rc, .no, 0, 16384, 0x0, false⟩]

/-- Entries 0x2400 to 0x24FF, part 2. -/
def rows24b : List Row := [
  ⟨0x2410, 8, 0x0A, 1, .u16, 2, .rc, .no, 0, 8192, 0x0, false⟩,
  ⟨0x2410, 8, 0x0B, 1, .u8, 1, .rc, .no, 0, 5, 0x1, false⟩,
  ⟨0x2410, 8, 0x0C, 1, .u16, 2, .rc, .no, 0, 0, 0x8000, false⟩,
  ⟨0x2410, 8, 0x0D, 1, .bool, 1, .rc, .no, 0, 0, 0x0, false⟩,
  ⟨0x2410, 8, 0x0E, 1, .u8, 1, .rc, .no, 0, 15, 0x8, false⟩,
  ⟨0x2410, 8, 0x0F, 1, .u8, 1, .rc, .no, 0, 0, 0x0, false⟩,
  ⟨0x2410, 8, 0x10, 1, .domain, 64, .rc, .no, 0, 0, 0x0, false⟩,
  ⟨0x2410, 8, 0x11, 1, .u8, 1, .rw, .saved, 1, 255, 0x8, false⟩,
  ⟨0x2410, 8, 0x12, 1, .u8, 1, .rw, .saved, 0, 2, 0x0, false⟩,
  ⟨0x2410, 8, 0x13, 1, .u8, 1, .ro, .no, 0, 0, 0x0, false⟩,
  ⟨0x2410, 8, 0x14, 1, .u8, 1, .ro, .no, 0, 0, 0x0, false⟩,
  ⟨0x2410, 8, 0x15, 1, .u8, 1, .ro, .no, 0, 0, 0xFF, false⟩]

/-- Entries 0x2500 to 0x25FF, part 1. -/
def rows25a : List Row := [
  ⟨0x2500, 1, 0x01, 1, .u8, 1, .rw, .saved, 0, 15, 0xF, false⟩,
  ⟨0x2500, 1, 0x02, 1, .u8, 1, .rw, .saved, 0, 4, 0x0, false⟩,
  ⟨0x2500, 1, 0x03, 1, .u8, 1, .rw, .saved, 1, 4, 0x1, false⟩,
  ⟨0x2500, 1, 0x04, 1, .u8, 1, .rw, .saved, 0, 0, 0x0, false⟩,
  ⟨0x2500, 1, 0x05, 1, .u8, 1, .rw, .saved, 16, 200, 0x30, false⟩,
  ⟨0x2500, 1, 0x06, 1, .u8, 1, .rw, .saved, 0, 0, 0x18, false⟩,
  ⟨0x2500, 1, 0x07, 1, .u8, 1, .ro, .no, 0, 0, 0x0, false⟩,
  ⟨0x2500, 1, 0x08, 1, .u8, 1, .ro, .no, 0, 0, 0x0, false⟩,
  ⟨0x2500, 1, 0x09, 1, .u8, 1, .ro, .no, 0, 0, 0xFF, false⟩,
  ⟨0x2500, 1, 0x0A, 1, .u32, 4, .ro, .no, 0, 0, 0x0, false⟩,
  ⟨0x2500, 1, 0x0B, 1, .bool, 1, .ro, .no, 0, 0, 0x0, false⟩,
  ⟨0x2510, 4, 0x01, 1, .u8, 1, .ro, .no, 0, 0, 0x0, false⟩,
  ⟨0x2510, 4, 0x02, 1, .u8, 1, .ro, .no, 0, 0, 0x0, false⟩,
  ⟨0x2510, 4, 0x03, 1, .u8, 1, .ro, .no, 0, 0, 0x0, false⟩,
  ⟨0x2510, 4, 0x04, 1, .u8, 1, .ro, .no, 0, 0, 0x0, false⟩,
  ⟨0x2510, 4, 0x05, 1, .domain, 3, .ro, .no, 0, 0, 0x0, false⟩,
  ⟨0x2510, 4, 0x06, 1, .u8, 1, .ro, .no, 0, 0, 0x0, false⟩,
  ⟨0x2510, 4, 0x07, 1, .u8, 1, .ro, .no, 0, 0, 0xFF, false⟩,
  ⟨0x2510, 4, 0x08, 1, .bool, 1, .ro, .no, 0, 0, 0x0, false⟩,
  ⟨0x2510, 4, 0x09, 1, .u32, 4, .ro, .no, 0, 0, 0x0, false⟩,
  ⟨0x2510, 4, 0x0A, 1, .u32, 4, .ro, .no, 0, 0, 0x0, false⟩,
  ⟨0x2510, 4, 0x0B, 1, .u32, 4, .ro, .no, 0, 0, 0x0, false⟩]

/-- Entries 0x2600 to 0x26FF, part 1. -/
def rows26a : List Row := [
  ⟨0x2600, 1, 0x01, 1, .domain, 12, .wo, .no, 0, 0, 0x0, false⟩,
  ⟨0x2600, 1, 0x02, 1, .handle, 4, .ro, .no, 0, 0, 0x0, true⟩,
  ⟨0x2600, 1, 0x03, 1, .u8, 1, .ro, .no, 0, 0, 0x0, true⟩,
  ⟨0x2600, 1, 0x04, 1, .handle, 4, .wo, .no, 0, 0, 0x0, false⟩,
  ⟨0x2600, 1, 0x05, 1, .u16, 2, .ro, .no, 0, 0, 0x2, false⟩,
  ⟨0x2600, 1, 0x06, 1, .u16, 2, .ro, .no, 0, 0, 0x0, false⟩,
  ⟨0x2600, 1, 0x07, 1, .u16, 2, .ro, .no, 0, 0, 0x1CA0, false⟩,
  ⟨0x2600, 1, 0x08, 1, .u32, 4, .ro, .no, 0, 0, 0x0, false⟩,
  ⟨0x2600, 1, 0x09, 1, .u32, 4, .ro, .no, 0, 0, 0x0, false⟩,
  ⟨0x2600, 1, 0x0A, 1, .u32, 4, .ro, .no, 0, 0, 0x0, false⟩,
  ⟨0x2600, 1, 0x0B, 1, .u16, 2, .ro, .no, 0, 0, 0x0, false⟩,
  ⟨0x2600, 1, 0x0C, 1, .u8, 1, .ro, .no, 0, 0, 0x20, false⟩,
  ⟨0x2600, 1, 0x0D, 1, .u16, 2, .rw, .saved, 16, 1024, 0x40, false⟩,
  ⟨0x2600, 1, 0x0E, 1, .u32, 4, .ro, .no, 0, 0, 0x0, false⟩,
  ⟨0x2610, 16, 0x01, 1, .u16, 2, .rw, .saved, 32, 2048, 0x0, false⟩,
  ⟨0x2610, 16, 0x02, 1, .u16, 2, .ro, .no, 0, 0, 0x0, false⟩,
  ⟨0x2610, 16, 0x03, 1, .u16, 2, .ro, .no, 0, 0, 0x0, false⟩,
  ⟨0x2610, 16, 0x04, 1, .u16, 2, .ro, .no, 0, 0, 0x0, false⟩,
  ⟨0x2610, 16, 0x05, 1, .u32, 4, .ro, .no, 0, 0, 0x0, false⟩,
  ⟨0x2610, 16, 0x06, 1, .u32, 4, .ro, .no, 0, 0, 0x0, false⟩]

/-- Entries 0x2700 to 0x27FF, part 1. -/
def rows27a : List Row := [
  ⟨0x2700, 1, 0x01, 1, .u32, 4, .ro, .no, 0, 0, 0x0, false⟩,
  ⟨0x2700, 1, 0x02, 1, .u32, 4, .ro, .no, 0, 0, 0x0, false⟩,
  ⟨0x2700, 1, 0x03, 1, .u32, 4, .ro, .no, 0, 0, 0x0, false⟩,
  ⟨0x2700, 1, 0x04, 1, .u32, 4, .ro, .no, 0, 0, 0x0, false⟩,
  ⟨0x2700, 1, 0x05, 1, .u16, 2, .ro, .no, 0, 0, 0x0, false⟩,
  ⟨0x2710, 16, 0x01, 1, .u8, 1, .rc, .no, 0, 3, 0x0, false⟩,
  ⟨0x2710, 16, 0x02, 1, .u8, 1, .rc, .no, 0, 1, 0x0, false⟩,
  ⟨0x2710, 16, 0x03, 1, .u8, 1, .rc, .no, 0, 127, 0x0, false⟩,
  ⟨0x2710, 16, 0x04, 1, .u8, 1, .rc, .no, 0, 31, 0x0, false⟩,
  ⟨0x2710, 16, 0x05, 1, .u8, 1, .rc, .no, 1, 128, 0x1, false⟩,
  ⟨0x2710, 16, 0x06, 1, .u8, 1, .rc, .no, 1, 32, 0x1, false⟩,
  ⟨0x2710, 16, 0x07, 1, .u32, 4, .rc, .no, 0, 0, 0x0, false⟩,
  ⟨0x2710, 16, 0x08, 1, .u32, 4, .ro, .no, 0, 0, 0x0, false⟩,
  ⟨0x2710, 16, 0x09, 1, .u32, 4, .ro, .no, 0, 0, 0x0, false⟩,
  ⟨0x2710, 16, 0x0A, 1, .u32, 4, .ro, .no, 0, 0, 0x0, false⟩,
  ⟨0x2710, 16, 0x0B, 1, .u8, 1, .rw, .saved, 0, 1, 0x0, false⟩,
  ⟨0x2710, 16, 0x0C, 1, .u8, 1, .wo, .no, 0, 0, 0x0, false⟩,
  ⟨0x2720, 8, 0x01, 1, .u32, 4, .rw, .no, 0, 0, 0x4, false⟩,
  ⟨0x2720, 8, 0x02, 1, .handle, 4, .rw, .no, 0, 0, 0x0, false⟩,
  ⟨0x2720, 8, 0x03, 1, .u32, 4, .rw, .no, 0, 0, 0xFFFFFFFF, false⟩,
  ⟨0x2720, 8, 0x04, 1, .u32, 4, .rw, .no, 0, 0, 0xFFFFFFFF, false⟩,
  ⟨0x2720, 8, 0x05, 1, .u32, 4, .rw, .no, 0, 0, 0x0, false⟩,
  ⟨0x2720, 8, 0x06, 1, .u32, 4, .rw, .no, 0, 0, 0x0, false⟩,
  ⟨0x2720, 8, 0x07, 1, .u32, 4, .ro, .no, 0, 0, 0x0, false⟩]

/-- Entries 0x2700 to 0x27FF, part 2. -/
def rows27b : List Row := [
  ⟨0x2720, 8, 0x08, 1, .u8, 1, .wo, .no, 0, 0, 0x0, false⟩]

/-- Entries 0x2800 to 0x28FF, part 1. -/
def rows28a : List Row := [
  ⟨0x2800, 1, 0x02, 1, .bool, 1, .rw, .saved, 0, 0, 0x1, false⟩,
  ⟨0x2800, 1, 0x03, 1, .u32, 4, .rw, .saved, 100, 1000000, 0x2710, false⟩,
  ⟨0x2800, 1, 0x04, 1, .u32, 4, .ro, .no, 0, 0, 0x0, false⟩,
  ⟨0x2800, 1, 0x05, 1, .u8, 1, .rw, .no, 0, 1, 0x0, false⟩,
  ⟨0x2800, 1, 0x06, 1, .variable, 2097152, .wo, .no, 0, 0, 0x0, false⟩,
  ⟨0x2800, 1, 0x07, 1, .u8, 1, .wo, .no, 0, 0, 0x0, false⟩,
  ⟨0x2800, 1, 0x08, 1, .u8, 1, .ro, .no, 0, 0, 0x0, false⟩,
  ⟨0x2800, 1, 0x09, 1, .u32, 4, .ro, .kept, 0, 0, 0x0, false⟩,
  ⟨0x2800, 1, 0x0A, 1, .domain, 32, .wo, .kept, 0, 0, 0x0, false⟩,
  ⟨0x2800, 1, 0x0B, 1, .u8, 1, .ro, .kept, 0, 0, 0xFF, false⟩,
  ⟨0x2800, 1, 0x10, 1, .u16, 2, .ro, .no, 0, 0, 0xF000, false⟩,
  ⟨0x2801, 1, 0x01, 9, .u8, 1, .ro, .no, 0, 0, 0x0, false⟩,
  ⟨0x2802, 1, 0x01, 9, .u32, 4, .rw, .saved, 0, 0, 0x0, false⟩,
  ⟨0x2810, 1, 0x01, 8, .u32, 4, .rc, .saved, 0, 0, 0x0, false⟩,
  ⟨0x2811, 1, 0x01, 8, .u32, 4, .ro, .no, 0, 0, 0x0, false⟩,
  ⟨0x2812, 1, 0x01, 8, .u32, 4, .ro, .no, 0, 0, 0x0, false⟩,
  ⟨0x2813, 1, 0x01, 1, .u8, 1, .ro, .no, 0, 0, 0x0, false⟩,
  ⟨0x2820, 1, 0x01, 128, .u32, 4, .rw, .saved, 0, 0, 0x0, false⟩,
  ⟨0x2821, 1, 0x01, 128, .u32, 4, .ro, .no, 0, 0, 0x0, false⟩,
  ⟨0x2822, 1, 0x01, 1, .domain, 16, .ro, .no, 0, 0, 0x0, false⟩,
  ⟨0x2822, 1, 0x02, 1, .domain, 16, .wo, .no, 0, 0, 0x0, false⟩,
  ⟨0x2822, 1, 0x03, 1, .u16, 2, .rw, .saved, 10, 1000, 0x64, false⟩,
  ⟨0x2822, 1, 0x05, 1, .domain, 16, .ro, .no, 0, 0, 0x0, false⟩,
  ⟨0x2822, 1, 0x06, 1, .u32, 4, .ro, .no, 0, 0, 0x0, false⟩]

/-- Entries 0x2900 to 0x29FF, part 1. -/
def rows29a : List Row := [
  ⟨0x2900, 1, 0x01, 1, .u32, 4, .ro, .no, 0, 0, 0x0, false⟩,
  ⟨0x2900, 1, 0x02, 1, .i16, 2, .rw, .saved, 80, 110, 0x6E, false⟩,
  ⟨0x2900, 1, 0x03, 1, .i16, 2, .rw, .saved, 90, 140, 0x8C, false⟩,
  ⟨0x2900, 1, 0x04, 1, .u8, 1, .rw, .saved, 1, 50, 0x5, false⟩,
  ⟨0x2900, 1, 0x05, 1, .u8, 1, .rw, .saved, 8, 40, 0xF, false⟩,
  ⟨0x2900, 1, 0x06, 1, .u32, 4, .ro, .no, 0, 0, 0x0, false⟩,
  ⟨0x2900, 1, 0x07, 1, .real, 4, .ro, .no, 0, 0, 0x0, false⟩,
  ⟨0x2900, 1, 0x08, 1, .u32, 4, .ro, .kept, 0, 0, 0x0, false⟩,
  ⟨0x2910, 1, 0x01, 32, .real, 4, .ro, .no, 0, 0, 0x0, false⟩,
  ⟨0x2911, 1, 0x01, 32, .u8, 1, .ro, .no, 0, 0, 0x0, false⟩,
  ⟨0x2912, 1, 0x01, 32, .real, 4, .ro, .no, 0, 0, 0x3F800000, false⟩,
  ⟨0x2913, 1, 0x01, 32, .real, 4, .ro, .no, 0, 0, 0x0, false⟩,
  ⟨0x2920, 1, 0x01, 4, .real, 4, .ro, .no, 0, 0, 0x0, false⟩]

/-- Entries 0x2A00 to 0x2AFF, part 1. -/
def rows2Aa : List Row := [
  ⟨0x2A00, 1, 0x01, 1, .u32, 4, .ro, .no, 0, 0, 0x0, false⟩,
  ⟨0x2A00, 1, 0x02, 1, .domain, 4, .ro, .no, 0, 0, 0x3020100, false⟩,
  ⟨0x2A00, 1, 0x03, 1, .u8, 1, .ro, .no, 0, 0, 0x4, false⟩,
  ⟨0x2A00, 1, 0x04, 1, .u16, 2, .rw, .saved, 20, 10000, 0x64, false⟩,
  ⟨0x2A00, 1, 0x05, 1, .u32, 4, .ro, .no, 0, 0, 0x0, false⟩,
  ⟨0x2A00, 1, 0x06, 1, .u32, 4, .ro, .no, 0, 0, 0x0, false⟩,
  ⟨0x2A00, 1, 0x07, 1, .u32, 4, .ro, .no, 0, 0, 0x0, false⟩,
  ⟨0x2A00, 1, 0x08, 1, .u32, 4, .ro, .no, 0, 0, 0x0, false⟩,
  ⟨0x2A01, 1, 0x01, 5, .i16, 2, .ro, .no, 0, 0, 0x0, false⟩,
  ⟨0x2A02, 1, 0x01, 5, .i32, 4, .ro, .no, 0, 0, 0x0, false⟩,
  ⟨0x2A10, 1, 0x01, 24, .u32, 4, .ro, .no, 0, 0, 0x0, false⟩,
  ⟨0x2A11, 1, 0x01, 24, .real, 4, .ro, .no, 0, 0, 0x0, false⟩,
  ⟨0x2A20, 1, 0x01, 1, .u32, 4, .rw, .saved, 0, 0, 0x0, false⟩,
  ⟨0x2A20, 1, 0x02, 1, .u8, 1, .wo, .no, 0, 0, 0x0, false⟩,
  ⟨0x2A20, 1, 0x03, 4, .u32, 4, .ro, .no, 0, 0, 0x0, false⟩,
  ⟨0x2A20, 1, 0x07, 1, .u8, 1, .ro, .no, 0, 0, 0x0, false⟩,
  ⟨0x2A30, 8, 0x01, 1, .u8, 1, .rw, .saved, 0, 2, 0x0, false⟩,
  ⟨0x2A30, 8, 0x02, 1, .u8, 1, .rw, .saved, 0, 0, 0x4, false⟩,
  ⟨0x2A30, 8, 0x03, 1, .domain, 8, .rw, .saved, 0, 0, 0x0, false⟩,
  ⟨0x2A30, 8, 0x04, 1, .u16, 2, .rw, .saved, 1, 65535, 0x1, false⟩,
  ⟨0x2A30, 8, 0x05, 1, .u8, 1, .rw, .saved, 0, 4, 0x0, false⟩,
  ⟨0x2A30, 8, 0x06, 1, .u32, 4, .rw, .saved, 100, 1000000000, 0x3E8, false⟩,
  ⟨0x2A30, 8, 0x07, 1, .u32, 4, .rw, .saved, 0, 1000000000, 0x0, false⟩,
  ⟨0x2A30, 8, 0x08, 1, .u8, 1, .rw, .saved, 0, 2, 0x0, false⟩]

/-- Entries 0x2A00 to 0x2AFF, part 2. -/
def rows2Ab : List Row := [
  ⟨0x2A30, 8, 0x09, 1, .bool, 1, .rw, .saved, 0, 0, 0x1, false⟩,
  ⟨0x2A30, 8, 0x0A, 1, .handle, 4, .rw, .no, 0, 0, 0x0, false⟩,
  ⟨0x2A30, 8, 0x0B, 1, .u32, 4, .rw, .no, 0, 0, 0x0, false⟩,
  ⟨0x2A30, 8, 0x0C, 1, .u8, 1, .ro, .no, 0, 0, 0x0, false⟩,
  ⟨0x2A30, 8, 0x0D, 1, .bool, 1, .rw, .saved, 0, 0, 0x0, false⟩,
  ⟨0x2A30, 8, 0x0E, 1, .u8, 1, .wo, .no, 0, 0, 0x0, false⟩]

/-- Entries 0x2B00 to 0x2BFF, part 1. -/
def rows2Ba : List Row := [
  ⟨0x2B00, 1, 0x01, 1, .u32, 4, .ro, .no, 0, 0, 0x0, false⟩,
  ⟨0x2B00, 1, 0x02, 1, .u16, 2, .rw, .saved, 100, 976, 0x384, false⟩,
  ⟨0x2B00, 1, 0x03, 1, .u32, 4, .ro, .no, 0, 0, 0x0, false⟩,
  ⟨0x2B00, 1, 0x04, 1, .u16, 2, .ro, .no, 0, 0, 0x0, false⟩,
  ⟨0x2B00, 1, 0x05, 1, .u32, 4, .ro, .no, 0, 0, 0x0, false⟩,
  ⟨0x2B00, 1, 0x06, 1, .u16, 2, .rw, .saved, 16, 1000, 0x40, false⟩,
  ⟨0x2B00, 1, 0x07, 1, .bool, 1, .rw, .saved, 0, 0, 0x1, false⟩,
  ⟨0x2B00, 1, 0x08, 1, .u16, 2, .rw, .saved, 0, 4000, 0x320, false⟩,
  ⟨0x2B00, 1, 0x09, 1, .i16, 2, .rw, .saved, -400, 0, 0xFF6A, false⟩,
  ⟨0x2B00, 1, 0x0A, 1, .u32, 4, .ro, .no, 0, 0, 0x0, false⟩,
  ⟨0x2B00, 1, 0x0B, 1, .u16, 2, .ro, .no, 0, 0, 0x0, false⟩,
  ⟨0x2B00, 1, 0x0C, 1, .u32, 4, .ro, .no, 0, 0, 0x0, false⟩,
  ⟨0x2B00, 1, 0x0D, 1, .u8, 1, .ro, .no, 0, 0, 0x0, false⟩,
  ⟨0x2B00, 1, 0x0E, 1, .u32, 4, .ro, .no, 0, 0, 0x0, false⟩,
  ⟨0x2B01, 1, 0x01, 32, .real, 4, .ro, .no, 0, 0, 0x0, false⟩,
  ⟨0x2B02, 1, 0x01, 1, .variable, 4211268, .wo, .no, 0, 0, 0x0, false⟩,
  ⟨0x2B02, 1, 0x02, 1, .u8, 1, .ro, .no, 0, 0, 0x0, false⟩,
  ⟨0x2B03, 1, 0x01, 32, .domain, 2048, .ro, .no, 0, 0, 0x0, false⟩]

/-- Entries 0x2C00 to 0x2CFF, part 1. -/
def rows2Ca : List Row := [
  ⟨0x2C00, 1, 0x01, 1, .u8, 1, .ro, .no, 0, 0, 0x0, false⟩,
  ⟨0x2C00, 1, 0x02, 1, .u16, 2, .ro, .no, 0, 0, 0xFFFF, false⟩,
  ⟨0x2C00, 1, 0x03, 1, .u32, 4, .ro, .kept, 0, 0, 0x0, false⟩,
  ⟨0x2C00, 1, 0x04, 1, .bool, 1, .ro, .no, 0, 0, 0x0, false⟩,
  ⟨0x2C00, 1, 0x05, 1, .u16, 2, .ro, .no, 0, 0, 0x0, false⟩,
  ⟨0x2C00, 1, 0x06, 1, .u16, 2, .ro, .no, 0, 0, 0x0, false⟩,
  ⟨0x2C00, 1, 0x07, 1, .u32, 4, .ro, .no, 0, 0, 0xAE18CD4B, false⟩,
  ⟨0x2C10, 1, 0x01, 1, .domain, 512, .ro, .no, 0, 0, 0x0, false⟩,
  ⟨0x2C20, 1, 0x01, 1, .u32, 4, .rw, .no, 0, 0, 0x0, false⟩,
  ⟨0x2C20, 1, 0x02, 1, .variable, 2048, .ro, .no, 0, 0, 0x0, false⟩,
  ⟨0x2C20, 1, 0x03, 1, .u32, 4, .ro, .no, 0, 0, 0x0, false⟩,
  ⟨0x2C20, 1, 0x04, 1, .u32, 4, .ro, .no, 0, 0, 0x0, false⟩,
  ⟨0x2C20, 1, 0x05, 1, .u16, 2, .ro, .no, 0, 0, 0x0, false⟩,
  ⟨0x2C20, 1, 0x06, 1, .u32, 4, .ro, .kept, 0, 0, 0x0, false⟩,
  ⟨0x2C40, 1, 0x01, 1, .domain, 4096, .ro, .kept, 0, 0, 0x0, false⟩,
  ⟨0x2C41, 1, 0x01, 1, .variable, 1048576, .ro, .no, 0, 0, 0x0, false⟩,
  ⟨0x2C42, 1, 0x01, 1, .u32, 4, .ro, .kept, 0, 0, 0x0, false⟩,
  ⟨0x2C42, 1, 0x02, 1, .u8, 1, .wo, .no, 0, 0, 0x0, false⟩,
  ⟨0x2C42, 1, 0x03, 1, .u32, 4, .ro, .no, 0, 0, 0x0, false⟩]

/-- Entries 0x2D00 to 0x2DFF, part 1. -/
def rows2Da : List Row := [
  ⟨0x2D00, 1, 0x01, 1, .u16, 2, .rw, .saved, 20, 1000, 0x64, false⟩,
  ⟨0x2D00, 1, 0x02, 1, .u8, 1, .rw, .saved, 0, 1, 0x0, false⟩,
  ⟨0x2D00, 1, 0x03, 1, .bool, 1, .rw, .saved, 0, 0, 0x1, false⟩,
  ⟨0x2D00, 1, 0x04, 1, .u8, 1, .wo, .no, 0, 0, 0x0, false⟩,
  ⟨0x2D00, 1, 0x05, 1, .u8, 1, .wo, .no, 0, 0, 0x0, false⟩,
  ⟨0x2D00, 1, 0x06, 1, .u8, 1, .ro, .no, 0, 0, 0x0, false⟩,
  ⟨0x2D00, 1, 0x07, 1, .u8, 1, .ro, .no, 0, 0, 0xFF, false⟩,
  ⟨0x2D00, 1, 0x08, 1, .u8, 1, .ro, .no, 0, 0, 0x0, false⟩,
  ⟨0x2D00, 1, 0x09, 1, .u8, 1, .rw, .saved, 0, 1, 0x1, false⟩,
  ⟨0x2D00, 1, 0x0A, 1, .u32, 4, .ro, .no, 0, 0, 0x0, false⟩,
  ⟨0x2D00, 1, 0x0B, 1, .u8, 1, .rw, .saved, 2, 16, 0x3, false⟩]

/-- Entries 0x6000 to 0x60FF, part 1. -/
def rows60a : List Row := [
  ⟨0x6000, 1, 0x01, 1, .u8, 1, .rw, .saved, 0, 1, 0x0, false⟩,
  ⟨0x6000, 1, 0x02, 1, .u16, 2, .ro, .no, 0, 0, 0x100, false⟩,
  ⟨0x6000, 1, 0x03, 1, .handle, 4, .rw, .no, 0, 0, 0x0, false⟩,
  ⟨0x6000, 1, 0x04, 1, .i16, 2, .rw, .no, -1024, 1024, 0x0, false⟩,
  ⟨0x6010, 1, 0x01, 16, .domain, 12, .rw, .no, 0, 0, 0x0, false⟩,
  ⟨0x6020, 1, 0x01, 2, .domain, 12, .rw, .no, 0, 0, 0x0, false⟩]

/-- Every entry the chapters list, in ascending order of index within each table. -/
def dictRows : List Row :=
  rows10a ++ rows10b ++ rows20a ++ rows20b ++ rows21a ++ rows22a ++ rows23a ++ rows23b ++ rows24a ++ rows24b ++ rows25a ++ rows26a ++ rows27a ++ rows27b ++ rows28a ++ rows29a ++ rows2Aa ++ rows2Ab ++ rows2Ba ++ rows2Ca ++ rows2Da ++ rows60a

/-- Whether a row covers a key. -/
def Row.covers (r : Row) (key : Nat) : Bool :=
  r.index ≤ key / 256 && key / 256 < r.index + r.indexes && r.sub ≤ key % 256 && key % 256 < r.sub + r.subs

/-- The row of a key in a list of rows. -/
def rowIn (rs : List Row) (key : Nat) : Option Row := rs.find? (·.covers key)

/-- The row of a key in the dictionary tables. -/
def dictRow (key : Nat) : Option Row := rowIn dictRows key

/-- R280: default `queue.entries`. -/
def queueEntriesDefault : List Nat := [256, 256, 64, 64, 128, 1024, 512, 128, 32, 512, 256, 256, 256, 256, 256, 64]

/-- R391: default `toll.budget`. -/
def tollBudgetDefault : List Nat := [24000, 40000, 16000, 40000, 12000, 4096, 2048, 16000]

/-- R391: least permitted budget of each class. -/
def tollBudgetLeast : List Nat := [0, 0, 0, 4096, 4096, 1024, 256, 1024]

/-- R147: default `diag.confirm`, M in [7:4] and N in [3:0]. -/
def confirmDefault : List Nat := [0x34, 0x34, 0x34, 0x48, 0x22, 0x48, 0x34, 0x34, 0x68]

/-- Typical `diag.vf_window` tables of chapter 05, Frost to Scorch. DESIGN CHOICE (log 9): the factory's own
tables are not in the specification. -/
def vfWindowDefault : List Nat := [0xc120c070cfd0cf40cec0ce40cdd0cd60cd00cca0cc400bf00ba00b600b200af, 0xcfa0cef0ce50cdc0cd40ccc0cc50cbe0cb80cb20cac00a700a2009e009a0097, 0xcee0ce30cd90cd00cc80cc00cb90cb20cac0ca60ca0009b00960092008e008b, 0xce20cd70ccd0cc40cbc0cb40cad0ca60ca00c9a0c94008f008a008600820080, 0xcd80ccd0cc30cba0cb20caa0ca30c9c0c960c900c8a00850080008000800080]

/-- R390: default priority of each event source; 0 for a reserved one. -/
def eventPrio (e : Nat) : Nat :=
  [6, 6, 6, 6, 2, 4, 5, 3, 5, 4, 2, 5, 4, 0, 0, 0,
   3, 4, 5, 6, 7, 5, 0, 0, 0, 0, 0, 0, 0, 0, 0, 0,
   1, 1, 2, 3, 4, 3, 3, 4, 2, 0, 0, 0, 0, 0, 0, 0,
   4, 5, 3, 3, 4, 3, 4, 0, 0, 0, 0, 0, 0, 0, 0, 0,
   3, 4, 1, 1, 3, 1, 0, 0, 0, 0, 0, 0, 0, 0, 0, 0,
   4, 4, 4, 4, 2, 2, 4, 4, 4, 4, 4, 0, 0, 0, 0, 0,
   6, 6, 3, 3, 4, 4, 4, 3, 4, 1, 1, 1, 1, 1, 1, 1,
   5, 5, 5, 3, 1, 6, 3, 5, 7, 4, 6, 4, 4, 5, 4, 6].getD e 0

/-- R390: the sources whose FAULT bit defaults to 1. -/
def eventFault (e : Nat) : Bool := [20, 117, 120, 122, 127].contains e

/-- R389: the sources the storm limiter never masks; their LIMIT reads 15. -/
def eventUnlimited (e : Nat) : Bool := [20, 32, 33, 34, 96, 97, 120, 124, 127].contains e

/-- R390: the reserved sources, never raised. -/
def eventReserved (e : Nat) : Bool :=
  (13 ≤ e && e ≤ 15) || (22 ≤ e && e ≤ 31) || (41 ≤ e && e ≤ 47) || (55 ≤ e && e ≤ 63) ||
  (70 ≤ e && e ≤ 79) || (91 ≤ e && e ≤ 95)

/-- R390: default `evt.config` of a source: LOG 1, INT 0, FAULT, LIMIT and PRIO. -/
def eventConfigDefault (e : Nat) : Nat :=
  2 ^ 15 + (if eventFault e then 2 ^ 13 else 0) + 256 * (if eventUnlimited e then 15 else 4) + eventPrio e

/-- The default of one entry: the row's, or the value of its place in a list of defaults. -/
def Row.defaultAt (r : Row) (key : Nat) : Nat :=
  let i := key % 256 - r.sub
  let n := key / 256 - r.index
  match r.index, r.sub with
  | 0x1020, 8 => r.default + 4 * n
  | 0x1020, 9 => r.default + 4 * n
  | 0x1020, 10 => r.default + 4 * n
  | 0x2610, 1 => queueEntriesDefault.getD n 256
  | 0x2810, 1 => tollBudgetDefault.getD i 0
  | 0x2820, 1 => eventConfigDefault i
  | 0x2301, 1 => confirmDefault.getD i 0x34
  | 0x2303, 1 => vfWindowDefault.getD i 0
  | _, _ => r.default

/-- The default of a key; a key without a row reads 0. -/
def dictDefault (key : Nat) : Nat :=
  match dictRow key with
  | some r => r.defaultAt key
  | none => 0

/-- Width in bits of an integer type. -/
def EntryType.bits : EntryType → Nat
  | .bool => 8 | .u8 => 8 | .i8 => 8
  | .u16 => 16 | .i16 => 16
  | .u64 => 64 | .i64 => 64
  | _ => 32

/-- Whether a type is a signed integer. -/
def EntryType.signed : EntryType → Bool
  | .i8 | .i16 | .i32 | .i64 => true
  | _ => false

/-- Whether a value is a byte string. -/
def EntryType.isDomain : EntryType → Bool
  | .domain | .variable => true
  | _ => false

/-- The type code of R303. -/
def EntryType.code : EntryType → Nat
  | .bool => 1 | .u8 => 2 | .u16 => 3 | .u32 => 4 | .u64 => 5 | .i8 => 6 | .i16 => 7 | .i32 => 8 | .i64 => 9
  | .real => 10 | .handle => 11 | .domain => 12 | .variable => 12

/-- The class code of R310. -/
def Access.code : Access → Nat
  | .ro => 0 | .rw => 1 | .wo => 2 | .rc => 3

/-- The bounds of an integer type. -/
def EntryType.bounds (t : EntryType) : Int × Int :=
  if t = .bool then (0, 1)
  else if t.signed then (-((2 ^ (t.bits - 1) : Nat) : Int), (2 ^ (t.bits - 1) : Nat) - 1)
  else (0, (2 ^ t.bits : Nat) - 1)

/-- The bounds of an entry: the stated range, or the type's (R305). -/
def Row.bounds (r : Row) : Int × Int :=
  if r.min = 0 ∧ r.max = 0 then r.type.bounds else (r.min, r.max)

/-- Values that the meaning column lists one by one, where MIN and MAX bound a wider range. -/
def listedOk (key v : Nat) : Bool :=
  if key = Reg.diagProbeInterval then [4, 8, 16, 32, 64].contains v
  else if key / 256 = 0x1020 || key / 256 = 0x1021 then
    match key % 256 with
    | 2 => [125, 250, 500, 1000].contains v
    | 3 => [1000, 2000, 4000, 5000, 8000].contains v
    | _ => true
  else if 0x2720 ≤ key / 256 ∧ key / 256 ≤ 0x2727 ∧ key % 256 = 1 then decide (bits v 15 8 ≤ 5)
  else true

/-- R7: what an entry keeps of a value written to it: its reserved bits stay 0. The reserved bits of `evt.config` stand with its other rules.
DEDUCED (log 180): bits that a table leaves unused without the name `resv`, such as the flags of `beam.box` [7:1] and `beam.symbol` [15:1], are taken
as reserved too. -/
def heldBits (key v : Nat) : Nat :=
  if key = Reg.pwrArrayMask then v % 4
  else if key = Reg.scanPhaseOrder then v &&& 0x0F0F0F0F0F0F0F0F0F0F0F0F0F0F0F0F
  else if key = Reg.scanStagger then v &&& 0x1F1F1F1F1F1F1F1F1F1F1F1F1F1F1F1F
  else if key = Reg.adcInjConfig then v &&& 0x3FFFFF87
  else if 0x2720 ≤ key / 256 ∧ key / 256 ≤ 0x2727 ∧ key % 256 = 1 then v &&& 0xFF0E
  else if 0x2A30 ≤ key / 256 ∧ key / 256 ≤ 0x2A37 ∧ key % 256 = 2 then v % 16
  else if key / 256 = 0x6010 ∧ key % 256 ≠ 0 then v &&& 0x01FFFFFFFFFFFFFFFFFFFFFF
  else if key / 256 = 0x6020 ∧ key % 256 ≠ 0 then v &&& 0x0001FFFFFFFFFFFFFFFFFFFF
  else v

/-- R305: whether a value lies in its entry's type and range. -/
def Row.inRange (r : Row) (key v : Nat) : Bool :=
  if r.type.isDomain || r.type = .handle then true
  else if r.type = .real then
    f32Finite v && (if r.min = 0 ∧ r.max = 0 then true
      else decide ((r.min : Rat) / 1000 ≤ f32ToRat v) && decide (f32ToRat v ≤ (r.max : Rat) / 1000))
  else
    let x : Int := if r.type.signed then toInt r.type.bits v else v
    decide (r.bounds.1 ≤ x) && decide (x ≤ r.bounds.2) && listedOk key v

/-- The next existing key after a key among rows, in ascending order. -/
def nextKeyIn (rs : List Row) (key : Nat) : Option Nat :=
  rs.foldl (fun best r =>
    -- the smallest key of this row above `key`
    let cands := (List.range r.indexes).filterMap (fun n =>
      let lo := 256 * (r.index + n) + r.sub
      let c := if key < lo then lo else key + 1
      if c < lo + r.subs then some c else none)
    cands.foldl (fun b c => match b with | none => some c | some x => some (Nat.min x c)) best) none

/-- Bounds as R310 encodes them: 8 bytes, zero- or sign-extended; 0 for a DOMAIN, the largest size for a variable one;
the smallest budget of a Toll class is the least that R391 permits. -/
def Row.boundBytes (r : Row) (key : Nat) (upper : Bool) : List Byte :=
  if r.index = 0x2810 ∧ r.sub = 1 ∧ !upper then bytesLE 8 (tollBudgetLeast.getD (key % 256 - 1) 0)
  else match r.type with
  | .domain => bytesLE 8 0
  | .variable => bytesLE 8 (if upper then r.size else 0)
  | .real =>
    if r.min = 0 ∧ r.max = 0 then bytesLE 8 (if upper then 0x7F7FFFFF else 0xFF7FFFFF)
    else bytesLE 8 (ratToF32 (((if upper then r.max else r.min) : Int) / (1000 : Rat)))
  | _ => bytesLE 8 (ofInt 64 (if upper then r.bounds.2 else r.bounds.1))

end Sys2Proof.Machine
end

