-- ==== Sys2Proof/Machine/State.lean ====
section
/-!
DEFINITION. The state of the YG-M1048 as plain data: every register, memory, queue, engine, mode and pin that the
specification gives the block, the queue of waiting commands, and the state at reset (VSUP absent, chapter 15).
The dictionary's own values stand in one register file (`regs`, keyed by 256 * index + sub-index); values that the
dictionary only shows (a queue's count, a session's state) are computed from the unit that holds them.
-/

namespace Sys2Proof.Machine

/-- A byte memory in canonical form: addresses strictly rising, no entry equal to 0, which an unlisted address reads as. -/
abbrev Memory := List Host.Cell

/-- A sparse map from numbers to numbers in canonical form (rising keys, no entry equal to its default). -/
abbrev NatMap := List (Nat × Nat)

/-! ### Pixel store, channels, queues (chapter 08) -/

/-- A channel (R258, R259): its slot and generation, its shape, and the runs (first page, pages) it occupies. -/
structure Channel where
  slot : Nat
  gen : Nat
  type : Nat
  format : Nat
  width : Nat
  height : Nat
  size : Nat
  runs : List (Nat × Nat)
  /-- R266: a destroy of the channel was accepted. -/
  destroyed : Bool
  /-- R267: the free waits for the end of a reference. -/
  waiting : Bool
  /-- The byte its creation fills the data with: 0 (R262), or two codes 0x1 for the fault map (R153). -/
  fill : Byte
  /-- The engine for which the stock firmware created the channel (R371). -/
  owner : Option Nat
  deriving DecidableEq, Repr

/-- A named set of a channel that is open or held (R184, R185). -/
structure NamedSet where
  slot : Nat
  set : Nat
  /-- TAGs of the landed regions (R234); their number is the number of regions landed. -/
  tags : List Nat
  closed : Option Nat
  tiles : List Nat
  /-- R271, R190: a commit named the set before it was complete. -/
  held : Bool
  /-- The flip of the set is admitted (PEND is set on its tiles). -/
  admitted : Bool
  deriving DecidableEq, Repr

/-- A region waiting in ingest staging (R232, R272, R278): its packet body and the credits it holds. -/
structure StagedRegion where
  packet : List Byte
  credits : Nat
  /-- Tokens of C0 served for it so far; its tile writes have begun when this is not 0. -/
  paid : Nat
  /-- What the reads of a landing that had to wait met; none while no landing has been tried. -/
  called : Option TileObs
  deriving DecidableEq, Repr

/-- The pixel store (R250 to R257). -/
structure Store where
  mem : Memory
  /-- Byte addresses of the poisoned 64-bit words (R255), rising. -/
  poison : List Nat
  /-- R254: E116 was raised in this scan. -/
  eccRaised : Bool
  /-- R256: block that the scrubber reads next. -/
  scrubPos : Nat
  /-- R256: time code at which the pass began. -/
  scrubStart : Nat
  /-- Rows with a corrected error in the last complete pass and in the present one (R257). -/
  rowsLast : List Nat
  rowsNow : List Nat
  /-- Rows whose copy to a spare row is running (R257). -/
  repairing : List Nat
  /-- Remapped rows, each with its spare row (R257). -/
  remap : List (Nat × Nat)
  deriving DecidableEq, Repr

/-- Channels and the page pool (R253, R260, R263). -/
structure Channels where
  live : List Channel
  /-- Free runs (first page, pages) of the pool, rising and not touching. -/
  free : List (Nat × Nat)
  /-- Free slots in the order in which they were freed. -/
  slots : List Nat
  sets : List NamedSet
  /-- Loose tiles that have landed and no commit has flipped yet: (slot, tile) (R183). -/
  loose : List (Nat × Nat)
  staging : List StagedRegion
  deriving DecidableEq, Repr

/-- The control of one hardware queue (R274, R276, R277). The entries stand in the ring in pixel store. -/
structure QueueCtl where
  tail : BitVec 16
  lease : BitVec 16
  head : BitVec 16
  /-- Leased entries not yet acknowledged: SEQ and the engine. -/
  lessees : List (BitVec 16 × Nat)
  /-- Returned entries in SEQ order. -/
  returned : List (BitVec 16)
  /-- Entries acknowledged ahead of HEAD. -/
  acked : List (BitVec 16)
  highWater : Nat
  dropped : Nat
  /-- R278: E100 was raised for this queue in this frame. -/
  overflowRaised : Bool
  deriving DecidableEq, Repr

/-! ### Engines, events, Tolls (chapter 11) -/

/-- `eng.run_state`. -/
inductive RunState where
  | idle | running | standby | failed
  deriving DecidableEq, Repr

/-- The flags register of R351: [4] E, [3] V, [2] C, [1] N, [0] Z. -/
structure Flags where
  z : Bool
  n : Bool
  c : Bool
  v : Bool
  e : Bool
  deriving DecidableEq, Repr

/-- A pending event held for an engine (R384). -/
structure PendingEvent where
  event : Nat
  data : BitVec 64
  timeUs : Word
  deriving DecidableEq, Repr

/-- What an engine waits for. -/
inductive Stall where
  | none
  /-- EWAIT: the register to write and the deadline; none waits without limit (R385). -/
  | event (rd : Fin 32) (deadline : Option Nat)
  /-- MWAIT of a move that is still running (R363). -/
  | move (rd : Fin 32) (id : Word)
  /-- TWAIT, or C7 tokens short (R22, R394): until the next budget period. -/
  | period
  /-- A fifth MOVE (R363), or a CHKPT waiting for moves (R376); the engine executes the instruction again. -/
  | moves
  /-- R382: an output waits for the other engine of the pair. -/
  | pair
  /-- R358: a DICT_OP of engine `by_` is not done yet. -/
  | dict (by_ : Nat)
  deriving DecidableEq, Repr

/-- An outstanding block move (R361). -/
structure Move where
  id : Word
  descriptor : List Byte
  /-- The status that its start already settled: 2, 3 or 4, or 0 for a move that may proceed. -/
  refused : Nat
  /-- Tokens of C7 served for it so far. -/
  paid : Nat
  /-- R412: the MRAM controller has abandoned it after this many words. -/
  cut : Option Nat
  deriving DecidableEq, Repr

/-- A complete checkpoint (R376): g1 to g31 and g0, the flags, the resume address and the region. -/
structure Checkpoint where
  regs : Vector Word 32
  flags : Flags
  resume : Word
  base : Nat
  bytes : List Byte
  deriving DecidableEq, Repr

/-- One engine (R350, R358). -/
structure Engine where
  run : RunState
  /-- The engine number it runs as: its own, or the failed engine's on WJ (R378). -/
  runsAs : Nat
  pc : Word
  g : Vector Word 32
  flags : Flags
  iram : Memory
  dram : Memory
  tvec : Word
  tpc : Word
  tcause : Word
  tval : Word
  inTrap : Bool
  timeHi : Word
  evmask : BitVec 128
  pendingEvents : List PendingEvent
  evdata : BitVec 64
  evtime : Word
  winHandle : Vector Word 4
  winOffset : Vector Word 4
  ckptBase : Word
  ckptLen : Word
  ckptCount : Word
  /-- The two checkpoint buffers, newest first. -/
  ckpts : List Checkpoint
  dictEntry : Word
  dictBuf : Word
  dictLen : Word
  dictStatus : Word
  wdogEn : Bool
  wdogStart : Nat
  stall : Stall
  moves : List Move
  doneMoves : List (Word × Word)
  nextMove : Word
  /-- R377: acknowledgements held until the next CHKPT, as (queue, SEQ). -/
  heldAcks : List (Nat × BitVec 16)
  /-- C7 tokens used in the present period (R394). -/
  c7Used : Nat
  /-- MRAM pseudo-handle of the image it was loaded from, and its segment number. -/
  image : Nat
  segment : Nat
  deriving DecidableEq, Repr

/-- R382: an output of an engine, with every operand already read. -/
inductive EngineOutput where
  | store (addr : Nat) (width : Nat) (value : Nat)
  | atomic (op : Nat) (addr : Nat) (rb : Word) (rd : Word)
  | push (q : Nat) (entry : List Byte)
  | ack (q : Nat) (seq : BitVec 16)
  | signal (event : Nat) (data : BitVec 64)
  | move (descriptor : List Byte)
  | assay (a : Nat) (bytes : List Byte)
  | dict (op : Nat) (entry buf len : Word) (value : List Byte)
  deriving DecidableEq, Repr

/-- R382: an input performed once and given to both engines: the register value, E, a data RAM write and an event. -/
structure PairInput where
  value : Word
  e : Option Bool
  bytes : List Byte
  evdata : Option (BitVec 64 × Word)
  deriving DecidableEq, Repr

/-- R382: the pair W0 and W1. -/
structure Pair where
  active : Bool
  /-- The waiting output: the engine that produced it, its operation, its destination register and the time. -/
  waiting : Option (Nat × EngineOutput × Fin 32 × Nat)
  /-- Input values given to one engine of the pair and not yet taken by the other: the engine still to
  take them, oldest first, each a register value, the E flag it sets and EVDATA with EVTIME of an event. -/
  inputs : List (Nat × PairInput)
  /-- R383: both engines are halted for their self-checks. -/
  checking : Bool
  deriving DecidableEq, Repr

/-- A declared entry of a running extension module (R372). -/
structure Module where
  engine : Nat
  rows : List Row
  /-- Keys of its entries whose write needs the service level. -/
  service : List Nat
  deriving DecidableEq, Repr

/-- The event system (R384 to R389). -/
structure Events where
  status : BitVec 128
  stormMask : BitVec 128
  /-- Raises of each source in the present window. -/
  stormCount : NatMap
  stormStart : Nat
  /-- R384: the sources raised so far in a command that handles them together, in ascending order, at its end; none outside such a command. -/
  gathering : Option (List (Nat × BitVec 64))
  /-- R508: raises still to be recorded, once WJ has taken over from W3. -/
  unrecorded : List (Nat × BitVec 64)
  deriving DecidableEq, Repr

/-- R262: the answer to a create that waits for the end of its fill: the writer, the header of its request, and the new handle. -/
structure FillReport where
  session : Nat
  header : List Byte
  handle : Nat
  deriving DecidableEq, Repr

/-- R22: a request that is served once all its tokens are drawn, over as many periods as that takes. -/
inductive TollRequest where
  | glaze (t : Nat) | compose (t : Nat) | drive (t : Nat) | load (t : Nat) | rect (r : Nat) | repair (row : Nat) | block (b : Nat) | engine (e : Nat)
  deriving DecidableEq, Repr

/-- R22: what is left of a request taken up in one Toll period that goes on in the next ones. -/
structure Owed where
  class_ : Nat
  tokens : Nat
  report : Option FillReport
  deriving DecidableEq, Repr

/-- The Tolls (R391 to R395). -/
structure Tolls where
  left : Vector Nat 8
  used : Vector Nat 8
  /-- Requests stalled in this period, by class. -/
  stalls : Vector Nat 8
  /-- R393: E118 raised for the class in this frame. -/
  raised : Vector Bool 8
  /-- R395: slack share of each of the last 16 periods, in 1/256ths, newest first. -/
  slack : List Nat
  /-- Requests that go on in the next period, oldest first. -/
  owed : List Owed
  /-- Tokens that a request not yet served has drawn from a class. -/
  part : List (Nat × TollRequest × Nat)
  deriving DecidableEq, Repr

/-! ### Dictionary service, sessions and transports (chapter 10) -/

/-- A segmented transfer of a session (R324 to R326). -/
structure Transfer where
  write : Bool
  staged : Bool
  key : Nat
  total : Nat
  /-- Bytes received, or the snapshot read. -/
  data : List Byte
  next : Nat
  prev : Option Nat
  deriving DecidableEq, Repr

/-- A KDP session (R328 to R333). -/
structure Session where
  isOpen : Bool
  transport : Nat
  service : Bool
  seqLast : Byte
  devSeq : Byte
  lastRequest : Nat
  /-- R318: the response to the last request executed, sent again on a repeat. -/
  lastResponse : List Byte
  transfer : Option Transfer
  /-- R336: the valid challenge and the time it was given. -/
  challenge : Option (List Byte × Nat)
  notifyMask : BitVec 128
  notifyLost : Nat
  created : Nat
  createResult : Nat
  /-- R310, R372: its copies of the module entries of which every session has one; an unlisted one is at its default. -/
  copies : NatMap
  deriving DecidableEq, Repr

/-- A staged write (R304, R309) and who made it: session 1 to 8, or 0 for the engines. -/
structure Staged where
  key : Nat
  value : Nat
  session : Nat
  deriving DecidableEq, Repr

/-- A controller or target of chapter 10: received frames by buffer number, and frames waiting to go out. -/
structure Transport where
  rx : List (Nat × List Byte)
  /-- Received frames whose entry waits for space in a full queue (R278). -/
  rxHeld : List Nat
  /-- Frames in the transmit buffers of CAN and SPI; those of the lanes are in `Lanes.txWait`. -/
  tx : List (List Byte)
  /-- Responses that wait for a free transmit buffer. -/
  txHeld : List (List Byte)
  deriving DecidableEq, Repr

/-- A frame on a CAN bus: identifier format, identifier, bit-rate switching, data (R343, R344). -/
structure SentFrame where
  ext : Bool
  id : Nat
  brs : Bool
  data : List Byte
  deriving DecidableEq, Repr

/-- CAN controllers (R343 to R345): the bit timing and the identifiers in use, and the pending change. -/
structure CanCtl where
  nomKbps : Nat
  dataKbps : Nat
  nomSp : Nat
  dataSp : Nat
  brs : Bool
  ext : Bool
  reqId : Nat
  respId : Nat
  notifyId : Nat
  mode : Nat
  busOff : Bool
  errorPassive : Bool
  changePending : Bool
  /-- Frames put on the bus, oldest first. -/
  sent : List SentFrame
  deriving DecidableEq, Repr

/-- Sessions, key, staging and transports. -/
structure Kdp where
  sessions : Vector Session 8
  keyholder : Nat
  staged : List Staged
  transports : Vector Transport 4
  can : Vector CanCtl 2
  spiOverflow : Bool
  /-- Bytes shifted out in the last SPI transaction. -/
  spiMiso : List Byte
  /-- R316: DEV in use since the boot. -/
  dataId : Nat
  /-- R317: what E98 was raised for in this frame: bit 2 * transport + cause. -/
  raised : Nat
  /-- R311: a save is running: the session that waits for its answer, its request header and the set. -/
  saving : Option (Nat × List Byte × NatMap)
  /-- R338: end of the running unlock block. -/
  blockEnd : Nat
  blocked : Bool
  /-- R278, R372: notices to modules that wait for space in their queue: queue and body, oldest first. -/
  moduleHeld : List (Nat × List Byte)
  deriving DecidableEq, Repr

/-! ### Scan sequencer, frames, commits (chapter 03) -/

/-- A stagger group's own scan (R62, R63, R67, R73, R99). -/
structure GroupScan where
  /-- Tables in use: the phase order as 16 bytes and the group's stagger byte. -/
  order : Nat
  stagger : Nat
  /-- Own-scan position lit in the present slot; none while the group waits for its new OFFSET slot. -/
  pos : Option Nat
  /-- Count of own scans since entry to LIT, modulo 4. -/
  count : Nat
  /-- Which of the two latch sets is front. -/
  front : Bool
  swapPending : Bool
  deriving DecidableEq, Repr

/-- The sub-steps of the Sweep in ns (R57, R59). -/
structure SweepSteps where
  discharge : Nat
  probe : Nat
  select : Nat
  settle : Nat
  deriving DecidableEq, Repr

/-- SYNC follower and leader (R86 to R91). -/
structure SyncUnit where
  state : Nat
  /-- Applied trim in ppm, and the trim wanted. -/
  trimPpm : Int
  wantPpm : Int
  phaseErr : Int
  ignored : Nat
  inBand : Nat
  /-- Time codes of the entry to ACQUIRING and of the last edge used. -/
  acquiring : Nat
  lastEdge : Nat
  /-- R87: time code of the last edge of the leader, used or ignored. -/
  leaderEdge : Option Nat
  pin : Bool
  deriving DecidableEq, Repr

/-- The scan sequencer. -/
structure Scan where
  running : Bool
  /-- Time codes of the last scan boundary and the last frame boundary. -/
  scanStart : Nat
  frameStart : Nat
  /-- Scans begun in this frame, and the scans of this frame. -/
  scanInFrame : Nat
  scansThisFrame : Nat
  slot : Nat
  /-- R134: scans begun since power-up; the scan in progress has the count n one less. -/
  scanCount : Nat
  /-- Scan period in use without the trim, and the Sweep in use with its governing band. -/
  periodUs : Nat
  sweepNs : Nat
  sweepBand : Nat
  /-- The sub-steps of the Sweep in use, present in every slot of every scan (R60). -/
  sweepSteps : SweepSteps
  /-- Sweep level of each field, VLED minus node in mV (R57, R58). -/
  sweepLevel : Vector Nat 32
  /-- The pulses of the present slot (R62, R66): pixel, start and end in ns from the start of its PWM window. -/
  pulses : List (Nat × Rat × Rat)
  /-- Remaining periods of a spread timing change (R96). -/
  spread : List Nat
  groups : Vector GroupScan 16
  frameCount : Nat
  kC : Rat
  kCWant : Rat
  /-- R94: how far 1.0 lay from k_C at its last change; the change came at this boundary, so relaxation begins at the next scan. -/
  kCRelax : Rat
  kCFresh : Bool
  /-- R16: k_C still short of its target after a timing change, so SPREADING stays set. -/
  kCSlewing : Bool
  clip : FieldSet
  sync : SyncUnit
  teOut : Bool
  /-- Values of commit.window_us and frame.te_delay_us in use in this frame (R83, R85). -/
  windowUs : Nat
  teDelayUs : Nat
  /-- A global swap took place at the last boundary, so TE_OUT rises in this frame. -/
  swapped : Bool
  windowClosed : Bool
  admissionPassed : Bool
  deriving DecidableEq, Repr

/-- A commit's snapshot: staged values outside the layer blocks, layer values, and flips (R77, R183, R184). -/
structure Commit where
  tag : Nat
  values : NatMap
  /-- Loose tiles flipped: (channel slot, tile). -/
  loose : List (Nat × Nat)
  /-- Named sets flipped: (channel slot, set). -/
  sets : List (Nat × Nat)
  /-- R504: accepted after a release of the Lantern beam. -/
  resume : Bool
  deriving DecidableEq, Repr

/-- A layer update (R187). -/
structure LayerUpdate where
  values : NatMap
  loose : List (Nat × Nat)
  sets : List (Nat × Nat)
  /-- R191: 0 held by admission, 1 held for an incomplete set. -/
  cause : Nat
  deriving DecidableEq, Repr

/-- Commit state (R77 to R82). -/
structure Commits where
  /-- The accepted commit that targets the next boundary, its layer values moved to `updates`. -/
  pending : Option Commit
  /-- The late commit held for the boundary after. -/
  late : Option Commit
  deferred : Bool
  acceptedTag : Nat
  appliedTag : Nat
  reason : Nat
  /-- Layer updates admitted for the next boundary, and updates held (R189, R190). -/
  updates : Vector (Option LayerUpdate) 8
  held : Vector (Option LayerUpdate) 8
  deriving DecidableEq, Repr

/-! ### Composition, drive pipeline, latch loader (chapters 04, 06) -/

/-- The work of the frame being prepared. -/
structure Pipeline where
  glazeDirty : TileSet
  /-- R195: those of them that a full rebuild marked. -/
  glazeWhole : TileSet
  composeDirty : TileSet
  driveDirty : TileSet
  loadDirty : TileSet
  /-- R75: tiles dirty in the frame that became the front. -/
  reload : TileSet
  /-- Tiles composed and driven for this frame: their selectors are exchanged at the swap. -/
  composed : TileSet
  driven : TileSet
  /-- Tiles loaded for this frame: the reload set after the swap. -/
  loadedNew : TileSet
  /-- Internal work that arose after the admission point: for the boundary after (R120). -/
  nextInternal : TileSet
  /-- Tiles marked for recomposition as global work after a failed composed tile (R285). -/
  nextCompose : TileSet
  /-- R41: the frame being prepared is the recomposition in a new orientation. -/
  turning : Bool
  /-- R119, R121: the scan period in µs and the Sweep length for which the tiles of the twins were last marked. -/
  timed : Nat × Nat
  /-- R112: the scale applied at a pixel by the last computation of its tile, where it is not 1. -/
  scales : List (Nat × Rat)
  /-- R131: the CRC-32C over the words read back of the last tile loaded, and whether it was the tile's check word. -/
  echoCrc : Nat
  echoOk : Bool
  /-- E114, E53 raised in this frame: (unit, handle, tile) and tiles. -/
  failRaised : List (Nat × Nat × Nat)
  satRaised : TileSet
  /-- Tiles flipped by PEND, as (channel slot, tile), and side records still to clear (R272). -/
  flips : List (Nat × Nat)
  clears : List (Nat × Nat)
  stale : Vector Nat 8
  staleMask : Nat
  cleared : Vector Bool 8
  /-- R181: the slots that hold the scalers SC0 to SC3, in that order. -/
  scalers : List Nat
  refusedSlot : Nat
  /-- R267: surfaces that the configuration before the last global swap bound. -/
  prevBound : List Nat
  /-- Writeback in progress: handle, source, frame.count and the next tile. -/
  writeback : Option (Nat × Nat × Nat)
  /-- R199: the accesses of the running copy that have been charged. -/
  wbPaid : Nat
  /-- Accounted sums of front and back frame per field: Σ n·2^((A−1)/2)·k over odd classes, Σ n·2^(A/2)·k over even ones. -/
  accFront : Vector (Nat × Nat) 32
  accBack : Vector (Nat × Nat) 32
  deriving DecidableEq, Repr

/-- The field-reference path (R15 to R18, R123 to R128). -/
structure Refs where
  kT : Vector Rat 32
  kTWant : Vector Rat 32
  kB : Rat
  /-- E38 was raised and k_B has not returned to 1.0. -/
  budgetRaised : Bool
  ipk : Vector Rat 32
  /-- Reference gain applied and wanted (R450 to R452). -/
  gain : Vector Rat 32
  gainWant : Vector Rat 32
  iref : Vector Rat 32
  code : Vector Nat 32
  rho : Vector Rat 32
  /-- R16, R128: how far each field's reference follows its wanted value (1) or is held at 20 µA (0). -/
  follow : Vector Rat 32
  /-- ρ_f that takes effect with the frame being prepared. -/
  rhoNext : Vector Rat 32
  /-- P_acc of the front frame and of what the target of k_B takes, in mW (R123). -/
  pFront : Rat
  pAcc : Rat
  /-- Fields whose DAC code changed at this scan boundary and at the one before (R449). -/
  codeChanged : FieldSet
  codeChangedPrev : FieldSet
  deriving DecidableEq, Repr

/-- The latches and isolation switches of the array. -/
structure Latches where
  /-- Sets A and B: words by pixel index y * 2048 + x; unlisted pixels hold 0. -/
  a : NatMap
  b : NatMap
  /-- Pixels whose isolation switch is open (R160), rising. -/
  isolated : List Nat
  /-- R160: pixels whose switch opens with the first frame computed with their code, and those whose frame has swapped
  globally, so that the swap of their cluster opens it. -/
  isolateWait : List Nat
  isolateNext : List Nat
  deriving DecidableEq, Repr

/-! ### The Lamplighter (chapter 05) -/

/-- One sample that counts towards evidence (R147): a pixel or a sink, the classes its method can test,
the class voted for (0 for a pass), the method of R169. -/
structure Sample where
  sink : Bool
  unit : Nat
  tests : List Nat
  vote : Nat
  method : Nat
  deriving DecidableEq, Repr

/-- What a lit scan sampled (R151): the fields without sub-threshold probe, the lit-checkable pixels and
those of them that gave a lit Vf window sample. -/
structure LitScan where
  noSubth : FieldSet
  checkable : List Nat
  window : List Nat
  /-- Pixels whose sub-threshold sample was discarded with the C5 budget spent (R158). -/
  lostSubth : List Nat
  deriving DecidableEq, Repr

/-- R165: how far a cluster of a twin has come towards the first drive frame computed with the twin: not computed yet; in the frame
that the global swap made the front; lit, its own swap done. -/
inductive TwinSide where
  | waiting | front | lit
  deriving DecidableEq, Repr

/-- A twin (R163 to R165): the twinned and the partner sink, whether the backplane has switched it, and how far each cluster has come. -/
structure Twin where
  sink : Nat
  partner : Nat
  switched : Bool
  sinkSide : TwinSide
  partnerSide : TwinSide
  deriving DecidableEq, Repr

/-- The Lamplighter's own state. -/
structure Lamp where
  samples : List Sample
  /-- Probe ratios of this probe scan that are not nominal, by pixel (R139). -/
  ratios : List (Nat × Rat)
  /-- Current results of this lit scan: pixel and whether the current was dead (R140). -/
  currents : List (Nat × Bool)
  /-- Stagger groups and pixel phases sampled in this probe scan: bit 16 × group + phase (R136). -/
  probed : BitVec 256
  /-- Listening sums of this scan: target, measured, expected (R144). -/
  listen : List (Nat × Rat × Rat)
  /-- R155: conditions that held during this scan: bit 0 VLED, 1 VSUP or FLT_IN, 2 LOADSTEP. -/
  supplyBad : Nat
  /-- R137: pixels that were lit-checkable in the slot just lit. -/
  slotCheckable : List Nat
  /-- R157: this scan is the first after a timing change, or the next one is; fields that changed band in it. -/
  afterTiming : Bool
  timingNew : Bool
  bandFields : FieldSet
  episode : Bool
  suppressRaised : Bool
  massTrips : Nat
  /-- Probe scans left with the mass guard disarmed. -/
  disarmed : Nat
  litScans : List LitScan
  listened : List Nat
  uncovered : Nat
  /-- R140: sinks flagged for priority measurement, with the measurements left. -/
  flagged : List (Nat × Nat)
  /-- R161: notices waiting for space on Q6. -/
  noticeBuf : List (List Byte)
  /-- R161: the value of `diag.notice_lost` that the stock fault policy has seen. -/
  lostSeen : Nat
  twins : List Twin
  /-- R166: sinks whose twin was refused. -/
  refusedTwins : List Nat
  enabled : Bool
  /-- Time code at which LOADSTEP last fell (R155). -/
  loadstepFell : Option Nat
  /-- R299: groups whose sampled own scan runs, drive tiles still to read for the light check, the tiles read in this frame,
  and the tiles in use for the sampled own scans: (tile, its words). -/
  lightGroups : Nat
  lightTodo : List Nat
  /-- Tokens of C5 paid towards the first of those tiles (R299). -/
  lightPaid : Nat
  lightRead : List (Nat × List Nat)
  lightRef : List (Nat × List Nat)
  /-- R298, R299: pixels sampled whose sensed bit differs from the commanded one. -/
  conducted : List Nat
  /-- The scan in progress is the last of its frame, and a supply condition held in the sampled scan (R301). -/
  lightScan : Bool
  lightBad : Bool
  /-- R300: rectangles whose comparison is due, each with its tiles. -/
  lightDue : List (Nat × List Nat)
  /-- R296: rectangles that learn at their next comparison. -/
  learn : List Nat
  /-- R294: rectangles whose value check of the last swap has not run yet (bit r). -/
  rectDue : Nat
  /-- R151: fault-map blocks of the present round of 4P scans read for the coverage rewrite. -/
  covDone : Nat
  /-- R152: MAP_REBUILD: fault-map words were rebuilt, restored or scanned since the last scan boundary. -/
  mapRebuild : Bool
  /-- R456: fields whose aging cursor has had its value, or its drop, in this lit scan. -/
  agingTaken : FieldSet
  deriving DecidableEq, Repr

/-! ### Skorlink lanes (chapter 07) -/

/-- A link packet kept for resending (R223): its bytes from LSEQ to LCRC, how often it was resent, when it was last sent. -/
structure Retry where
  lseq : Nat
  bytes : List Byte
  resent : Nat
  sentAt : Nat
  deriving DecidableEq, Repr

/-- One lane (R211 to R224). -/
structure Lane where
  /-- `lane.state`: 0 DISABLED, 1 SEARCH, 2 ADAPT, 3 IDENTIFY, 4 DESKEW, 5 ACTIVE, 6 MISWIRED. -/
  state : Nat
  rung : Nat
  emi : Nat
  ctleDb : Nat
  dfe : List Int
  preset : Nat
  partnerLane : Nat
  partnerLink : Nat
  inverted : Bool
  /-- ADAPT_DONE sent, and the partner's ADAPT_DONE seen. -/
  adaptDone : Bool
  partnerDone : Bool
  /-- Bit lock (stage 1 passed) and comma lock (stage 2 passed). -/
  bitLock : Bool
  commaLock : Bool
  /-- Consecutive training sequences that count towards the exit of the stage, and TS-B sent in it. -/
  tsSeen : Nat
  tsbSent : Nat
  /-- R219: since when the EMI has been below `lane.emi_drop`. -/
  emiLow : Option Nat
  /-- Time code at which the rung was entered (R212). -/
  rungStart : Nat
  /-- A rejoin of the stripe is announced for this lane (R245). -/
  rejoining : Bool
  txLseq : Nat
  rxLseq : Nat
  nakSent : Bool
  retry : List Retry
  /-- R209: LCNT of the last Lull set received, and of the last one sent. -/
  lcntRx : Option Nat
  lcntTx : Nat
  /-- R249: the entries of the lane block as its stage 1 found them. -/
  linkId : Nat
  emiMin : Nat
  emiDrop : Nat
  minLanes : Nat
  /-- R211: the preset asked of the partner, when it was last raised, and the EMI that the partner shows. -/
  presetAsk : Nat
  askAt : Nat
  partnerEmi : Nat
  /-- R210: fill of the elastic buffer in symbols. -/
  elastic : Nat
  /-- R242: time codes of the last code and disparity errors, and of the last Lull set received. -/
  errAt : List Nat
  lullAt : Nat
  /-- R245: of a lane that rejoins, the directions that have joined the stripe. -/
  txJoined : Bool
  rxJoined : Bool
  /-- R211: symbols 1 to 15 of the last training sequence sent. -/
  sentTs : List Byte
  deriving DecidableEq, Repr

/-- R230: a transaction packet that waits for its processing: its pool (true for control), the link packets that brought it, its bytes, and
what its reads meet once the command that processes it has come. -/
structure Delivered where
  ctl : Bool
  credits : Nat
  bytes : List Byte
  called : Option TileObs
  deriving DecidableEq, Repr

/-- R239: a readback in progress: its packet, the credits it holds, the tokens of C0 served, and what its reads meet. -/
structure ReadJob where
  packet : List Byte
  credits : Nat
  paid : Nat
  obs : TileObs
  deriving DecidableEq, Repr

/-- The link (R209 to R248). -/
structure Lanes where
  linkState : Nat
  rate : Nat
  lanes : Vector Lane 4
  /-- Time code of the first identity of this training with its LINK value and the lanes needed (R249), whether the wait of R215 has ended,
  since when R248 waits for comma lock, and whether a lane has reached it since. -/
  firstIdentity : Option Nat
  linkId : Nat
  minLanes : Nat
  waited : Bool
  noLockSince : Nat
  locked : Bool
  absent : Bool
  txSseq : Nat
  rxSseq : Nat
  /-- Packets received ahead of the next SSEQ: SSEQ, FLAGS, payload. -/
  ahead : List (Nat × Nat × List Byte)
  /-- Payload of the transaction packet being assembled, by pool. -/
  bulkPart : List Byte
  ctlPart : List Byte
  /-- Link packets in those parts. -/
  bulkCount : Nat
  ctlCount : Nat
  /-- Assembled packets that wait for their processing, in order. -/
  delivered : List Delivered
  readJob : Option ReadJob
  /-- Packets waiting for credits or retry space: control pool flag, FLAGS, payload. -/
  txWait : List (Bool × Nat × List Byte)
  /-- R243: packets of a lost lane still to resend: SSEQ, FLAGS, payload. -/
  resend : List (Nat × Nat × List Byte)
  /-- R209: LCNT of the last common Lull set sent. -/
  lcnt : Nat
  /-- Credits the host has granted since link-up and those used, bulk and control. -/
  grantBulk : Nat
  usedBulk : Nat
  grantCtl : Nat
  usedCtl : Nat
  /-- Credits the device has granted the host since link-up. -/
  hostBulk : Nat
  hostCtl : Nat
  /-- The lane that carried the last packet dealt (R225). -/
  lastLane : Nat
  /-- MODEL'S OWN (log 6): the packets and Lull sets sent since link-up, oldest first: lane and symbols. Between them a lane sends IDL (R208). -/
  wire : List (Nat × List LaneSymbol)
  deriving DecidableEq, Repr

/-! ### Thermal sensing and protection (chapter 12) -/

/-- A protection sensor (R397, R409): its monitor value in eighths of a degree, its comparator's vote, its failure, and
the consecutive readings in which its elements differ and in which it differs from T_F of its field. -/
structure ProtSensor where
  monitor : Int
  vote : Bool
  failed : Bool
  pairDiffers : Nat
  fieldDiffers : Nat
  deriving DecidableEq, Repr

/-- The shutdown journal (R412). -/
structure Journal where
  seq : Nat
  isOpen : Bool
  committed : Bool
  record : List Byte
  deriving DecidableEq, Repr

/-- The Ledger (R506 to R509). -/
structure Ledger where
  /-- The ring: place 0 to 15,359 and the 32 bytes of its entry, places rising; an erased place is not listed. -/
  ring : List (Nat × List Byte)
  /-- The next SEQ. -/
  next : Nat
  /-- The fault list: entry number and its 8 bytes as a number; an entry of zeros is free. -/
  faults : NatMap
  /-- R508: time code of the last type 0x10 record of each source. -/
  lastEvent : NatMap
  deriving DecidableEq, Repr

/-- Field sensors, bands, derating hold and the shutdown latch (R396 to R413). Temperatures are in degrees Celsius. -/
structure Therm where
  /-- T_F(f) in use (R398, R400). -/
  tf : Vector Rat 32
  /-- Latest reading; none while invalid. -/
  raw : Vector (Option Rat) 32
  lastValid : Vector (Option Rat) 32
  /-- Sensors that have given their first reading since power-up (R403), and fields that have a band. -/
  seen : FieldSet
  banded : FieldSet
  band : Vector Nat 32
  /-- Consecutive readings too low or too high (R399). -/
  deviating : Vector Nat 32
  votedOut : FieldSet
  /-- R453 group 1: dropped elements by number 2f + e, the element picked, and consecutive readings in which the two differ. -/
  dropped : BitVec 64
  picked : FieldSet
  differ : Vector Nat 32
  /-- R408: end of the throttle hold. -/
  holdEnd : Option Nat
  /-- Fields whose E17 was raised and whose k_T has not returned to 1.0. -/
  derating : FieldSet
  prot : Vector ProtSensor 4
  shutdown : Bool
  journalRecovered : Bool
  /-- R412: the instant of the latch, and the journal, the Ledger and `therm.shutdown_count` as they stood: what a power loss within 25 µs finds. -/
  latched : Option (Nat × Journal × Ledger × Nat)
  deriving DecidableEq, Repr

/-! ### MRAM -/

/-- A field record (R441). -/
structure FieldRecord where
  vfbMed : Nat
  chrMed : Nat
  tccMed : Nat
  refPick : Nat
  dacGain : Nat
  dacOfs : Nat
  deriving DecidableEq, Repr

/-- A valid copy of the saved set (R312). -/
structure SavedSet where
  count : Nat
  values : NatMap
  deriving DecidableEq, Repr

/-- The Hallmark record (R493); `valid` says that MAGIC and CRC are as they must be. -/
structure Hallmark where
  valid : Bool
  /-- Bytes 0 to 7 have been written: MAGIC stands (R494). -/
  written : Bool
  state : Nat
  stepsDone : Nat
  signature : Nat
  firstFail : Nat
  covered : Nat
  startSeq : Nat
  opsec : Nat
  engPass : Nat
  slicePass : Nat
  tpPass : Nat
  tfPass : Nat
  refPass : Nat
  bgPass : Nat
  termPass : Nat
  remap : List Nat
  deriving DecidableEq, Repr

/-- MRAM: what survives the loss of every domain. -/
structure Mram where
  /-- Stock slots 0 and 1 and the extension slot (R362, R365). -/
  images : Vector (List Byte) 3
  /-- Binning words by pixel index; an unlisted pixel holds `binDefault`. -/
  binning : NatMap
  /-- R441: the binning check array by tile; an unlisted one is that of a tile of `binDefault`. -/
  binCheck : NatMap
  records : Vector (Vector FieldRecord 32) 2
  /-- The CRC-32C of each copy of the field records. -/
  recordCheck : Vector Nat 2
  /-- Aging map: words of seven pixels with their CRC-8; an unlisted one is `agingWord`. -/
  aging : NatMap
  /-- Trim map: words of seven sinks with their CRC-8; an unlisted one is `trimWord`. -/
  trim : NatMap
  /-- R448: the LIT time of the last write of the trim map. -/
  trimSaved : Option Nat
  saved : Vector (Option SavedSet) 2
  /-- R263: generation of each channel slot. -/
  gens : NatMap
  serviceKey : Option (List Byte)
  /-- The two Lantern frames: drive words, then a check word for each tile. -/
  lantern : Vector Memory 2
  /-- R42, R458: the Lantern frames that the stock firmware has still to recompute, and the LIT time of the last recomputation for aging. -/
  lanternDue : Vector Bool 2
  lanternAged : Option Nat
  journal : Journal
  hallmark : Hallmark
  ledger : Ledger
  /-- R461: power was lost during WRITING. -/
  importTorn : Bool
  /-- Nanoseconds of LIT operation since manufacture, up to the last entry or exit of LIT (OPSEC). -/
  litNs : Nat
  /-- R496: the device has started before. -/
  startedBefore : Bool
  deriving DecidableEq, Repr

/-! ### Calibration (chapter 14) -/

/-- An import in progress (R460). -/
structure Import where
  state : Nat
  blob : Nat
  file : List Byte
  /-- Session and request header that wait for the answer. -/
  asker : Option (Nat × List Byte)
  /-- R326: the state before the import, to which an abandoned one returns. -/
  before : Nat
  deriving DecidableEq, Repr

/-- Background trim, redundant elements, aging learning, import. -/
structure Cal where
  /-- Trim codes in use by sink (an unlisted sink has 16) and those that take effect at the next scan boundary. -/
  trim : NatMap
  trimNext : NatMap
  trimChanged : Bool
  cursor : Vector Nat 32
  /-- Result of each sink's last pass: 0 none, 1 DEAD, 2 WEAK, 3 LOW, 4 OK, 5 HIGH. -/
  lastResult : NatMap
  /-- R447, R450: when each field measured last, and when the last reference turn was. -/
  sinkLast : Vector Nat 32
  frefLast : Nat
  passStart : Vector Nat 32
  passMs : Vector Nat 32
  limitNow : Vector Nat 32
  limitLast : Vector Nat 32
  frefNext : Nat
  refDropped : BitVec 64
  refPick : FieldSet
  refDiffer : Vector Nat 32
  bgDropped : Nat
  bgPick : Nat
  bgCode : Vector Nat 3
  bgDiffer : Vector Nat 3
  bgPair : Nat
  degraded : Bool
  termDropped : Nat
  /-- R453 group 3: the termination network picked on each lane. -/
  termPick : Nat
  agingCursor : Vector Nat 32
  agingVals : Vector (List Int) 32
  fallback : TileSet
  mirrorReady : Bool
  recordLost : Bool
  imp : Import
  deriving DecidableEq, Repr

/-! ### Measurement (chapter 13) -/

/-- A physical SAR slice. -/
structure Slice where
  failed : Bool
  offset : Int
  gain : Int
  /-- Conversions still to carry RECOVER after an OVR (R428). -/
  recover : Nat
  /-- Consecutive rotations that failed the handover test (R435). -/
  strikes : Nat
  /-- Consecutive G1 checks off by more than 8 LSB (R435): of channel 13 and of channel 14. -/
  check13 : Nat
  check14 : Nat
  half : Nat
  halfDropped : Nat
  /-- Timing trim against the partner slice in ps (R431 step 4). -/
  timing : Int
  deriving DecidableEq, Repr

/-- A conversion that waits: its precedence (R427), group (8 for an injected one) and channel. -/
structure Pend where
  prec : Nat
  group : Nat
  chan : Nat
  idx : Nat
  deriving DecidableEq, Repr

/-- A conversion that runs. -/
structure Running where
  group : Nat
  chan : Nat
  idx : Nat
  slice : Nat
  recover : Bool
  settling : Bool
  start : Nat
  /-- R431: the spare that shadows the conversion, with its RECOVER. -/
  shadow : Option (Nat × Bool)
  deriving DecidableEq, Repr

/-- A logical converter AD0 to AD3. -/
structure Converter where
  slice : Option Nat
  seq : Nat
  ref : Nat
  /-- End of the settling of R420. -/
  settleEnd : Nat
  /-- R436: results have VALID 0 until the spare's steps complete. -/
  invalid : Bool
  queue : List Pend
  running : Option Running
  deriving DecidableEq, Repr

/-- A group's run-time state (R426, R438). -/
structure Group where
  /-- Conversions of the present round still to complete. -/
  left : Nat
  overrun : Bool
  done : Bool
  captureOverrun : Bool
  lost : Bool
  words : Nat
  /-- Result words that wait for C6 tokens. -/
  buffer : List Nat
  /-- R420: the group's first conversion waits for this instant. -/
  holdUntil : Nat
  /-- R424, R426: the instants of the triggers to come, the next first. -/
  due : List Nat
  deriving DecidableEq, Repr

/-- The measurement subsystem. -/
structure Adc where
  slices : Vector Slice 5
  convs : Vector Converter 4
  groups : Vector Group 8
  spare : Option Nat
  /-- R415: the last grid point. -/
  lastGrid : Option Nat
  /-- R431: the converter served next, whether the spare shadows it, and whether the handover waits for its grid point. -/
  target : Nat
  rotating : Bool
  handover : Bool
  noSpare : Bool
  /-- R436: the spare has completed steps 1 to 4. -/
  spareReady : Bool
  /-- R431, R434: when step 1 begins or began for a spare that is still to complete steps 1 to 4; the start of the last shadow; the spare's reference. -/
  calBegan : Option Nat
  rotateAt : Nat
  spareRef : Nat
  /-- R432, R433: grid points of this shadow, its usable pairs, the sum of their differences and the greatest, in LSB. -/
  points : Nat
  pairs : Nat
  pairSum : Int
  pairWorst : Nat
  extFault : Bool
  extChanged : Bool
  clampPins : Nat
  clampEnd : Nat
  clampFlag : Bool
  injState : Nat
  injLeft : Nat
  /-- Scan sums of VLED codes (sum, count), the last valid mean in V, and the lowest NODE_MIN of this and the previous scan in V. -/
  vledNow : Nat × Nat
  vledMean : Rat
  /-- Lowest VLED of this scan and of the last whole scan, in V (R468). -/
  vledMin : Option Rat
  vledMinPrev : Option Rat
  nodeNow : Option Rat
  nodePrev : Option Rat
  deriving DecidableEq, Repr

/-! ### Power and start-up (chapter 15) -/

/-- A power domain (R471 to R474): 0 OFF, 1 RAMP, 2 ON, 3 DRAIN; whether it is wanted powered, and whether
a power-up request waits for the drain (QUEUED). -/
structure Domain where
  state : Nat
  want : Bool
  queued : Bool
  deriving DecidableEq, Repr

/-- A qualified input (R484, R485): active, stuck, the instants of the pulses ignored in the last 10 ms, the last E7. -/
structure Input where
  active : Bool
  stuck : Bool
  recent : List Nat
  lastChatter : Option Nat
  deriving DecidableEq, Repr

/-- A VLED dip (R480). -/
structure Dip where
  active : Bool
  /-- Consecutive conversions below the limit, the time and the lowest VLED since the first of them, the reference mean. -/
  below : Nat
  first : Nat
  lowest : Rat
  ref : Rat
  /-- Consecutive conversions within 100 mV of the reference. -/
  near : Nat
  deriving DecidableEq, Repr

/-- The supervisor. -/
structure Power where
  device : Nat
  light : Nat
  domains : Vector Domain 8
  /-- tV, or the wake or RESET_N edge from which the start steps run. -/
  tStart : Nat
  warm : Bool
  coldBist : Bool
  /-- A request that waits for its swap: 1 READY, 2 LIT, 3 SLEEP (R476). -/
  request : Option Nat
  /-- Halves (bit 0 ARN, bit 1 ARS) treated as dark in the frame being prepared, and dark in the front frame. -/
  darkBack : Nat
  darkFront : Nat
  /-- Halves to drain once their last cluster has swapped (R475). -/
  drainAfter : Nat
  vsupMv : Nat
  uvWarn : Bool
  ride : Option (Nat × Nat)
  vT : Nat
  boostScans : Nat
  boostHold : Bool
  litSeen : Bool
  hdrmLimit : Bool
  lowNodes : Nat
  highNodes : Nat
  headroomLow : Bool
  dip : Dip
  /-- V_BAT conversions of the last 500 µs: time and mV. -/
  vbat : List (Nat × Rat)
  anticipating : Bool
  vbatGood : Option Nat
  loadstep : Bool
  /-- A global swap has taken place since LOADSTEP rose. -/
  loadSwapped : Bool
  fltIn : Bool
  vcoreMv : Nat
  vcoreTop : Nat
  vcoreLimit : Bool
  tollPeriods : Nat
  inputs : Vector Input 4
  wakeLow : Option Nat
  vio : Bool
  testEn : Bool
  xin : Bool
  fallback : Bool
  /-- A restart by RESET_N (R486) whose saved entries have not been taken yet. -/
  restart : Bool
  /-- R468: VLED reached the boot target within 14 ms of the start. -/
  vledEarly : Bool
  /-- Time code of the last entry to LIT. -/
  litSince : Nat
  deriving DecidableEq, Repr

/-! ### Self-test, host supervision, Lantern beam, dump (chapter 16) -/

/-- R489: what the steps of a BIST have found so far, as the FAIL conditions of the blocks need it. -/
structure BistFound where
  /-- DEAD or WEAK sinks of each field (B1). -/
  weak : Vector Nat 32
  /-- Slices that have failed a step, by bit (B3). -/
  slices : Nat
  /-- The codes of the bandgap cores (B4). -/
  codes : List Int
  /-- Field sensors with both elements failing (B5), failed protection sensors (B6), failed lanes by bit (B7), failed engines (B9). -/
  sensors : Nat
  prots : Nat
  lanes : Nat
  engines : Nat
  deriving DecidableEq, Repr

/-- The BIST sequencers. -/
structure Bist where
  /-- The shutdown BIST: in its firmware window, running its steps, its step in progress and its running signature. -/
  window : Bool
  running : Bool
  step : Nat
  sig : Nat
  aborted : Bool
  entered : Nat
  record : Hallmark
  /-- What the steps of this run have found so far. -/
  found : BistFound
  /-- The record as read at this start. -/
  asRead : Hallmark
  /-- Blocks of the start BIST still to run. -/
  startBlocks : List Nat
  last : Nat
  runMs : Nat
  returned : Nat
  deriving DecidableEq, Repr

/-- Host supervision (R499 to R501). -/
structure HostSup where
  since : Option Nat
  raised : Bool
  feedLast : Option Nat
  feedMissed : Nat
  /-- R501: an entry failed its checks and no valid one has followed. -/
  feedBad : Bool
  deriving DecidableEq, Repr

/-- The Lantern beam controller (R502 to R504). -/
structure Lantern where
  state : Nat
  cause : Nat
  frame : Nat
  loaded : Bool
  /-- A copy of the front latches into the back latches is due (R502 step 4). -/
  copyDue : Bool
  /-- R504: a commit has been accepted since the release, so the latches are loaded with host frames again. -/
  release : Bool
  /-- R302: tiles to reload at the next frame boundaries: tile and boundaries left. -/
  reload : List (Nat × Nat)
  /-- Accounted sums of the loaded Lantern frame by field (R122). -/
  acc : Vector (Nat × Nat) 32
  /-- R504: a release accepted while the beam is being loaded, and a commit accepted after it that has reached the frame being prepared. -/
  handback : Bool
  resumeDue : Bool
  /-- R497: tiles of the frame that failed their check when it was loaded. -/
  badTiles : Nat
  deriving DecidableEq, Repr

/-- A dump being written (R510): trigger event, engine, cause, time, and the firmware sections received. -/
structure Dump where
  writing : Bool
  trigger : Nat
  engine : Nat
  cause : Nat
  started : Nat
  hardware : List Byte
  sections : List Byte
  length : Nat
  /-- A fatal error whose dump has not begun: trigger event, engine, cause. -/
  due : Option (Nat × Nat × Nat)
  deriving DecidableEq, Repr

/-- The TAP (R534): the controller state by IEEE 1149.1 (0 Test-Logic-Reset, 1 Run-Test/Idle, 2 to 8 Select-DR, Capture-DR, Shift-DR, Exit1-DR,
Pause-DR, Exit2-DR, Update-DR, 9 to 15 the same for the instruction register), the instruction shift register, the instruction
(0 BYPASS, 1 SAMPLE/PRELOAD, 2 EXTEST, 3 IDCODE, 4 CLAMP, 5 HIGHZ), the data register, the boundary cells and TDO. -/
structure Jtag where
  tap : Nat
  irShift : Nat
  ir : Nat
  dr : List Bool
  boundary : List Bool
  tdo : Option Bool
  deriving DecidableEq, Repr

/-! ### The whole state -/

/-- Why a command stops without a next state. -/
inductive Fault where
  /-- No meaning raises it: every command of the table has an effect or changes nothing. It stands for a stop that
  the specification would force by giving a command no effect at all. Safe: the model would stop where a device goes on. -/
  | noEffectGiven (what : String)
  deriving DecidableEq, Repr

/-- Why a command is refused by the model. -/
inductive Refusal where
  /-- Raised only by an arm of the dispatch whose row has no meaning yet. Safe: the model stops where a device goes on. -/
  | notModelled (mnemonic : String)
  deriving DecidableEq, Repr

/-- The state of the block. -/
structure State where
  /-- The timebase's time code in ns. -/
  now : Nat
  /-- MODEL'S OWN: the number of free values drawn so far (`Config.freeNat`). -/
  free : Nat
  /-- The commands that wait, first in, first out. -/
  pending : List Instr
  /-- The dictionary's values by key, canonical: no entry equal to its default. -/
  regs : NatMap
  store : Store
  chans : Channels
  queues : Vector QueueCtl 16
  engines : Vector Engine 9
  pair : Pair
  /-- R378: the failed engine that WJ is being loaded for, with the cause. -/
  takeover : Option (Nat × Nat)
  modules : List Module
  events : Events
  tolls : Tolls
  kdp : Kdp
  scan : Scan
  commits : Commits
  pipe : Pipeline
  refs : Refs
  latches : Latches
  lamp : Lamp
  lanes : Lanes
  therm : Therm
  mram : Mram
  cal : Cal
  adc : Adc
  power : Power
  bist : Bist
  host : HostSup
  lantern : Lantern
  dump : Dump
  jtag : Jtag
  deriving DecidableEq, Repr

namespace State

/-- R274: an empty queue. -/
def queueReset : QueueCtl := ⟨0, 0, 0, [], [], [], 0, 0, false⟩

/-- An engine before it is loaded. The specification gives no reset value for the general registers, the flags, pc and
most ports: 0 (DESIGN CHOICE, log 3). -/
def engineReset (e : Nat) : Engine :=
  { run := .idle, runsAs := e, pc := 0, g := Vector.replicate 32 0, flags := ⟨false, false, false, false, false⟩
    iram := [], dram := [], tvec := 0, tpc := 0, tcause := 0, tval := 0, inTrap := false, timeHi := 0
    evmask := 0, pendingEvents := [], evdata := 0, evtime := 0
    winHandle := Vector.replicate 4 0, winOffset := Vector.replicate 4 0
    ckptBase := 0, ckptLen := 0, ckptCount := 0, ckpts := []
    dictEntry := 0, dictBuf := 0, dictLen := 0, dictStatus := 0
    wdogEn := false, wdogStart := 0, stall := .none, moves := [], doneMoves := [], nextMove := 0
    heldAcks := [], c7Used := 0, image := 0, segment := e }

/-- A closed session. -/
def sessionReset : Session :=
  { isOpen := false, transport := 0xFF, service := false, seqLast := 0, devSeq := 0, lastRequest := 0, lastResponse := []
    transfer := none, challenge := none, notifyMask := 0, notifyLost := 0, created := 0, createResult := 0, copies := [] }

/-- An idle transport. -/
def transportReset : Transport := ⟨[], [], [], []⟩

/-- A CAN controller at its default bit timing. -/
def canReset : CanCtl := ⟨500, 2000, 800, 750, true, false, 0x5A0, 0x5A8, 0x5B0, 0, false, false, false, []⟩

/-- A stagger group at the default tables (R61, R62), before its first own scan. -/
def groupReset (g : Nat) : GroupScan :=
  { order := 0x0C0609030E040B010D0708020F050A00, stagger := g + 16 * (g % 2), pos := none, count := 0, front := false
    swapPending := false }

/-- The sequencer before it starts. -/
def scanReset : Scan :=
  { running := false, scanStart := 0, frameStart := 0, scanInFrame := 0, scansThisFrame := 32, slot := 0, scanCount := 0
    periodUs := 250, sweepNs := 600, sweepBand := 1, sweepSteps := ⟨200, 160, 80, 160⟩, sweepLevel := Vector.replicate 32 2000, pulses := [], spread := []
    groups := Vector.ofFn (fun g => groupReset g.val), frameCount := 0, kC := 1, kCWant := 1, kCRelax := 0, kCFresh := false, kCSlewing := false
    clip := 0, sync := ⟨0, 0, 0, 0, 0, 0, 0, 0, none, false⟩, teOut := false, windowUs := 300, teDelayUs := 0
    swapped := false, windowClosed := false, admissionPassed := false }

/-- No commit. -/
def commitsReset : Commits :=
  { pending := none, late := none, deferred := false, acceptedTag := 0, appliedTag := 0, reason := 0
    updates := Vector.replicate 8 none, held := Vector.replicate 8 none }

/-- No work. -/
def pipeReset : Pipeline :=
  { glazeDirty := 0, glazeWhole := 0, composeDirty := 0, driveDirty := 0, loadDirty := 0, reload := 0, composed := 0, driven := 0, loadedNew := 0
    nextInternal := 0, nextCompose := 0, turning := false, timed := (250, 600), scales := [], echoCrc := 0, echoOk := true, failRaised := [], satRaised := 0, flips := [], clears := []
    stale := Vector.replicate 8 0, staleMask := 0
    cleared := Vector.replicate 8 false, scalers := [], refusedSlot := 0xFF, prevBound := []
    writeback := none, wbPaid := 0
    accFront := Vector.replicate 32 (0, 0), accBack := Vector.replicate 32 (0, 0) }

/-- The references at their defaults: I_PK 120 µA, every factor 1.0. -/
def refsReset : Refs :=
  { kT := Vector.replicate 32 1, kTWant := Vector.replicate 32 1, kB := 1, budgetRaised := false
    ipk := Vector.replicate 32 120, gain := Vector.replicate 32 1, gainWant := Vector.replicate 32 1
    iref := Vector.replicate 32 120, code := Vector.replicate 32 731, rho := Vector.replicate 32 1, follow := Vector.replicate 32 1
    rhoNext := Vector.replicate 32 1, pFront := 0, pAcc := 0, codeChanged := 0, codeChangedPrev := 0 }

/-- The Lamplighter before the first scan. -/
def lampReset : Lamp :=
  { samples := [], ratios := [], currents := [], probed := 0, listen := [], supplyBad := 0, slotCheckable := [], afterTiming := false, timingNew := false, bandFields := 0
    episode := false, suppressRaised := false, massTrips := 0, disarmed := 0, litScans := [], listened := [], uncovered := 0
    flagged := [], noticeBuf := [], lostSeen := 0, twins := [], refusedTwins := [], enabled := true,
    loadstepFell := none, lightGroups := 0, lightTodo := [], lightPaid := 0, lightRead := [], lightRef := [], conducted := [], lightScan := false, lightBad := false, lightDue := [], learn := [], rectDue := 0, covDone := 0, mapRebuild := false, agingTaken := 0 }

/-- A lane before its domain is on. -/
def laneReset : Lane :=
  { state := 0, rung := 0, emi := 0, ctleDb := 0, dfe := [0, 0, 0], preset := 0, partnerLane := 0xFF, partnerLink := 0, inverted := false
    adaptDone := false, partnerDone := false, bitLock := false, commaLock := false, tsSeen := 0, tsbSent := 0, emiLow := none, rungStart := 0, rejoining := false, txLseq := 0, rxLseq := 0
    nakSent := false, retry := [], lcntRx := none, lcntTx := 0, linkId := 0, emiMin := 48, emiDrop := 24, minLanes := 1, presetAsk := 0, askAt := 0, partnerEmi := 0
    elastic := 8, errAt := [], lullAt := 0, txJoined := false, rxJoined := false, sentTs := [] }

/-- The link down. -/
def lanesReset : Lanes :=
  { linkState := 0, rate := 0xFF, lanes := Vector.replicate 4 laneReset, firstIdentity := none, linkId := 0, minLanes := 1, waited := false, noLockSince := 0, locked := false, absent := false
    txSseq := 0, rxSseq := 0, ahead := [], bulkPart := [], ctlPart := [], bulkCount := 0, ctlCount := 0, delivered := [], readJob := none, txWait := [], resend := [], lcnt := 0
    grantBulk := 0, usedBulk := 0, grantCtl := 0, usedCtl := 0, hostBulk := 0, hostCtl := 0, lastLane := 3, wire := [] }


/-- A protection sensor before its first reading. DESIGN CHOICE (log 30): the specification gives no reading before the
first: 25 °C. -/
def protReset : ProtSensor := ⟨200, false, false, 0, 0⟩

/-- Sensors before their first reading (log 30). -/
def thermReset : Therm :=
  { tf := Vector.replicate 32 25, raw := Vector.replicate 32 none, lastValid := Vector.replicate 32 none, seen := 0, banded := 0
    band := Vector.replicate 32 1, deviating := Vector.replicate 32 0, votedOut := 0, dropped := 0, picked := 0
    differ := Vector.replicate 32 0, holdEnd := none, derating := 0, prot := Vector.replicate 4 protReset
    shutdown := false, journalRecovered := false, latched := none }

/-- The Hallmark record of a device that has never run the BIST: no valid record. -/
def hallmarkReset : Hallmark := ⟨false, false, 0, 0, 0, 0xFFFF, 0, 0, 0, 0, 0, 0, 0, 0, 0, 0, []⟩

/-- Nothing found. -/
def foundReset : BistFound := ⟨Vector.replicate 32 0, 0, [], 0, 0, 0, 0⟩

/-- A field record with the values R445 falls back to. DESIGN CHOICE (log 31): the factory's own are not in the specification. -/
def fieldRecordReset : FieldRecord := ⟨4, 0, 0, 0, 0x3F800000, 0⟩

/-- MRAM as shipped (log 31): no image, no saved set, no key, erased Lantern frames, an empty Ledger. -/
def mramReset : Mram :=
  { images := Vector.replicate 3 [], binning := [], binCheck := []
    records := Vector.replicate 2 (Vector.replicate 32 fieldRecordReset), recordCheck := Vector.replicate 2 1680298604, trimSaved := none
    aging := [], trim := [], saved := Vector.replicate 2 none, gens := [], serviceKey := none
    lantern := Vector.replicate 2 [], lanternDue := Vector.replicate 2 false, lanternAged := none, journal := ⟨0, false, false, []⟩, hallmark := hallmarkReset
    ledger := ⟨[], 0, [], []⟩, importTorn := false, litNs := 0, startedBefore := false }

/-- Calibration before a start. -/
def calReset : Cal :=
  { trim := [], trimNext := [], trimChanged := false, cursor := Vector.replicate 32 0, lastResult := []
    sinkLast := Vector.replicate 32 0, frefLast := 0, passStart := Vector.replicate 32 0, passMs := Vector.replicate 32 0, limitNow := Vector.replicate 32 0
    limitLast := Vector.replicate 32 0, frefNext := 0, refDropped := 0, refPick := 0, refDiffer := Vector.replicate 32 0
    bgDropped := 0, bgPick := 0, bgCode := Vector.replicate 3 0, bgDiffer := Vector.replicate 3 0, bgPair := 0, degraded := false
    termDropped := 0, termPick := 0, agingCursor := Vector.replicate 32 0, agingVals := Vector.replicate 32 [], fallback := 0
    mirrorReady := false, recordLost := false, imp := ⟨0, 0, [], none, 0⟩ }

/-- A slice in service. -/
def sliceReset : Slice := ⟨false, 0, 0, 0, 0, 0, 0, 0, 0, 0⟩

/-- A group at rest. -/
def groupAdcReset : Group := ⟨0, false, false, false, false, 0, [], 0, []⟩

/-- The converters on slices 0 to 3, slice 4 the spare. -/
def adcReset : Adc :=
  { slices := Vector.replicate 5 sliceReset, convs := Vector.ofFn (fun k => ⟨some k.val, 0, 0, 0, false, [], none⟩)
    groups := Vector.replicate 8 groupAdcReset, spare := some 4, lastGrid := none, target := 0, rotating := false, handover := false, noSpare := false
    spareReady := false, calBegan := none, rotateAt := 0, spareRef := 0, points := 0, pairs := 0, pairSum := 0, pairWorst := 0
    extFault := false, extChanged := false, clampPins := 0, clampEnd := 0, clampFlag := false, injState := 0, injLeft := 0
    vledNow := (0, 0), vledMean := 0, vledMin := none, vledMinPrev := none, nodeNow := none, nodePrev := none }

/-- Every domain off; the inputs at their inactive levels; VCORE at the top of its range (DESIGN CHOICE, log 32). -/
def powerReset : Power :=
  { device := 0, light := 0, domains := Vector.replicate 8 ⟨0, false, false⟩, tStart := 0, warm := false, coldBist := false
    request := none, darkBack := 3, darkFront := 3, drainAfter := 0, vsupMv := 0, uvWarn := false, ride := none
    vT := 3600, boostScans := 0, boostHold := false, litSeen := false, hdrmLimit := false, lowNodes := 0, highNodes := 0
    headroomLow := false, dip := ⟨false, 0, 0, 0, 0, 0⟩, vbat := [], anticipating := false, vbatGood := none
    loadstep := false, loadSwapped := false, fltIn := false, vcoreMv := 900, vcoreTop := 0, vcoreLimit := false, tollPeriods := 0
    inputs := Vector.replicate 4 ⟨false, false, [], none⟩, wakeLow := none, vio := true, testEn := false, xin := false
    fallback := false, restart := false, vledEarly := false, litSince := 0 }

/-- The machine before VSUP is valid: every domain off, every dictionary value at its default, no engine loaded, the
MRAM as shipped, nothing waiting. -/
def reset : State :=
  { now := 0, free := 0, pending := [], regs := []
    store := ⟨[], [], false, 0, 0, [], [], [], []⟩
    chans := ⟨[], [(4288, 8000)], List.range 256, [], [], []⟩
    queues := Vector.replicate 16 queueReset
    engines := Vector.ofFn (fun e => engineReset e.val)
    pair := ⟨false, none, [], false⟩
    takeover := none, modules := [], events := ⟨0, 0, [], 0, none, []⟩
    tolls := ⟨Vector.replicate 8 0, Vector.replicate 8 0, Vector.replicate 8 0, Vector.replicate 8 false, [], [], []⟩
    kdp := { sessions := Vector.replicate 8 sessionReset, keyholder := 0, staged := [], transports := Vector.replicate 4 transportReset,
             can := Vector.ofFn (fun c => { canReset with reqId := 0x5A0 + 4 * c.val, respId := 0x5A8 + 4 * c.val, notifyId := 0x5B0 + 4 * c.val }), spiOverflow := false, spiMiso := [], dataId := 0x4B, raised := 0, saving := none,
             blockEnd := 0, blocked := false, moduleHeld := [] }
    scan := scanReset, commits := commitsReset, pipe := pipeReset, refs := refsReset
    latches := ⟨[], [], [], [], []⟩
    lamp := lampReset
    lanes := lanesReset
    therm := thermReset
    mram := mramReset
    cal := calReset
    adc := adcReset
    power := powerReset
    bist := ⟨false, false, 0, 0xFFFFFFFF, false, 0, hallmarkReset, foundReset, hallmarkReset, [], 3, 0, 0⟩
    host := ⟨none, false, none, 0, false⟩
    lantern := ⟨0, 0xFF, 0, false, false, false, [], Vector.replicate 32 (0, 0), false, false, 0⟩
    dump := ⟨false, 0, 0, 0, 0, [], [], 0, none⟩
    jtag := ⟨0, 0, 3, [], List.replicate 16 false, none⟩
  }

end State

end Sys2Proof.Machine
end

