-- ==== Sys2Proof/Machine/Ops.lean ====
section
/-!
DEFINITION. The named operations that every meaning shares: the register file, the pixel store with its tiles, pages,
poison and check words, the Tolls, the queues, the events with their log and NOTIFY, and the sending of frames.
-/

namespace Sys2Proof.Machine

/-! ### Sparse maps and byte memories -/

/-- The value of a key; an unlisted key has its default. -/
def mapGet (d : Nat → Nat) : NatMap → Nat → Nat
  | [], k => d k
  | (a, v) :: t, k => if a = k then v else mapGet d t k

/-- A map with one key put to a value, canonical again: rising keys, no entry equal to its default. -/
def mapPut (d : Nat → Nat) (k v : Nat) (m : NatMap) : NatMap :=
  m.filter (fun p => decide (p.1 < k)) ++ (if v = d k then [] else [(k, v)]) ++ m.filter (fun p => decide (k < p.1))

/-- A byte of a memory; an unlisted address reads 0. -/
def memGet : Memory → Nat → Byte
  | [], _ => 0
  | (a, v) :: t, k => if a = k then v else memGet t k

/-- A memory with one byte written, in canonical form. -/
def memPut (k : Nat) (v : Byte) (m : Memory) : Memory :=
  m.filter (fun p => decide (p.1 < k)) ++ (if v = 0 then [] else [(k, v)]) ++ m.filter (fun p => decide (k < p.1))

/-- The canonical form of a memory: addresses above `lo` strictly rising, no byte equal to 0. -/
def memWfFrom : Option Nat → Memory → Bool
  | _, [] => true
  | lo, (a, v) :: t => (match lo with | none => true | some b => decide (b < a)) && v != 0 && memWfFrom (some a) t

/-- The canonical form of a memory. -/
def Memory.wf (m : Memory) : Bool := memWfFrom none m

/-- The canonical form of a sparse map with defaults `d`. -/
def mapWfFrom (d : Nat → Nat) : Option Nat → NatMap → Bool
  | _, [] => true
  | lo, (a, v) :: t => (match lo with | none => true | some b => decide (b < a)) && v != d a && mapWfFrom d (some a) t

/-- The canonical form of the register file. -/
def regsWf (m : NatMap) : Bool := mapWfFrom dictDefault none m

/-- `n` bytes of a memory from an address. -/
def memRange (m : Memory) (a n : Nat) : List Byte := (span a n).map (memGet m)

/-- A memory with a byte string written from an address. -/
def memWrite (m : Memory) (a : Nat) : List Byte → Memory
  | [] => m
  | v :: vs => memWrite (memPut a v m) (a + 1) vs

/-- The element of a vector at an index, or a default outside it. -/
def vget {α : Type} {n : Nat} (v : Vector α n) (d : α) (i : Nat) : α := (v[i]?).getD d

/-- A vector with the element at an index replaced; unchanged outside its range. -/
def vset {α : Type} {n : Nat} (v : Vector α n) (i : Nat) (x : α) : Vector α n := v.setIfInBounds i x

/-! ### The register file -/

/-- The value of a dictionary entry, as a number of its bytes. -/
def State.reg (s : State) (key : Nat) : Nat := mapGet dictDefault s.regs key

/-- The state with a dictionary value set. -/
def State.setReg (s : State) (key v : Nat) : State := { s with regs := mapPut dictDefault key v s.regs }

/-- A counter that wraps at 2^32, incremented. -/
def State.bump (s : State) (key : Nat) : State := s.setReg key ((s.reg key + 1) % 4294967296)

/-- A BOOL entry. -/
def State.flag (s : State) (key : Nat) : Bool := s.reg key != 0

/-- A signed entry of `w` bits. -/
def State.int (s : State) (w key : Nat) : Int := toInt w (s.reg key)

/-- A REAL32 entry. -/
def State.real (s : State) (key : Nat) : Rat := f32ToRat (s.reg key)

/-- Byte `i` of a DOMAIN entry. -/
def State.regByte (s : State) (key i : Nat) : Nat := bits (s.reg key) (8 * i + 7) (8 * i)

/-- The 16-bit number `i` of a DOMAIN entry. -/
def State.regHalf (s : State) (key i : Nat) : Nat := bits (s.reg key) (16 * i + 15) (16 * i)

/-- A free value: the machine's next, and the state with the draw counted. -/
def State.drawNat (s : State) : Nat × State := (Config.freeNat s.free, { s with free := s.free + 1 })

/-- A free rational. -/
def State.drawRat (s : State) : Rat × State := (Config.freeRat s.free, { s with free := s.free + 1 })

/-- A timed event stands for the instant it names: the time code is at least that instant (DESIGN CHOICE, log 2). -/
def State.atLeast (s : State) (t : Nat) : State := { s with now := Nat.max s.now t }

/-- What a step does while no command waits: the timebase counts one nanosecond, except in OFF (DESIGN CHOICE, log 1). -/
def State.tick (s : State) : State := if s.power.device = 0 then s else { s with now := s.now + 1 }

/-! ### Coordinates (R35 to R37) -/

/-- Tile of a pixel. -/
def tileOf (x y : Nat) : Nat := (y / 16) * 128 + x / 16
/-- Field of a pixel. -/
def fieldOf (x y : Nat) : Nat := (y / 128) * 8 + x / 256
/-- Sink of a pixel. -/
def sinkOf (x y : Nat) : Nat := (y / 4) * 512 + x / 4
/-- Pixel phase. -/
def phaseOf (x y : Nat) : Nat := (y % 4) * 4 + x % 4
/-- Stagger group. -/
def groupOf (x y : Nat) : Nat := ((y / 4) % 4) * 4 + (x / 4) % 4
/-- Pixel index. -/
def pixelOf (x y : Nat) : Nat := y * 2048 + x
/-- Field of a tile. -/
def tileField (t : Nat) : Nat := fieldOf ((t % 128) * 16) ((t / 128) * 16)
/-- Field of a sink. -/
def sinkField (k : Nat) : Nat := fieldOf ((k % 512) * 4) ((k / 512) * 4)
/-- The tiles of a field. -/
def fieldTiles (f : Nat) : List Nat :=
  (List.range 8).flatMap (fun r => (List.range 16).map (fun c => ((f / 8) * 8 + r) * 128 + (f % 8) * 16 + c))
/-- The pixels of a sink's cluster, by phase. -/
def sinkPixels (k : Nat) : List Nat :=
  (List.range 16).map (fun p => pixelOf ((k % 512) * 4 + p % 4) ((k / 512) * 4 + p / 4))

/-- R37: the beam-to-physical mapping, its own inverse. -/
def orient (o u v : Nat) : Nat × Nat :=
  (if o % 2 = 1 then 2047 - u else u, if o / 2 = 1 then 511 - v else v)

/-- All 4,096 tiles. -/
def allTiles : TileSet := BitVec.allOnes 4096

/-- A set from a list of tiles. -/
def tileSet (l : List Nat) : TileSet := l.foldl (fun a t => bvPut a t true) 0

/-- The tiles of a set, ascending. -/
def TileSet.toList (x : TileSet) : List Nat := (List.range 4096).filter (fun t => x.getLsbD t)

/-! ### The pixel store (R250 to R257) -/

/-- R176: bytes per tile of a surface format. -/
def formatBytes : Nat → Nat
  | 0 => 256 | 1 => 512 | 2 => 512 | 3 => 512 | 4 => 32 | 5 => 128 | _ => 512

/-- CRC-32C of a tile of zeros, by its bytes (R262). -/
def zeroCheck : Nat → Nat
  | 32 => 2324772522 | 128 => 136799451 | 256 => 3094524304 | _ => 821882304

/-- CRC-32C of a mirror tile built from the shipped binning word alone. -/
def mirrorCheck : Nat := 160958280

/-- First byte of each fixed region, in the order of the table of R252. DESIGN CHOICE (log 4): no addresses are stated. -/
def composedBase : Nat := 0
/-- Drive frame. -/
def driveBase : Nat := 4259840
/-- Glaze cache. -/
def glazeBase : Nat := 8519680
/-- Calibration mirror. -/
def mirrorBase : Nat := 10682368
/-- Ingest staging. -/
def ingestBase : Nat := 14942208
/-- Queue rings. -/
def queueBase : Nat := 15466496
/-- Dump region. -/
def dumpBase : Nat := 16515072
/-- Channel pool. -/
def poolBase : Nat := 17563648
/-- Bytes of the pixel store (R250). -/
def storeSize : Nat := 50331648

/-- Byte `o` of a fresh two-slot side record. -/
def freshSide2 (t o : Nat) : Byte := if o < 8 then BitVec.ofNat 8 (zeroCheck t / 2 ^ (8 * (o % 4))) else 0

/-- Byte `o` of a fresh single-slot side record with check `c`. -/
def freshSide1 (c o : Nat) : Byte := if o < 4 then BitVec.ofNat 8 (c / 2 ^ (8 * o)) else 0

/-- Bytes of a channel under R258 and R269. -/
def Channel.bytes (c : Channel) : Nat :=
  if c.type = 1 then
    let n := (c.width / 16) * (c.height / 16)
    2 * n * formatBytes c.format + 16 * n
  else if c.type = 2 then c.size * 528
  else c.size

/-- Tiles of a channel that holds tiles. -/
def Channel.tiles (c : Channel) : Nat :=
  if c.type = 1 then (c.width / 16) * (c.height / 16) else if c.type = 2 then c.size else 0

/-- Bytes per tile of a channel that holds tiles. -/
def Channel.tileBytes (c : Channel) : Nat := if c.type = 1 then formatBytes c.format else 512

/-- R259: the handle of a channel. -/
def Channel.handle (c : Channel) : Nat := c.type * 2 ^ 24 + c.gen * 256 + c.slot

/-- Pages of a channel. -/
def Channel.pages (c : Channel) : Nat := ceilDiv c.bytes 4096

/-- Physical page of page `p` of a list of runs. -/
def runPage : List (Nat × Nat) → Nat → Nat
  | [], _ => 0
  | (a, n) :: t, p => if p < n then a + p else runPage t (p - n)

/-- Physical byte address of a byte offset in a channel (R253). -/
def Channel.addr (c : Channel) (o : Nat) : Nat := runPage c.runs (o / 4096) * 4096 + o % 4096

/-- The page within a channel that a physical page is, if it belongs to the channel. -/
def pageIn : List (Nat × Nat) → Nat → Option Nat
  | [], _ => none
  | (a, n) :: t, p => if a ≤ p ∧ p < a + n then some (p - a) else (pageIn t p).map (· + n)

/-- What a byte of a freshly created channel reads (R262, R153). -/
def Channel.fresh (c : Channel) (o : Nat) : Byte :=
  if c.type = 1 then
    let d := 2 * c.tiles * formatBytes c.format
    if o < d then 0 else if o < c.bytes then freshSide2 (formatBytes c.format) ((o - d) % 16) else 0
  else if c.type = 2 then
    if o < c.size * 512 then 0 else if o < c.bytes then freshSide1 (zeroCheck 512) ((o - c.size * 512) % 16) else 0
  else c.fill

/-- What a byte of the pixel store reads that nothing has written since it was laid out: the fixed regions as the boot leaves
them, a channel as its creation leaves it, and 0 in rings, staging, dump and free pages (DESIGN CHOICE, log 4). -/
def background (s : State) (a : Nat) : Byte :=
  if a < driveBase then (if a < 4194304 then 0 else freshSide2 512 (a % 16))
  else if a < glazeBase then (if a - driveBase < 4194304 then 0 else freshSide2 512 (a % 16))
  else if a < mirrorBase then (if a - glazeBase < 2097152 then 0 else freshSide1 (zeroCheck 512) (a % 16))
  else if a < ingestBase then
    (if a - mirrorBase < 4194304 then (match a % 4 with | 0 => 0x10 | 3 => 0x80 | _ => 0) else freshSide1 mirrorCheck (a % 16))
  else if a < poolBase then 0
  else
    match s.chans.live.findSome? (fun c => (pageIn c.runs (a / 4096)).map (fun p => c.fresh (p * 4096 + a % 4096))) with
    | some b => b
    | none => 0

/-- A byte of the pixel store. The memory holds it combined with its background, so that nothing is listed for a byte
that still reads as laid out. -/
def loadByte (s : State) (a : Nat) : Byte := memGet s.store.mem a ^^^ background s a

/-- `n` bytes of the pixel store. -/
def loadBytes (s : State) (a n : Nat) : List Byte := (span a n).map (loadByte s)

/-- A byte written; a written word is no longer poisoned (R255). -/
def storeByte (s : State) (a : Nat) (v : Byte) : State :=
  { s with store := { s.store with mem := memPut a (v ^^^ background s a) s.store.mem,
                                   poison := s.store.poison.filter (· != a - a % 8) } }

/-- A byte string written from an address. -/
def storeBytes (s : State) (a : Nat) : List Byte → State
  | [] => s
  | v :: vs => storeBytes (storeByte s a v) (a + 1) vs

/-- Whether any word of `n` bytes from `a` is poisoned. -/
def poisoned (s : State) (a n : Nat) : Bool := s.store.poison.any (fun w => decide (a < w + 8) && decide (w < a + n))

/-- R255: `n` bytes as a reader without check words receives them: a poisoned word reads 0. -/
def cleanBytes (s : State) (a n : Nat) : List Byte := (span a n).map (fun i => if poisoned s i 1 then 0 else loadByte s i)

/-- `n` bytes of a channel from an offset. -/
def chanBytes (s : State) (c : Channel) (o n : Nat) : List Byte := (span o n).map (fun i => loadByte s (c.addr i))

/-- A byte string written into a channel from an offset. -/
def chanWrite (s : State) (c : Channel) (o : Nat) : List Byte → State
  | [] => s
  | v :: vs => chanWrite (storeByte s (c.addr o) v) c (o + 1) vs

/-- Whether a word of `n` bytes of a channel from an offset is poisoned. -/
def chanPoisoned (s : State) (c : Channel) (o n : Nat) : Bool :=
  (span (o / 8) ((o + n + 7) / 8 - o / 8)).any (fun w => s.store.poison.contains (c.addr (8 * w)))

/-- The live channel that a handle names (R264): slot, generation and type all match. -/
def State.channel (s : State) (h : Nat) : Option Channel :=
  s.chans.live.find? (fun c => decide (c.slot = h % 256) && decide (c.gen = bits h 23 8) && decide (c.type = h / 2 ^ 24))

/-- The channel that a handle names while its destroy has not been accepted (R266). -/
def State.usable (s : State) (h : Nat) : Option Channel := (s.channel h).bind (fun c => if c.destroyed then none else some c)

/-- A tile of the store: where its data and its check word stand. -/
inductive TileRef where
  | composed (t slot : Nat)
  | drive (t slot : Nat)
  | glaze (t : Nat)
  | mirror (t : Nat)
  | surface (c : Channel) (i slot : Nat)
  | capture (c : Channel) (i : Nat)
  deriving DecidableEq, Repr

/-- Bytes of a tile. -/
def TileRef.size : TileRef → Nat
  | .mirror _ => 1024
  | .surface c _ _ => formatBytes c.format
  | _ => 512

/-- Physical address of a tile's first byte (a tile never straddles a page). -/
def TileRef.base : TileRef → Nat
  | .composed t k => composedBase + (2 * t + k) * 512
  | .drive t k => driveBase + (2 * t + k) * 512
  | .glaze t => glazeBase + t * 512
  | .mirror t => mirrorBase + t * 1024
  | .surface c i k => c.addr ((2 * i + k) * formatBytes c.format)
  | .capture c i => c.addr (512 * i)

/-- Physical address of a tile's side record (R269, R270). -/
def TileRef.side : TileRef → Nat
  | .composed t _ => composedBase + 4194304 + 16 * t
  | .drive t _ => driveBase + 4194304 + 16 * t
  | .glaze t => glazeBase + 2097152 + 16 * t
  | .mirror t => mirrorBase + 4194304 + 16 * t
  | .surface c i _ => c.addr (2 * c.tiles * formatBytes c.format + 16 * i)
  | .capture c i => c.addr (512 * c.size + 16 * i)

/-- Which of CHECK0 and CHECK1 covers a tile. -/
def TileRef.slot : TileRef → Nat
  | .composed _ k => k
  | .drive _ k => k
  | .surface _ _ k => k
  | _ => 0

/-- The same tile's other slot, where it has two. -/
def TileRef.other : TileRef → Option TileRef
  | .composed t k => some (.composed t (1 - k))
  | .drive t k => some (.drive t (1 - k))
  | .surface c i k => some (.surface c i (1 - k))
  | _ => none

/-- The handle that E114 and E115 carry (R285). -/
def TileRef.handle : TileRef → Nat
  | .surface c _ _ => c.handle
  | .capture c _ => c.handle
  | _ => 0

/-- The tile index that E114 and E115 carry. -/
def TileRef.index : TileRef → Nat
  | .composed t _ => t
  | .drive t _ => t
  | .glaze t => t
  | .mirror t => t
  | .surface _ i _ => i
  | .capture _ i => i

/-- A tile's data bytes as they stand. -/
def tileData (s : State) (r : TileRef) : List Byte := loadBytes s r.base r.size

/-- A tile's check word as it stands. -/
def tileCheck (s : State) (r : TileRef) : Nat := natLE (loadBytes s (r.side + 4 * r.slot) 4)

/-- STATE of a tile's side record (R270); a poisoned word reads 0 (R255). -/
def sideState (s : State) (r : TileRef) : Nat := natLE (cleanBytes s (r.side + 8) 4)

/-- STATE written. -/
def setSideState (s : State) (r : TileRef) (v : Nat) : State := storeBytes s (r.side + 8) (bytesLE 4 v)

/-- SEL of a tile. -/
def tileSel (s : State) (r : TileRef) : Nat := sideState s r % 2

/-- A tile's data and check word written together (R283). -/
def writeTile (s : State) (r : TileRef) (data : List Byte) (check : Nat) : State :=
  storeBytes (storeBytes s r.base data) (r.side + 4 * r.slot) (bytesLE 4 check)

/-- The front slot of a composed tile. -/
def composedFront (s : State) (t : Nat) : TileRef := .composed t (tileSel s (.composed t 0))
/-- The front slot of a drive tile. -/
def driveFront (s : State) (t : Nat) : TileRef := .drive t (tileSel s (.drive t 0))

/-! ### OPSEC and the Ledger (R506 to R508) -/

/-- Nanoseconds of LIT operation since manufacture. -/
def litTime (s : State) : Nat := s.mram.litNs + (if s.power.device = 4 then s.now - s.power.litSince else 0)

/-- Seconds of LIT operation since manufacture. -/
def opsec (s : State) : Nat := (litTime s / 1000000000) % 4294967296

/-- R506: a ring entry: the record, SEQ, START, AUX and the check. -/
def ledgerEntry (s : State) (record : List Byte) (aux : Nat) : List Byte :=
  let b := slice record 0 16 ++ bytesLE 4 s.mram.ledger.next ++ bytesLE 4 (s.reg Reg.bistStartCount) ++ bytesLE 4 aux
  b ++ bytesLE 4 (crc32c b)

/-- A place of the ring written. -/
def ringPut (p : Nat) (b : List Byte) : List (Nat × List Byte) → List (Nat × List Byte)
  | [] => [(p, b)]
  | (a, v) :: t => if p < a then (p, b) :: (a, v) :: t else if p = a then (p, b) :: t else (a, v) :: ringPut p b t

/-- R507: the ring's entries, oldest first; one whose CRC fails is ignored. The entry of a SEQ stands at place SEQ mod 15,360 (log 60). -/
def ledgerEntries (l : Ledger) : List (List Byte) :=
  let k := l.next % 15360
  ((l.ring.filter (fun p => decide (k ≤ p.1)) ++ l.ring.filter (fun p => decide (p.1 < k))).map (·.2)).filter (fun b =>
    field b 28 4 == crc32c (slice b 0 28))

/-- R507: a record appended to the ring; the oldest entry is overwritten when the ring is full. A record of type 0x20 or 0x23 is
counted (R413). -/
def ledgerAppend (s : State) (record : List Byte) (aux : Nat) : State :=
  let l := s.mram.ledger
  let s1 := { s with mram := { s.mram with ledger := { l with ring := ringPut (l.next % 15360) (ledgerEntry s record aux) l.ring,
                                                              next := (l.next + 1) % 4294967296 } } }
  if field record 0 1 = 0x20 ∨ field record 0 1 = 0x23 then s1.bump Reg.thermShutdownCount else s1

/-! ### Events (R384 to R390), queues (R273 to R278) and the sending of frames -/

/-- `queue.entries`. -/
def qEntries (s : State) (q : Nat) : Nat := s.reg (Reg.queueEntries q)

/-- A queue's control. -/
def qCtl (s : State) (q : Nat) : QueueCtl := vget s.queues State.queueReset q

/-- The state with a queue's control replaced. -/
def setQ (s : State) (q : Nat) (c : QueueCtl) : State := { s with queues := vset s.queues q c }

/-- `queue.count`: TAIL − HEAD. -/
def qCount (s : State) (q : Nat) : Nat := ((qCtl s q).tail - (qCtl s q).head).toNat

/-- R274: TAIL − HEAD equals `queue.entries`. -/
def qFull (s : State) (q : Nat) : Bool := decide (qCount s q = qEntries s q)

/-- R273: address of entry `j` of a ring. -/
def qAddr (s : State) (q : Nat) (j : BitVec 16) : Nat := queueBase + q * 65536 + 32 * (j.toNat % qEntries s q)

/-- The time code in µs modulo 2^32. -/
def timeUs (s : State) : Nat := (s.now / 1000) % 4294967296

/-- R275: the 32 bytes of an entry; the body fills bytes 8 to 31. -/
def qEntry (s : State) (q kind : Nat) (body : List Byte) : List Byte :=
  bytesLE 2 kind ++ bytesLE 2 (qCtl s q).tail.toNat ++ bytesLE 4 (timeUs s) ++ slice body 0 24

/-- R276: an entry written at TAIL of a queue that is not full. -/
def qPut (s : State) (q : Nat) (entry : List Byte) : State :=
  let c := qCtl s q
  let s1 := storeBytes s (qAddr s q c.tail) (slice entry 0 32)
  let n := (c.tail + 1 - c.head).toNat
  setQ s1 q { c with tail := c.tail + 1, highWater := Nat.max c.highWater n }

/-- R276: advance HEAD past every consecutive acknowledged entry. -/
def qAdvance : Nat → QueueCtl → QueueCtl
  | 0, c => c
  | n + 1, c => if c.acked.contains c.head then qAdvance n { c with head := c.head + 1, acked := c.acked.filter (· != c.head) } else c

/-- R276: an entry acknowledged. -/
def qAck (s : State) (q : Nat) (seq : BitVec 16) : State :=
  let c := qCtl s q
  if c.lessees.any (fun l => l.1 == seq) then
    setQ s q (qAdvance (c.acked.length + 1) { c with lessees := c.lessees.filter (fun l => l.1 != seq), acked := c.acked ++ [seq] })
  else s

/-- R276: the entry a lease-pop delivers, returned entries first. -/
def qNext (s : State) (q : Nat) : Option (BitVec 16) :=
  let c := qCtl s q
  match c.returned with
  | r :: _ => some r
  | [] => if c.lease = c.tail then none else some c.lease

/-- R276: a lease-pop by an engine. -/
def qLease (s : State) (q e : Nat) : State :=
  let c := qCtl s q
  match c.returned with
  | r :: t => setQ s q { c with returned := t, lessees := c.lessees ++ [(r, e)] }
  | [] => if c.lease = c.tail then s else setQ s q { c with lease := c.lease + 1, lessees := c.lessees ++ [(c.lease, e)] }

/-- The bytes of an entry. -/
def qBytes (s : State) (q : Nat) (seq : BitVec 16) : List Byte := cleanBytes s (qAddr s q seq) 32

/-- The stock firmware's pop and acknowledge of a queue's next entry, in one step. -/
def qTake (s : State) (q : Nat) : Option (List Byte) × State :=
  match qNext s q with
  | none => (none, s)
  | some seq => (some (qBytes s q seq), qAck (qLease s q 0) q seq)

/-- Credits the lane transmitter of a pool holds (R228). -/
def txCredits (l : Lanes) (ctl : Bool) : Nat :=
  if ctl then (l.grantCtl + 65536 - l.usedCtl % 65536) % 65536 else (l.grantBulk + 65536 - l.usedBulk % 65536) % 65536

/-- A lane. -/
def laneOf (l : Lanes) (k : Nat) : Lane := vget l.lanes State.laneReset k

/-- The active lanes (R225). -/
def activeLanes (l : Lanes) : List Nat := (List.range 4).filter (fun k => (laneOf l k).state = 5)

/-- Bytes held in a lane's retry buffer. -/
def retryBytes (k : Lane) : Nat := (k.retry.map (fun r => r.bytes.length)).sum

/-- R223, R225: the next active lane after the last one dealt to, in ascending order, whose retry buffer has space. -/
def nextLane (l : Lanes) (n : Nat) : Option Nat :=
  ((List.range 4).map (fun i => (l.lastLane + 1 + i) % 4)).find? (fun k =>
    (decide ((laneOf l k).state = 5) || (laneOf l k).txJoined) && decide (retryBytes (laneOf l k) + n ≤ 32768))

/-- R220: the bytes of a link packet, LSEQ to LCRC. -/
def linkPacketBytes (lseq sseq flags : Nat) (payload : List Byte) : List Byte :=
  let h := bytesLE 2 lseq ++ bytesLE 2 sseq ++ bytesLE 2 payload.length ++ bytesLE 1 flags ++ bytesLE 1 0 ++ payload
  h ++ bytesLE 4 (crc32c h)

/-- R220, R221: a packet on the line: its start symbol, its bytes, EOP. -/
def framed (start : CtlSymbol) (b : List Byte) : List LaneSymbol := .ctl start :: b.map .data ++ [.ctl .eop]

/-- A link packet put on lane `k` and into its retry buffer. -/
def linkPut (l : Lanes) (k now sseq flags : Nat) (payload : List Byte) : Lanes :=
  let lane := laneOf l k
  let r : Retry := ⟨lane.txLseq, linkPacketBytes lane.txLseq sseq flags payload, 0, now⟩
  { l with lanes := vset l.lanes k { lane with txLseq := (lane.txLseq + 1) % 4096, retry := lane.retry ++ [r] }, lastLane := k, wire := l.wire ++ [(k, framed .sol r.bytes)] }

/-- R223, R225, R228, R243: link packets sent while the link is up and a lane has room: first those of a lost lane, then new ones while
credits last. -/
def linkPump : Nat → Nat → Lanes → Lanes
  | 0, _, l => l
  | n + 1, now, l =>
    if l.linkState ≠ 2 then l else
    match l.resend with
    | (sseq, flags, payload) :: rest =>
      match nextLane l (payload.length + 12) with
      | none => l
      | some k => linkPump n now { linkPut l k now sseq flags payload with resend := rest }
    | [] =>
      -- the first waiting packet whose pool has a credit; order within each pool is kept (R226)
      match l.txWait.find? (fun w => decide (0 < txCredits l w.1)) with
      | none => l
      | some (ctl, flags, payload) =>
        match nextLane l (payload.length + 12) with
        | none => l
        | some k =>
          let l1 := { linkPut l k now l.txSseq flags payload with txSseq := (l.txSseq + 1) % 65536, txWait := l.txWait.erase (ctl, flags, payload) }
          let l2 := if ctl then { l1 with usedCtl := l1.usedCtl + 1 } else { l1 with usedBulk := l1.usedBulk + 1 }
          linkPump n now l2

/-- All that may be sent now is sent. -/
def pumpAll (s : State) : State :=
  { s with lanes := linkPump (s.lanes.resend.length + s.lanes.txWait.length) s.now s.lanes }

/-- The payload parts of a transaction packet, 512 bytes each. -/
def packetParts : Nat → List Byte → List (List Byte)
  | 0, _ => []
  | n + 1, b => if b.length ≤ 512 then [b] else b.take 512 :: packetParts n (b.drop 512)

/-- A transaction packet queued for the lanes and sent as credits allow (R226). While the link is down it is discarded (R247). -/
def linkSend (s : State) (ctl : Bool) (packet : List Byte) : State :=
  if s.lanes.linkState ≠ 2 then s else
  let parts := packetParts (packet.length / 512 + 1) packet
  let n := parts.length
  let ws := (parts.zip (List.range n)).map (fun p =>
    (ctl, b2n (p.2 = 0) + 2 * b2n (p.2 + 1 = n) + 4 * b2n ctl, p.1))
  pumpAll { s with lanes := { s.lanes with txWait := s.lanes.txWait ++ ws } }

/-- R229: a transaction packet with its header and TCRC. -/
def transaction (type flags tag : Nat) (body : List Byte) : List Byte :=
  let pad := body ++ List.replicate ((4 - body.length % 4) % 4) 0
  let h := bytesLE 1 type ++ bytesLE 1 flags ++ bytesLE 2 tag ++ bytesLE 4 (12 + pad.length) ++ pad
  h ++ bytesLE 4 (crc32c h)

/-- A session. -/
def sessOf (s : State) (n : Nat) : Session := vget s.kdp.sessions State.sessionReset (n - 1)

/-- The state with session `n` (1 to 8) replaced. -/
def setSess (s : State) (n : Nat) (x : Session) : State :=
  { s with kdp := { s.kdp with sessions := vset s.kdp.sessions (n - 1) x } }

/-- A transport. -/
def transOf (s : State) (t : Nat) : Transport := vget s.kdp.transports State.transportReset t

/-- The state with a transport replaced. -/
def setTrans (s : State) (t : Nat) (x : Transport) : State :=
  { s with kdp := { s.kdp with transports := vset s.kdp.transports t x } }

/-- R316: the data ID of a frame on a transport, in a direction. -/
def dataId (s : State) (t : Nat) (toHost : Bool) : Nat := s.kdp.dataId * 256 + t * 64 + (if toHost then 32 else 0)

/-- R315, R316: a frame from the device. -/
def kdpFrame (s : State) (t svc seq session reqSeq key status : Nat) (payload : List Byte) : List Byte :=
  let h := bytesLE 1 (128 + svc) ++ bytesLE 1 seq ++ bytesLE 1 session ++ bytesLE 1 reqSeq ++ bytesLE 2 (key / 256) ++
    bytesLE 1 key ++ bytesLE 1 status ++ bytesLE 2 payload.length ++ bytesLE 2 0 ++ payload
  h ++ bytesLE 2 (crc16 (bytesLE 2 (dataId s t true) ++ h))

/-- R343: padded to the next CAN FD data length. -/
def canPad (f : List Byte) : List Byte :=
  match [12, 16, 20, 24, 32, 48, 64].find? (fun n => decide (f.length ≤ n)) with
  | some n => slice f 0 n
  | none => f

/-- R534: the TAP in Test-Logic-Reset, IDCODE selected and TDO high-Z. -/
def tapReset (s : State) : State := { s with jtag := { s.jtag with tap := 0, ir := 3, tdo := none } }

/-- A CAN controller. -/
def canOf (s : State) (c : Nat) : CanCtl := vget s.kdp.can State.canReset c

/-- The state with a CAN controller replaced. -/
def setCan (s : State) (c : Nat) (x : CanCtl) : State := { s with kdp := { s.kdp with can := vset s.kdp.can c x } }

/-- R345, R518: whether a controller may send. -/
def canSends (s : State) (c : Nat) : Bool := s.power.vio && decide ((canOf s c).mode = 0) && !(canOf s c).busOff

/-- R344: the bit timing and the identifiers of the entries of controller `c`. -/
def canTakes (s : State) (c : Nat) (k : CanCtl) : CanCtl :=
  { k with nomKbps := s.reg (Reg.canNomKbps c), dataKbps := s.reg (Reg.canDataKbps c), nomSp := s.reg (Reg.canNomSp c), dataSp := s.reg (Reg.canDataSp c)
           brs := s.flag (Reg.canBrs c), ext := s.flag (Reg.canIdExt c), reqId := s.reg (Reg.canReqId c), respId := s.reg (Reg.canRespId c)
           notifyId := s.reg (Reg.canNotifyId c) }

/-- R343, R344: every waiting frame of a controller that may send goes onto the bus, with the identifier of its kind. -/
def canDrain (s : State) (c : Nat) : State :=
  if canSends s c then
    let t := transOf s c
    let k := canOf s c
    let id (f : List Byte) := if field f 0 1 % 16 = 6 then k.notifyId else k.respId
    setCan (setTrans s c { t with tx := [] }) c { k with sent := k.sent ++ t.tx.map (fun f => ⟨k.ext, id f, k.brs, canPad f⟩) }
  else s

/-- The transmit buffers of a transport (R340). -/
def txBuffers (t : Nat) : Nat := if t < 2 then 64 else if t = 2 then 4 else 8

/-- R229: whether a waiting packet of the control pool is the last of a KDP frame: another last one is a whole STATUS packet. -/
def kdpLast (w : Bool × Nat × List Byte) : Bool := w.1 && bitAt w.2.1 1 && !(bitAt w.2.1 0 && field w.2.2 0 1 == 0x81)

/-- R340: the transmit buffers of a transport in use. -/
def txUsed (s : State) (t : Nat) : Nat := if t = 3 then s.lanes.txWait.countP kdpLast else (transOf s t).tx.length

/-- R280: the queue through which a transport's frames go. -/
def txQueue (t : Nat) : Nat := if t = 3 then 1 else 4

/-- R340: whether a frame can be placed on its queue: a transmit buffer of its transport is free, and the queue has space. -/
def txReady (s : State) (t : Nat) : Bool := decide (txUsed s t < txBuffers t) && !qFull s (txQueue t)

/-- R340, R277: a frame placed in a transmit buffer and its entry on the queue, which the hardware consumer pops and acknowledges in one
step. The entry has the layout of a received frame's (DESIGN CHOICE, log 191). -/
def placeFrame (s : State) (t : Nat) (f : List Byte) : State :=
  let q := txQueue t
  let s1 := (qTake (qPut s q (qEntry s q 0x0A01 (bytesLE 1 t ++ bytesLE 1 (txUsed s t) ++ bytesLE 2 f.length))) q).2
  if t = 3 then linkSend s1 true (transaction 4 0 0 f)
  else
    let x := transOf s1 t
    let s2 := setTrans s1 t { x with tx := x.tx ++ [f] }
    if t < 2 then canDrain s2 t else s2

/-- A response for a transport; without a free transmit buffer it waits (DESIGN CHOICE, log 191). -/
def sendFrame (s : State) (t : Nat) (f : List Byte) : State :=
  let x := transOf s t
  if x.txHeld.isEmpty && txReady s t then placeFrame s t f else setTrans s t { x with txHeld := x.txHeld ++ [f] }

/-- Responses that waited, placed as transmit buffers come free. -/
def releaseTx : Nat → Nat → State → State
  | 0, _, s => s
  | n + 1, t, s =>
    let x := transOf s t
    match x.txHeld with
    | [] => s
    | f :: rest => if txReady s t then releaseTx n t (placeFrame (setTrans s t { x with txHeld := rest }) t f) else s

/-- All the responses that may be placed now. -/
def releaseAll (s : State) (t : Nat) : State := releaseTx (transOf s t).txHeld.length t s

/-- Whether a transport has a free transmit buffer for a NOTIFY (R327, R340). -/
def txFree (s : State) (t : Nat) : Bool := (t != 3 || s.lanes.linkState == 2) && (transOf s t).txHeld.isEmpty && txReady s t

/-- R327: the NOTIFY of an event in session `n`. -/
def notifySession (e : Nat) (data : BitVec 64) (s : State) (n : Nat) : State :=
  let x := sessOf s n
  if x.isOpen && x.notifyMask.getLsbD e then
    if txFree s x.transport then
      let f := kdpFrame s x.transport 6 x.devSeq.toNat n 0 0 0
        (bytesLE 1 e ++ bytesLE 3 0 ++ bytesLE 4 (timeUs s) ++ bytesLE 8 data.toNat)
      sendFrame (setSess s n { x with devSeq := x.devSeq + 1 }) x.transport f
    else setSess s n { x with notifyLost := (x.notifyLost + 1) % 4294967296 }
  else s

/-- The engines that run under an engine number: the engine itself while it runs, or WJ in its place (R378). -/
def runsAs (s : State) (n : Nat) : List Nat :=
  (List.range 9).filter (fun e => decide ((vget s.engines (State.engineReset 0) e).runsAs = n) &&
    (vget s.engines (State.engineReset 0) e).run == .running)

/-- R384: a pending event set in an engine; a raise while the bit is set replaces the data. -/
def pendEvent (x : Engine) (p : PendingEvent) : Engine :=
  { x with pendingEvents := (x.pendingEvents.filter (fun q => q.event != p.event)) ++ [p] }

/-- `evt.config` of a source. -/
def evConfig (s : State) (e : Nat) : Nat := s.reg (Reg.evtConfig e)

/-- An engine. -/
def engOf (s : State) (e : Nat) : Engine := vget s.engines (State.engineReset e) e

/-- The state with an engine replaced. -/
def setEng (s : State) (e : Nat) (x : Engine) : State := { s with engines := vset s.engines e x }

/-- R350: a general register written; g0 ignores writes. -/
def Engine.put (x : Engine) (rd : Fin 32) (v : Word) : Engine := if rd = 0 then x else { x with g := x.g.set rd v }

/-- An engine past its present instruction. -/
def Engine.next (x : Engine) : Engine := { x with pc := x.pc + 4 }

/-- R382: the other running engine of the pair that an engine belongs to. -/
def partner (s : State) (e : Nat) : Option Nat :=
  let n := (engOf s e).runsAs
  if s.pair.active && decide (n < 2) then (runsAs s (1 - n)).head? else none

/-- R385: of two pending events, the one to deliver: the higher PRIO, the lower number among equals. -/
def earlier (s : State) (p q : PendingEvent) : PendingEvent :=
  let a := evConfig s p.event % 8
  let b := evConfig s q.event % 8
  if a < b ∨ (a = b ∧ q.event < p.event) then q else p

/-- R385: the pending event that EWAIT would deliver to an engine. -/
def nextEvent (s : State) (x : Engine) : Option PendingEvent :=
  (x.pendingEvents.filter (fun p => x.evmask.getLsbD p.event)).foldl (fun b p => match b with
    | none => some p
    | some q => some (earlier s q p)) none

/-- R385: a pending event delivered: its pending bit cleared, EVDATA and EVTIME valid. -/
def Engine.takeEvent (x : Engine) (p : PendingEvent) : Engine :=
  { x with pendingEvents := x.pendingEvents.filter (fun q => q.event != p.event), evdata := p.data, evtime := p.timeUs }

/-- R385: a waiting EWAIT completed with a result. -/
def Engine.endWait (x : Engine) (rd : Fin 32) (v : Word) (timedOut : Bool) : Engine :=
  ({ x with stall := .none, flags := { x.flags with e := timedOut } }.put rd v).next

/-- R382, R385: a delivery to one engine of the pair given to the other: to its own EWAIT if it waits, else held for it. -/
def shareEvent (s : State) (o : Nat) (p : PendingEvent) : State :=
  let v := BitVec.ofNat 32 p.event
  let y := (engOf s o).takeEvent p
  match y.stall with
  | .event rd _ => setEng s o (y.endWait rd v false)
  | _ =>
    let s1 := setEng s o { (engOf s o) with pendingEvents := y.pendingEvents }
    { s1 with pair := { s1.pair with inputs := s1.pair.inputs ++ [(o, ⟨v, some false, [], some (p.data, p.timeUs)⟩)] } }

/-- R385: the engines among some that wait for an event and now have one. -/
def wakeEvents (es : List Nat) (s : State) : State :=
  es.foldl (fun st k =>
    let x := engOf st k
    match x.stall, nextEvent st x with
    | .event rd _, some p =>
      let st1 := setEng st k ((x.takeEvent p).endWait rd (BitVec.ofNat 32 p.event) false)
      match partner st1 k with
      | some o => shareEvent st1 o p
      | none => st1
    | _, _ => st) s

/-- R384: the pending bit of a source set in every engine that ENGINE names. -/
def pendEngines (s : State) (e : Nat) (data : BitVec 64) : State :=
  let targets := (List.range 8).filter (fun n => bitAt (evConfig s e) (16 + n))
  let es := targets.flatMap (runsAs s)
  -- an engine that WJ is about to replace keeps its pending bits for it (R378)
  let failed := match s.takeover with
    | some p => if targets.contains (engOf s p.1).runsAs then [p.1] else []
    | none => []
  wakeEvents es { s with engines := (failed ++ es).foldl (fun v k =>
      vset v k (pendEvent (vget v (State.engineReset k) k) ⟨e, data, BitVec.ofNat 32 (timeUs s)⟩)) s.engines }

/-- R388: the log entry of a raise pushed onto Q5; a full Q5 drops it (R278). -/
def logEvent (s : State) (e : Nat) (data : BitVec 64) : State :=
  if qFull s 5 then
    let c := qCtl s 5
    setQ s 5 { c with dropped := (c.dropped + 1) % 4294967296 }
  else
    qPut s 5 (qEntry s 5 0x0501 (bytesLE 1 e ++ bytesLE 1 (evConfig s e % 8) ++ bytesLE 2 0 ++ bytesLE 8 data.toNat ++
      bytesLE 8 s.now ++ bytesLE 4 s.scan.frameCount))

/-- Whether the stock firmware's function of engine number `n` runs (R370, R378). -/
def firmwareRuns (s : State) (n : Nat) : Bool := !(runsAs s n).isEmpty

/-- R508: the sources recorded in the Ledger beside those with FAULT set. -/
def eventRecorded (e : Nat) : Bool := [8, 11, 12, 96, 119, 125].contains e

/-- R508: the type 0x10 record of a raise, at most one for each source in a second, by the stock firmware. -/
def eventRecord (s : State) (e : Nat) (data : BitVec 64) : State :=
  let due := match s.mram.ledger.lastEvent.lookup e with
    | some t => decide (t + 1000000000 ≤ s.now)
    | none => true
  if !((bitAt (evConfig s e) 13 || eventRecorded e) && due) then s
  else if firmwareRuns s 3 then
    let s1 := ledgerAppend s (bytesLE 1 0x10 ++ bytesLE 1 e ++ bytesLE 2 0 ++ bytesLE 8 data.toNat ++ bytesLE 4 (opsec s)) 0
    let l := s1.mram.ledger
    { s1 with mram := { s1.mram with ledger := { l with lastEvent := (e, s1.now) :: l.lastEvent.filter (fun p => p.1 != e) } } }
  else if s.takeover.any (fun p => (engOf s p.1).runsAs == 3) && !s.events.unrecorded.any (fun p => p.1 == e) then
    { s with events := { s.events with unrecorded := s.events.unrecorded ++ [(e, data)] } }
  else s

/-- R508: the raises that found W3 failed are recorded once WJ runs as W3. -/
def recordLate (s : State) : State :=
  if firmwareRuns s 3 then
    s.events.unrecorded.foldl (fun st p => eventRecord st p.1 p.2) { s with events := { s.events with unrecorded := [] } }
  else s

/-- R384: a raise that is not masked: latched, routed, logged and notified. -/
def deliver (e : Nat) (data : BitVec 64) (log : Bool) (s : State) : State :=
  let s1 := { s with events := { s.events with status := bvPut s.events.status e true } }
  let s2 := pendEngines s1 e data
  let s3 := if log && bitAt (evConfig s2 e) 15 then logEvent s2 e data else s2
  let s4 := eventRecord s3 e data
  (List.range 8).foldl (fun st n => notifySession e data st (n + 1)) s4

/-- R389: LIMIT of a source; the sources that are never masked read 15. -/
def eventLimit (s : State) (e : Nat) : Nat := if eventUnlimited e then 15 else bits (evConfig s e) 11 8

/-- R384, R389: one raise of a source, with the storm limiter; `log` is false only for E100 of a full Q5. -/
def raiseWith (log : Bool) (e : Nat) (data : BitVec 64) (s : State) : State :=
  let s0 := s.bump (Reg.evtCount e)
  let n := mapGet (fun _ => 0) s0.events.stormCount e + 1
  let s1 := { s0 with events := { s0.events with stormCount := mapPut (fun _ => 0) e n s0.events.stormCount } }
  let lim := eventLimit s1 e
  if s1.events.stormMask.getLsbD e then s1.bump Reg.evtStormDropped
  else if lim < 15 ∧ 2 ^ lim < n then
    let s2 := { s1 with events := { s1.events with stormMask := bvPut s1.events.stormMask e true } }
    let s3 := (s2.bump Reg.evtStormDropped).bump (Reg.evtCount 124)
    deliver 124 (BitVec.ofNat 64 (e + 256 * n)) true s3
  else deliver e data log s1

/-- R278: the one E100 of Q5 in a frame, after a drop of a log entry; it is not itself logged. -/
def logOverflow (s : State) : State :=
  let c := qCtl s 5
  if c.overflowRaised then s else raiseWith false 100 5 (setQ s 5 { c with overflowRaised := true })

/-- A raise handled at once; a log entry that Q5 drops raises E100 as any dropped entry does. -/
def raiseNow (e : Nat) (data : BitVec 64) (s : State) : State :=
  let d := (qCtl s 5).dropped
  let s1 := raiseWith true e data s
  if (qCtl s1 5).dropped = d then s1 else logOverflow s1

/-- A raise with eight bytes of DATA, handled at once, or at the end of a command that handles its raises together. -/
def raiseData (e : Nat) (data : BitVec 64) (s : State) : State :=
  match s.events.gathering with
  | some l => { s with events := { s.events with gathering := some (l ++ [(e, data)]) } }
  | none => raiseNow e data s

/-- A raise put behind those of lower or equal event number. -/
def putSource (p : Nat × BitVec 64) : List (Nat × BitVec 64) → List (Nat × BitVec 64)
  | [] => [p]
  | q :: t => if p.1 < q.1 then p :: q :: t else q :: putSource p t

/-- R384: effects whose raises come at one time code: the device handles them in ascending event number. -/
def inOrder (f : State → State) (s : State) : State :=
  let t := f { s with events := { s.events with gathering := some [] } }
  ((t.events.gathering.getD []).foldl (fun l p => putSource p l) []).foldl (fun st p => raiseNow p.1 p.2 st)
    { t with events := { t.events with gathering := none } }

/-- A raise with DATA given as bytes b0, b1, … -/
def raise (e : Nat) (b : List Byte) (s : State) : State := raiseData e (BitVec.ofNat 64 (natLE (slice b 0 8))) s

/-- R278: the one E100 per queue and frame, after a drop. -/
def overflowEvent (s : State) (q : Nat) : State :=
  let c := qCtl s q
  if q = 5 then logOverflow s
  else if c.overflowRaised then s else raise 100 (bytesLE 1 q) (setQ s q { c with overflowRaised := true })

/-- R387: INT_N is low while a latched source has INT set, or while SPI has a frame waiting and `spi.int_enable` (R348). -/
def intLow (s : State) : Bool :=
  (List.range 128).any (fun e => s.events.status.getLsbD e && bitAt (evConfig s e) 14) ||
  (s.flag Reg.spiIntEnable && !(transOf s 2).tx.isEmpty)

/-- R387: FAULT_N is low while a latched source has FAULT set. -/
def faultLow (s : State) : Bool := (List.range 128).any (fun e => s.events.status.getLsbD e && bitAt (evConfig s e) 13)

/-! ### Tolls (R22, R391 to R393) -/

/-- Tokens left to a class in this period. -/
def tokensLeft (s : State) (c : Nat) : Nat := vget s.tolls.left 0 c

/-- A request of `n` tokens served. -/
def spend (s : State) (c n : Nat) : State :=
  { s with tolls := { s.tolls with left := vset s.tolls.left c (tokensLeft s c - n),
                                   used := vset s.tolls.used c (vget s.tolls.used 0 c + n) } }

/-- R22, R393, R487: a request that stalls; E118 at the first stall of the class in a frame, which for C3 and C4 raises VCORE. -/
def stallClass (s : State) (c : Nat) : State :=
  let n := vget s.tolls.stalls 0 c + 1
  let s1 := { s with tolls := { s.tolls with stalls := vset s.tolls.stalls c n } }
  if vget s1.tolls.raised false c then s1
  else
    let s2 := { s1 with tolls := { s1.tolls with raised := vset s1.tolls.raised c true },
                        power := if (c = 3 ∨ c = 4) ∧ s1.power.ride.isNone then { s1.power with vcoreMv := Nat.min 900 (s1.power.vcoreMv + 20) } else s1.power }
    raise 118 (bytesLE 1 c ++ bytesLE 3 n) (s2.bump (Reg.tollOverruns c))

/-- R22: `n` tokens drawn for a request that may span periods: the tokens served now, and the state after; the rest stalls the class. -/
def pay (s : State) (c n : Nat) : Nat × State :=
  let k := Nat.min n (tokensLeft s c)
  (k, if k < n then stallClass (spend s c k) c else spend s c k)

/-- R22: `n` tokens drawn for a request that is taken up now; those that this period does not hold are drawn in the next ones. -/
def owe (c n : Nat) (report : Option FillReport) (s : State) : State :=
  let (k, s1) := pay s c n
  if k < n then { s1 with tolls := { s1.tolls with owed := s1.tolls.owed ++ [⟨c, n - k, report⟩] } } else s1

/-- R278, R391: a push by a hardware producer of the last row, with a token of its class `k`: dropped and counted when the queue is full. -/
def postEntry (s : State) (q k kind : Nat) (body : List Byte) : State :=
  if qFull s q then
    let c := qCtl s q
    overflowEvent (setQ s q { c with dropped := (c.dropped + 1) % 4294967296 }) q
  else owe k 1 none (qPut s q (qEntry s q kind body))

/-- The first `n` of some needs that are not met take one token each. -/
def firstTurn : Nat → List Nat → List Nat
  | _, [] => []
  | n, x :: xs => if x = 0 ∨ n = 0 then x :: firstTurn n xs else (x - 1) :: firstTurn (n - 1) xs

/-- R23: `n` tokens dealt in turn to requesters with the given needs: what each still needs. Each pass gives every open one the same share. -/
def inTurn : Nat → Nat → List Nat → List Nat
  | 0, _, l => l
  | fuel + 1, n, l =>
    let waiting := l.countP (fun x => decide (0 < x))
    if n = 0 ∨ waiting = 0 then l
    else
      let share := n / waiting
      if share = 0 then firstTurn n l
      else
        let m := l.map (· - share)
        inTurn fuel (n - (l.sum - m.sum)) m

/-- R22, R23: what earlier periods left one class to draw is drawn, its requests in turn; a request that reports its end stays until it has. -/
def payOwed (s : State) (c : Nat) : State :=
  let mine := s.tolls.owed.filter (fun o => o.class_ == c)
  if mine.isEmpty then s
  else
    let needs := mine.map (·.tokens)
    let rest := inTurn (2 * mine.length + 1) (tokensLeft s c) needs
    let s1 := spend s c (needs.sum - rest.sum)
    let keep := (mine.zip rest).filterMap (fun p => if p.2 = 0 ∧ p.1.report.isNone then none else some { p.1 with tokens := p.2 })
    let s2 := { s1 with tolls := { s1.tolls with owed := s1.tolls.owed.filter (fun o => o.class_ != c) ++ keep } }
    if 0 < rest.sum then stallClass s2 c else s2

/-- The tokens that a request has drawn from a class. -/
def drawnOf (s : State) (c : Nat) (r : TollRequest) : Nat :=
  ((s.tolls.part.find? (fun p => p.1 == c && p.2.1 == r)).map (·.2.2)).getD 0

/-- R22: a request of `n` tokens draws what it still lacks, as far as the period holds it. -/
def drawPart (s : State) (c : Nat) (r : TollRequest) (n : Nat) : State :=
  let had := drawnOf s c r
  let (k, s1) := pay s c (n - had)
  if had + k = 0 then s1
  else { s1 with tolls := { s1.tolls with part := s1.tolls.part.filter (fun p => !(p.1 == c && p.2.1 == r)) ++ [(c, r, had + k)] } }

/-- A request that has been served. -/
def closePart (s : State) (r : TollRequest) : State := { s with tolls := { s.tolls with part := s.tolls.part.filter (fun p => p.2.1 != r) } }

/-- R22: a request of `n` tokens of class `c`: whether it is served, and the state after; what it has drawn stays drawn until it is. -/
def charge (s : State) (c : Nat) (r : TollRequest) (n : Nat) : Bool × State :=
  let s1 := drawPart s c r n
  if n ≤ drawnOf s1 c r then (true, closePart s1 r) else (false, s1)

/-! ### ECC (R254, R255, R257) and tile checks (R285 to R288) -/

/-- R254, R255: what a read found in one word. A word already poisoned counts no further. -/
def eccFind (s : State) (x : EccFinding) : State :=
  let w := x.addr - x.addr % 8
  let row := w / 2048
  if x.fatal then
    if s.store.poison.contains w then s
    else
      let s1 := { s with store := { s.store with poison := (s.store.poison.filter (· < w)) ++ [w] ++ s.store.poison.filter (w < ·),
                                                 repairing := if s.store.repairing.contains row then s.store.repairing
                                                              else s.store.repairing ++ [row] } }
      raise 117 (bytesLE 4 w) (s1.bump Reg.storeEccUncorrectable)
  else
    let s1 := (s.bump Reg.storeEccCorrected)
    if s1.store.eccRaised then s1
    else raise 116 (bytesLE 4 w) { s1 with store := { s1.store with eccRaised := true } }

/-- The findings of a read, in order. -/
def eccFindAll (s : State) (l : List EccFinding) : State := l.foldl eccFind s

/-- What tells the tiles of one index apart: the handle of a channel, a small number for a fixed region. -/
def TileRef.place : TileRef → Nat
  | .composed _ _ => 0
  | .drive _ _ => 1
  | .glaze _ => 2
  | .mirror _ => 3
  | r => r.handle

/-- R285: E114 of a tile of a place, at most once for each tile and unit in a frame; the failure is counted every time. -/
def failTile (s : State) (unit place index handle : Nat) : State :=
  let s1 := s.bump Reg.integTileFail
  let k := (unit, place, index)
  if s1.pipe.failRaised.contains k then s1
  else raise 114 (bytesLE 1 unit ++ bytesLE 2 index ++ bytesLE 1 0 ++ bytesLE 4 handle)
    { s1 with pipe := { s1.pipe with failRaised := s1.pipe.failRaised ++ [k] } }

/-- R285: a tile of the pixel store that fails its check. -/
def tileFail (s : State) (unit : Nat) (r : TileRef) : State := failTile s unit r.place r.index r.handle

/-- R288: the check words of a damaged side-record word computed anew from the data. -/
def regenerate (s : State) (unit : Nat) (r : TileRef) : State :=
  let c0 := crc32c (tileData s r)
  let c1 := match r.other with
    | some o => crc32c (tileData s o)
    | none => 0
  let w := if r.slot = 1 then c1 + 2 ^ 32 * c0 else c0 + 2 ^ 32 * c1
  let s1 := storeBytes s r.side (bytesLE 8 w)
  raise 115 (bytesLE 1 unit ++ bytesLE 2 r.index ++ bytesLE 1 0 ++ bytesLE 4 r.handle) (s1.bump Reg.integCheckRegen)

/-- Whether a tile as it stands verifies: no poisoned word, and its check word is the CRC-32C of its data (R287). -/
def tileSound (s : State) (r : TileRef) : Bool :=
  !poisoned s r.base r.size && !poisoned s (r.side + 4 * r.slot) 4 && decide (tileCheck s r = crc32c (tileData s r))

/-- R391: the Toll class of a unit code's reads. -/
def unitClass (unit : Nat) : Nat :=
  match unit with
  | 0 => 0 | 1 => 1 | 2 => 3 | 3 => 4 | 5 => 0 | 9 => 5 | _ => 7

/-- R285, R391: the tokens of a second read of a tile. -/
def rereadTile (c : Nat) (r : TileRef) (s : State) : State := owe c (ceilDiv r.size 64) none s

/-- R285 to R288: a unit reads a tile in a Toll class and verifies it. Answers whether the unit may use the tile. `again` holds the tiles whose first
read fails where the second does not. -/
def verifyAs (s : State) (unit c : Nat) (r : TileRef) (again : List Nat) : Bool × State :=
  if poisoned s r.base r.size then (false, tileFail (rereadTile c r s) unit r)
  else if poisoned s (r.side + 4 * r.slot) 4 then (true, regenerate s unit r)
  else if tileCheck s r = crc32c (tileData s r) then (true, if again.contains r.base then (rereadTile c r s).bump Reg.integRereadOk else s)
  else (false, tileFail (rereadTile c r s) unit r)

/-- R285 to R288: a unit reads a tile in its own Toll class and verifies it. -/
def verifyTile (s : State) (unit : Nat) (r : TileRef) (again : List Nat) : Bool × State := verifyAs s unit (unitClass unit) r again

/-- R285, R288, R391: a slot that may stand in for one that has failed: read in its class, and verified as any other. -/
def acceptTile (s : State) (unit : Nat) (r : TileRef) (again : List Nat) : Bool × State :=
  verifyTile (owe (unitClass unit) (ceilDiv r.size 64) none s) unit r again

/-! ### Assayers (R289 to R292) -/

/-- R290: an Assayer absorbs bytes while RUN is 1. -/
def assayAbsorb (s : State) (a : Nat) (b : List Byte) : State :=
  let cfg := s.reg (Reg.assayConfig a)
  if bitAt cfg 1 then
    let alg := crcAlg (bits cfg 3 2)
    let s1 := s.setReg (Reg.assayValue a) (crcRun alg (s.reg (Reg.assayValue a) % 2 ^ alg.width) b)
    s1.setReg (Reg.assayCount a) ((s1.reg (Reg.assayCount a) + b.length) % 4294967296)
  else s

/-- R289: the bytes of a snoop point, absorbed by every Assayer that watches it and whose filter admits the channel. -/
def snoop (s : State) (point handle : Nat) (b : List Byte) : State :=
  (List.range 8).foldl (fun st a =>
    let flt := st.reg (Reg.assayFilter a)
    if bits (st.reg (Reg.assayConfig a)) 15 8 = point ∧ (flt = 0 ∨ flt = handle) then assayAbsorb st a b else st) s

/-- R292: `assay.result`. -/
def assayResult (s : State) (a : Nat) : Nat :=
  let alg := crcAlg (bits (s.reg (Reg.assayConfig a)) 3 2)
  crcFinal alg (s.reg (Reg.assayValue a) % 2 ^ alg.width) (s.reg (Reg.assayXorout a))

/-- The binning word of an unlisted pixel: GAIN 1.0, VFB 4 (DESIGN CHOICE, log 31: the factory data are not in the specification). -/
def binDefault : Nat := 0x80001000

/-! ### Derived times and masks -/

/-- A scan period in µs with the follower trim in force, in ns (R88). -/
def trimmedNs (s : State) (us : Nat) : Nat := (((us * 1000 : Nat) : Int) * (1000000 + s.scan.sync.trimPpm) / 1000000).toNat

/-- The scan period in use in ns, follower trim included (R88, R98). -/
def scanNs (s : State) : Nat := trimmedNs s s.scan.periodUs

/-- T_FRAME of the present frame in ns (R69). -/
def frameNs (s : State) : Nat := s.scan.scansThisFrame * scanNs s

/-- The next frame boundary t1: the scans of the frame that remain, each with the period in use (R63, R88). -/
def nextBoundary (s : State) : Nat :=
  if s.scan.scanInFrame = 0 then s.scan.frameStart + frameNs s
  else s.scan.scanStart + (s.scan.scansThisFrame + 1 - s.scan.scanInFrame) * scanNs s

/-- R120: tiles dirty as internal work: for the frame being prepared until its admission point, then for the one after. -/
def markInternal (s : State) (x : TileSet) : State :=
  if s.scan.admissionPassed then { s with pipe := { s.pipe with nextInternal := s.pipe.nextInternal ||| x } }
  else { s with pipe := { s.pipe with driveDirty := s.pipe.driveDirty ||| x } }

/-- R42: the stock firmware is to recompute both Lantern frames. -/
def dueLantern (s : State) : State := { s with mram := { s.mram with lanternDue := Vector.replicate 2 true } }

/-- R458: the Lantern frames are recomputed for aging changes at most once per hour of LIT. -/
def dueForAging (s : State) : State :=
  let due := match s.mram.lanternAged with
    | some t => decide (t + 3600000000000 ≤ litTime s)
    | none => true
  if due then dueLantern { s with mram := { s.mram with lanternAged := some (litTime s) } } else s

/-- State of a power domain: 0 OFF, 1 RAMP, 2 ON, 3 DRAIN (codes of R472). -/
def domainOf (s : State) (d : Nat) : Domain := vget s.power.domains ⟨0, false, false⟩ d

/-- Whether a domain is ON. -/
def domainOn (s : State) (d : Nat) : Bool := decide ((domainOf s d).state = 2)

/-- The state with a domain replaced. -/
def setDomain (s : State) (d : Nat) (x : Domain) : State :=
  { s with power := { s.power with domains := vset s.power.domains d x } }

/-- A qualified input. -/
def inputOf (s : State) (n : Nat) : Input := vget s.power.inputs ⟨false, false, [], none⟩ n

/-- The state with an input replaced. -/
def setInput (s : State) (n : Nat) (x : Input) : State := { s with power := { s.power with inputs := vset s.power.inputs n x } }

/-- The array domain of a field: ARN for fields 0 to 15, ARS for 16 to 31 (R36). -/
def fieldDomain (f : Nat) : Nat := if f < 16 then 5 else 6

/-- R28: whether a field may be lit. -/
def fieldPowered (s : State) (f : Nat) : Bool := domainOn s 4 && domainOn s 7 && domainOn s (fieldDomain f)

/-- R466: a change of the device state; the time in LIT counts towards OPSEC. -/
def setDevice (s : State) (d : Nat) : State :=
  if s.power.device = d then s
  else
    let s1 := if s.power.device = 4 then { s with mram := { s.mram with litNs := s.mram.litNs + (s.now - s.power.litSince) } } else s
    { s1 with power := { s1.power with device := d, litSince := if d = 4 then s1.now else s1.power.litSince } }

/-- The stock slot that was booted, if any (R366). -/
def bootedSlot (s : State) : Option Nat :=
  (List.range 9).findSome? (fun e =>
    let x := vget s.engines (State.engineReset 0) e
    if x.run = .running ∧ x.runsAs < 4 ∧ x.image < 2 then some x.image else none)

/-- R369: the ROLLBACK of the booted slot that the selector names becomes the least that is accepted. -/
def settleRollback (s : State) : State :=
  match bootedSlot s with
  | some n => if s.reg Reg.engBootSelect = n then s.setReg Reg.engRollbackMin (field (vget s.mram.images [] n) 8 4) else s
  | none => s

/-- R369, R466: the device reaches READY. -/
def enterReady (s : State) : State := settleRollback (setDevice s 3)

/-- The device's handle use refused as stale (R264): counted and raised. -/
def staleHandle (s : State) (h place : Nat) : State :=
  raise 68 (bytesLE 4 h ++ bytesLE 1 place) (s.bump Reg.chanStaleCount)

/-- R426: the SCAN (2) or FRAME (3) triggers that a boundary at instant `t` gives the enabled groups. -/
def armTriggers (kind t : Nat) (s : State) : State :=
  if !domainOn s 7 then s
  else
    [4, 5, 6, 7].foldl (fun st g =>
      if st.flag (Reg.adcgEnable g) && st.reg (Reg.adcgTrigger g) == kind then
        let x := vget st.adc.groups State.groupAdcReset g
        { st with adc := { st.adc with groups := vset st.adc.groups g { x with due := x.due ++ [t + st.reg (Reg.adcgDelayNs g)] } } }
      else st) s

/-- The image in an MRAM slot: 0 and 1 stock, 2 extension. -/
def imageOf (s : State) (slot : Nat) : List Byte := vget s.mram.images [] slot

/-! ### The aging map and the trim map (R441) -/

/-- A word of seven entries, with the CRC-8 of R281 row 3 over them in byte 7. -/
def sealWord (v : Nat) : Nat := v % 2 ^ 56 + crc8 (bytesLE 7 v) * 2 ^ 56

/-- An aging word whose seven entries are 0. -/
def agingWord : Nat := 106 * 2 ^ 56

/-- A trim word whose seven codes are 16. -/
def trimWord : Nat := 167 * 2 ^ 56 + 0x10101010101010

/-- One entry of a map put, with its word's CRC-8. -/
def mapEntry (d : Nat) (m : NatMap) (i v : Nat) : NatMap :=
  let w := mapGet (fun _ => d) m (i / 7)
  mapPut (fun _ => d) (i / 7) (sealWord (natLE (putBytes (bytesLE 7 w) (i % 7) [BitVec.ofNat 8 v]))) m

/-- The entries of the words listed, and none of those with the value `d`. -/
def mapEntries (d : Nat) (m : NatMap) : NatMap :=
  m.flatMap (fun e => ((List.range 7).map (fun j => (7 * e.1 + j, field (bytesLE 8 e.2) j 1))).filter (fun p => p.2 != d))

/-- The listed words whose CRC-8 fails. -/
def badWords (m : NatMap) : List Nat := (m.filter (fun e => e.2 != sealWord e.2)).map (·.1)

/-! ### The field records (R441) -/

/-- The 512 bytes of a copy of the field records. -/
def recordBytes (r : Vector FieldRecord 32) : List Byte :=
  r.toList.flatMap (fun x => bytesLE 1 x.vfbMed ++ bytesLE 1 x.chrMed ++ bytesLE 1 x.tccMed ++ bytesLE 1 x.refPick ++ bytesLE 4 x.dacGain ++
    bytesLE 2 x.dacOfs ++ bytesLE 6 0)

/-- The field records that 512 bytes hold. -/
def recordsOf (b : List Byte) : Vector FieldRecord 32 :=
  Vector.ofFn (fun f => let r := slice b (16 * f.val) 16; ⟨field r 0 1, field r 1 1, field r 2 1, field r 3 1, field r 4 4, field r 8 2⟩)

/-- A copy of the field records. -/
def recordCopy (s : State) (k : Nat) : Vector FieldRecord 32 := vget s.mram.records (Vector.replicate 32 State.fieldRecordReset) k

/-- Whether a copy of the field records passes its CRC-32C. -/
def recordSound (s : State) (k : Nat) : Bool := vget s.mram.recordCheck 0 k == crc32c (recordBytes (recordCopy s k))

/-- R445: the field records in use: a sound copy, or the values of loss. -/
def fieldRecords (s : State) : Vector FieldRecord 32 :=
  if s.cal.recordLost then Vector.replicate 32 State.fieldRecordReset
  else if recordSound s 0 then recordCopy s 0 else if recordSound s 1 then recordCopy s 1 else Vector.replicate 32 State.fieldRecordReset

end Sys2Proof.Machine
end

