-- ==== Sys2Proof/Machine/Compose.lean ====
section
/-!
DEFINITION. Layer composition (chapter 06): the configuration of a slot, the formats, placement, scaling and blending of
R173 to R182, the Glaze span and the tiles that a change dirties (R193 to R197). All of it reads the state and writes nothing.
-/

namespace Sys2Proof.Machine

/-- The configuration of one layer slot. -/
structure LayerCfg where
  handle : Nat
  visible : Bool
  srcX : Nat
  srcY : Nat
  srcW : Nat
  srcH : Nat
  posU : Int
  posV : Int
  dstW : Nat
  dstH : Nat
  blend : Nat
  gain : Nat
  glaze : Bool
  priority : Nat
  palette : Nat
  deriving DecidableEq, Repr

/-- A slot's configuration from a reading of the dictionary; widths of 0 stand for the defaults of the entry tables. -/
def layerCfg (s : State) (get : Nat → Nat) (n : Nat) : LayerCfg :=
  let h := get (Reg.layerHandle n)
  let sx := get (Reg.layerSrcX n)
  let sy := get (Reg.layerSrcY n)
  let (w, ht) := match s.channel h with
    | some c => (c.width, c.height)
    | none => (0, 0)
  let sw := if get (Reg.layerSrcW n) = 0 then w - sx else get (Reg.layerSrcW n)
  let sh := if get (Reg.layerSrcH n) = 0 then ht - sy else get (Reg.layerSrcH n)
  { handle := h, visible := get (Reg.layerVisible n) != 0, srcX := sx, srcY := sy, srcW := sw, srcH := sh
    posU := toInt 16 (get (Reg.layerPosU n)), posV := toInt 16 (get (Reg.layerPosV n))
    dstW := if get (Reg.layerDstW n) = 0 then sw else get (Reg.layerDstW n)
    dstH := if get (Reg.layerDstH n) = 0 then sh else get (Reg.layerDstH n)
    blend := get (Reg.layerBlend n), gain := get (Reg.layerGain n), glaze := get (Reg.layerGlaze n) != 0
    priority := get (Reg.layerPriority n), palette := get (Reg.layerPalette n) }

/-- The key belongs to the block of slot `n`. -/
def inBlock (n key : Nat) : Bool := key / 256 = 0x2410 + n

/-- A value of a list of changes over a base reading. -/
def overlay (l : NatMap) (base : Nat → Nat) (key : Nat) : Nat :=
  match l.lookup key with
  | some v => v
  | none => base key

/-- The values with which the frame being prepared is computed: the pending commit over the applied values, and for a layer
block the admitted update (R119, R190). The orientation is the applied one (R40). -/
def frameCfg (s : State) (key : Nat) : Nat :=
  if key = Reg.compOrientation then s.reg key
  else if 0x2410 ≤ key / 256 && key / 256 < 0x2418 then
    match vget s.commits.updates none (key / 256 - 0x2410) with
    | some u => overlay u.values s.reg key
    | none => s.reg key
  else match s.commits.pending with
    | some c => overlay c.values s.reg key
    | none => s.reg key

/-- R175: the slot at a stack position, if any. -/
def slotAt (get : Nat → Nat) (k : Nat) : Option Nat :=
  let b := bits (get Reg.compOrder) (8 * k + 7) (8 * k)
  if b < 8 then some b else none

/-- The stack from the bottom: the named slots in order. -/
def stack (get : Nat → Nat) : List Nat := (List.range 8).filterMap (slotAt get)

/-- R173: whether a slot takes part: visible and bound to a SURFACE. -/
def drawable (s : State) (c : LayerCfg) : Bool := c.visible && (match s.channel c.handle with | some x => x.type == 1 | none => false)

/-- R192: whether the frame being prepared draws a slot as if not visible: it is CLEARED, and no admitted update brings its new content. -/
def hidden (s : State) (n : Nat) : Bool := vget s.pipe.cleared false n && (vget s.commits.updates none n).isNone

/-- The state in which an update of slot `n` is judged: with it the slot is drawn again. -/
def unhide (s : State) (n : Nat) : State := { s with pipe := { s.pipe with cleared := vset s.pipe.cleared n false } }

/-- The drawn slots from the bottom with their configurations; a CLEARED layer is drawn as if not visible (R192). -/
def drawn (s : State) (get : Nat → Nat) : List (Nat × LayerCfg) :=
  (stack get).filterMap (fun n =>
    let c := layerCfg s get n
    if drawable s c && !hidden s n then some (n, c) else none)

/-- R193: the length of the Glaze span: the run of stack positions from 0 whose slots are drawn and glazed. -/
def glazeRun (s : State) (get : Nat → Nat) : List Nat → Nat
  | [] => 0
  | k :: ks =>
    match slotAt get k with
    | some n =>
      let c := layerCfg s get n
      if drawable s c && !hidden s n && c.glaze then 1 + glazeRun s get ks else 0
    | none => 0

/-- R193. -/
def glazeSpan (s : State) (get : Nat → Nat) : Nat :=
  if get Reg.compGlazeEnable = 0 then 0 else glazeRun s get (List.range 8)

/-- Whether a layer is scaled (R177). -/
def LayerCfg.scaled (c : LayerCfg) : Bool := !(c.dstW == c.srcW && c.dstH == c.srcH)

/-- R182: columns of the footprint within u 0 to 2,047. -/
def visibleCols (c : LayerCfg) : Nat :=
  let lo := clampI 0 2048 c.posU
  let hi := clampI 0 2048 (c.posU + c.dstW)
  (hi - lo).toNat

/-- R182: the source span per output line. -/
def sourceSpan (c : LayerCfg) : Nat := ceilDiv (visibleCols c * c.srcW) c.dstW + 1

/-! ### Samples (R176 to R178) -/

/-- Which slot of a source tile is read: a list of (slot number of the layer, tile) with the store slot chosen. -/
abbrev SlotChoice := List ((Nat × Nat) × Nat)

/-- Luminance and alpha of one sample, expanded by R176 from the bytes of its tile. -/
def expandSample (fmt palette : Nat) (tile : List Byte) (i : Nat) : Nat × Nat :=
  match fmt with
  | 0 => (field tile i 1 * 257, 65536)
  | 1 => let v := field tile (2 * i) 2 % 4096; (v * 16 + v / 256, 65536)
  | 2 => (field tile (2 * i) 2, 65536)
  | 3 => let a := field tile (2 * i + 1) 1; (field tile (2 * i) 1 * 257, a * 257 + a / 128)
  | 4 => (if (field tile (i / 8) 1).testBit (i % 8) then 65535 else 0, 65536)
  | _ =>
    let b := field tile (i / 2) 1
    let e := bits palette (32 * (if i % 2 = 0 then b % 16 else b / 16) + 31) (32 * (if i % 2 = 0 then b % 16 else b / 16))
    (e % 65536, e / 65536 + e / 65536 / 32768)

/-- The sample (x, y) of a layer's surface, read from the chosen slots. -/
def sampleAt (s : State) (ch : Channel) (n : Nat) (cfg : LayerCfg) (choice : SlotChoice) (x y : Nat) : Nat × Nat :=
  let i := (y / 16) * (ch.width / 16) + x / 16
  let k := (choice.lookup (n, i)).getD 0
  expandSample ch.format cfg.palette (tileData s (.surface ch i k)) ((y % 16) * 16 + x % 16)

/-- R178: the source position of an output column, as integer part and fraction in 1/256, clamped to the window. -/
def scalePos (src srcLen dstLen i : Nat) : Nat × Nat :=
  let p : Rat := (src : Rat) + ((i : Rat) + 1 / 2) * srcLen / dstLen - 1 / 2
  let q := clampQ src (src + srcLen - 1 : Nat) p
  let w := (roundQ (q * 256)).toNat
  let last := src + srcLen - 1
  if w / 256 < last then (w / 256, w % 256) else (last, 0)

/-- The source samples that an output pixel of a layer reads, with weights in 1/65,536. -/
def sourceTaps (c : LayerCfg) (i j : Nat) : List (Nat × Nat × Nat) :=
  if c.scaled then
    let (x, fx) := scalePos c.srcX c.srcW c.dstW i
    let (y, fy) := scalePos c.srcY c.srcH c.dstH j
    ([(x, y, (256 - fx) * (256 - fy)), (x + 1, y, fx * (256 - fy)), (x, y + 1, (256 - fx) * fy), (x + 1, y + 1, fx * fy)]).filter
      (fun t => t.2.2 != 0)
  else [(c.srcX + i, c.srcY + j, 65536)]

/-- Whether a beam pixel lies in a footprint, and its column and row there. -/
def footprintPos (c : LayerCfg) (u v : Nat) : Option (Nat × Nat) :=
  let i := (u : Int) - c.posU
  let j := (v : Int) - c.posV
  if 0 ≤ i ∧ i < c.dstW ∧ 0 ≤ j ∧ j < c.dstH then some (i.toNat, j.toNat) else none

/-- Division to the nearest integer, ties away from zero. -/
def roundDiv (n d : Nat) : Nat := (2 * n + d) / (2 * d)

/-- R179, R180: one blend of a layer value onto the running value. -/
def blend (op gain y alpha d : Nat) : Nat :=
  let v := Nat.min 65535 (roundDiv (y * gain) 32768)
  let m := v + v / 32768
  let r := match op with
    | 0 => v
    | 1 => roundDiv (alpha * v + (65536 - alpha) * d) 65536
    | 2 => roundDiv (d * (65536 * (65536 - alpha) + alpha * m)) (65536 * 65536)
    | 3 => roundDiv ((65536 - alpha) * d + alpha * Nat.min d v) 65536
    | 4 => roundDiv ((65536 - alpha) * d + alpha * Nat.max d v) 65536
    | _ => roundDiv (65536 * d + alpha * v) 65536
  Nat.min 65535 r

/-- One layer at one beam pixel. -/
def blendLayer (s : State) (choice : SlotChoice) (u v : Nat) (d : Nat) (l : Nat × LayerCfg) : Nat :=
  match footprintPos l.2 u v, s.channel l.2.handle with
  | some (i, j), some ch =>
    let taps := sourceTaps l.2 i j
    let ya := taps.foldl (fun (a : Nat × Nat) t =>
      let q := sampleAt s ch l.1 l.2 choice t.1 t.2.1
      (a.1 + q.1 * t.2.2, a.2 + q.2 * t.2.2)) (0, 0)
    blend l.2.blend l.2.gain (roundDiv ya.1 65536) (roundDiv ya.2 65536) d
  | _, _ => d

/-- Physical coordinates of pixel `i` of tile `t`. -/
def tilePixel (t i : Nat) : Nat × Nat := ((t % 128) * 16 + i % 16, (t / 128) * 16 + i / 16)

/-- The 256 values of a tile after some layers are blended onto a start value for each pixel. -/
def composeLayers (s : State) (o : Nat) (choice : SlotChoice) (ls : List (Nat × LayerCfg)) (t : Nat) (start : Nat → Nat) : List Nat :=
  (List.range 256).map (fun i =>
    let (x, y) := tilePixel t i
    let (u, v) := orient o x y
    ls.foldl (blendLayer s choice u v) (start i))

/-- The source tiles that some layers read for a physical tile: (slot, channel, tile). -/
def sourceTiles (s : State) (o : Nat) (ls : List (Nat × LayerCfg)) (t : Nat) : List (Nat × Channel × Nat) :=
  ls.flatMap (fun l =>
    match s.channel l.2.handle with
    | none => []
    | some ch =>
      (((List.range 256).flatMap (fun i =>
        let (x, y) := tilePixel t i
        let (u, v) := orient o x y
        match footprintPos l.2 u v with
        | none => []
        | some (a, b) => (sourceTaps l.2 a b).map (fun p => (p.2.1 / 16) * (ch.width / 16) + p.1 / 16))).eraseDups).map
        (fun i => (l.1, ch, i)))

/-- Bytes of 256 16-bit values (the composed frame, drive words). -/
def halfBytes (l : List Nat) : List Byte := l.flatMap (bytesLE 2)

/-- The 16-bit values of a tile's bytes. -/
def halves (l : List Byte) : List Nat := (List.range 256).map (fun i => field l (2 * i) 2)

/-! ### Dirty tiles (R196, R197) -/

/-- R196: the physical tiles that a beam rectangle [u0, u1) × [v0, v1) meets. -/
def rectTiles (o : Nat) (u0 u1 v0 v1 : Int) : TileSet :=
  let a := clampI 0 2048 u0
  let b := clampI 0 2048 u1
  let c := clampI 0 512 v0
  let d := clampI 0 512 v1
  if b ≤ a ∨ d ≤ c then 0 else
  let tx0 := (a / 16).toNat
  let tx1 := ((b - 1) / 16).toNat
  let ty0 := (c / 16).toNat
  let ty1 := ((d - 1) / 16).toNat
  tileSet ((span ty0 (ty1 + 1 - ty0)).flatMap (fun ty => (span tx0 (tx1 + 1 - tx0)).map (fun tx =>
    (if o / 2 = 1 then 31 - ty else ty) * 128 + (if o % 2 = 1 then 127 - tx else tx))))

/-- The tiles of a footprint. -/
def footprintTiles (o : Nat) (c : LayerCfg) : TileSet := rectTiles o c.posU (c.posU + c.dstW) c.posV (c.posV + c.dstH)

/-- The output columns of one axis that are drawn from source samples `a` to `b`: for a scaled layer every output that
interpolates one of them with a weight that is not 0, widened by one within the footprint (DEDUCED, log 21). -/
def outputSpan (src srcLen dstLen : Nat) (pos : Int) (scaled : Bool) (a b : Nat) : Int × Int :=
  let last := src + srcLen - 1
  if scaled then
    if b < src ∨ last < a then (pos, pos)
    else
      -- the output position at which the source position reaches `p`
      let out (p : Rat) : Rat := (p + 1 / 2 - src) * dstLen / srcLen - 1 / 2
      let first : Int := if a ≤ src then 0 else (out ((a : Rat) - 1 + 1 / 512)).ceil
      let past : Int := if last ≤ b then dstLen else (out ((b : Rat) + 1 - 1 / 512)).ceil
      (pos + clampI 0 dstLen (first - 1), pos + clampI 0 dstLen (past + 1))
  else
    let l := clampI 0 dstLen ((a : Int) - src)
    let h := clampI 0 dstLen ((b : Int) + 1 - src)
    (pos + l, pos + h)

/-- R197: the tiles that a flip of source tile `i` dirties. -/
def flipTiles (o : Nat) (ch : Channel) (c : LayerCfg) (i : Nat) : TileSet :=
  let tw := ch.width / 16
  let x0 := (i % tw) * 16
  let y0 := (i / tw) * 16
  let (u0, u1) := outputSpan c.srcX c.srcW c.dstW c.posU c.scaled x0 (x0 + 15)
  let (v0, v1) := outputSpan c.srcY c.srcH c.dstH c.posV c.scaled y0 (y0 + 15)
  rectTiles o u0 u1 v0 v1

/-- The tiles of a layer update's flips: loose tiles and the tiles of named sets, on the surface bound to a slot. -/
def updateFlips (s : State) (u : LayerUpdate) : List (Nat × Nat) :=
  u.loose ++ u.sets.flatMap (fun p =>
    (s.chans.sets.filter (fun x => x.slot == p.1 && x.set == p.2)).flatMap (fun x => x.tiles.map (fun i => (p.1, i))))

/-- R197: the tiles that the layer of slot `m`, as the frame being prepared draws it, draws from the flips of an update of another slot. -/
def drawnFlips (s : State) (u : LayerUpdate) (m : Nat) : TileSet :=
  match (drawn s (frameCfg s)).lookup m with
  | some c =>
    match s.channel c.handle with
    | some ch => (updateFlips s u).foldl (fun acc p => if p.1 = ch.slot then acc ||| flipTiles (s.reg Reg.compOrientation) ch c p.2 else acc) 0
    | none => 0
  | none => 0

/-- R197: the tiles a layer update dirties, its old configuration being the one the frame in preparation has and its new one the update's. -/
def updateTiles (s : State) (n : Nat) (u : LayerUpdate) : TileSet :=
  let o := s.reg Reg.compOrientation
  let old := layerCfg s (frameCfg s) n
  let new := layerCfg s (overlay u.values (frameCfg s)) n
  let inStack := (stack (frameCfg s)).contains n
  let wasDrawn := drawable s old && inStack && !hidden s n
  let isDrawn := drawable s new && inStack
  let geometry := old.posU != new.posU || old.posV != new.posV || old.dstW != new.dstW || old.dstH != new.dstH ||
    old.srcX != new.srcX || old.srcY != new.srcY || old.srcW != new.srcW || old.srcH != new.srcH ||
    old.handle != new.handle || wasDrawn != isDrawn
  let look := old.blend != new.blend || old.gain != new.gain || old.palette != new.palette
  let a := if geometry then (if wasDrawn then footprintTiles o old else 0) ||| (if isDrawn then footprintTiles o new else 0) else 0
  let b := if look && isDrawn then footprintTiles o new else 0
  let c := if isDrawn then
      (match s.channel new.handle with
       | some ch => (updateFlips s u).foldl (fun acc p => if p.1 = ch.slot then acc ||| flipTiles o ch new p.2 else acc) 0
       | none => 0)
    else 0
  a ||| b ||| c ||| ((List.range 8).filter (· != n)).foldl (fun acc m => acc ||| drawnFlips s u m) 0

/-- R195: whether a layer update changes the Glaze span so that all of it is rebuilt, and the tiles rebuilt otherwise. -/
def glazeEffect (s : State) (n : Nat) (u : LayerUpdate) : Bool × TileSet :=
  let get0 := frameCfg s
  let get1 := fun key => if inBlock n key then overlay u.values get0 key else get0 key
  let span0 := (stack get0).take (glazeSpan s get0)
  let span1 := (stack get1).take (glazeSpan (unhide s n) get1)
  let old := layerCfg s get0 n
  let new := layerCfg s get1 n
  let inSpan := span1.contains n
  let changed := old.posU != new.posU || old.posV != new.posV || old.dstW != new.dstW || old.dstH != new.dstH ||
    old.srcX != new.srcX || old.srcY != new.srcY || old.srcW != new.srcW || old.srcH != new.srcH ||
    old.blend != new.blend || old.gain != new.gain || old.palette != new.palette || old.handle != new.handle
  let full := !span1.isEmpty && (span0 != span1 || (inSpan && changed))
  (full, (if inSpan then updateTiles s n u else 0) ||| (span1.filter (· != n)).foldl (fun acc m => acc ||| drawnFlips s u m) 0)

end Sys2Proof.Machine
end

