-- ==== Sys2Proof/Machine/Timing.lean ====
section
/-!
DEFINITION. Scan timing (R55 to R59, R92 to R98): the slot and its duty, the bands that govern the Sweep and the scan
period, the plan of a timing change, and the timing with which the frame being prepared runs.
-/

namespace Sys2Proof.Machine

/-- Band of a field: 0 Frost, 1 Mild, 2 Warm, 3 Sultry, 4 Scorch. -/
def bandOf (s : State) (f : Nat) : Nat := vget s.therm.band 1 f

/-- R58: the fields being lit; every field while neither half is ON. -/
def litFields (s : State) : List Nat :=
  let l := (List.range 32).filter (fun f => domainOn s (fieldDomain f))
  if l.isEmpty then List.range 32 else l

/-- R58: the coldest band among the fields being lit governs the Sweep. -/
def coldestBand (s : State) : Nat := ((litFields s).map (bandOf s)).foldl Nat.min 4

/-- R98: the hottest band among the fields being lit. -/
def hottestBand (s : State) : Nat := ((litFields s).map (bandOf s)).foldl Nat.max 0

/-- R98: minimum scan period of a band in µs. -/
def bandPeriod : Nat → Nat
  | 3 => 160
  | 4 => 250
  | _ => 100

/-- R55: the duty D = W / T_PH for a scan period and a Sweep length in ns. -/
def duty (T sw : Rat) : Rat := (T / 16 - sw - 20) / (T / 16)

/-- R114: the duty D_T of a half slot. -/
def dutyTwin (T sw : Rat) : Rat := (T / 32 - sw - 20) / (T / 16)

/-- R57: the default sub-steps of a band. -/
def bandSteps : Nat → SweepSteps
  | 0 => ⟨400, 320, 160, 320⟩
  | 1 => ⟨200, 160, 80, 160⟩
  | 2 => ⟨170, 150, 70, 130⟩
  | 3 => ⟨150, 140, 60, 110⟩
  | _ => ⟨130, 130, 50, 90⟩

/-- The length of a Sweep of given sub-steps. -/
def SweepSteps.total (x : SweepSteps) : Nat := x.discharge + x.probe + x.select + x.settle

/-- R59: the sub-steps of a Sweep of `sw` ns under a band: in proportion to the table, each rounded to 1 ns, the remainder added to Settle. -/
def stepsFor (band sw : Nat) : SweepSteps :=
  let t := bandSteps band
  let part (x : Nat) : Nat := (roundQ ((x : Rat) * (sw : Rat) / (t.total : Rat))).toNat
  let rest : Int := (sw : Int) - ((part t.discharge + part t.probe + part t.select + part t.settle : Nat) : Int)
  ⟨part t.discharge, part t.probe, part t.select, ((part t.settle : Nat) + rest).toNat⟩

/-- R57: the bias of the Sweep in a band, VLED minus node in mV. -/
def bandBias : Nat → Nat
  | 0 => 2150
  | 1 => 2000
  | 2 => 1900
  | 3 => 1800
  | _ => 1700

/-- R58: the Sweep level of every field follows that field's own band. -/
def sweepLevels (s : State) : Vector Nat 32 := Vector.ofFn (fun f => bandBias (bandOf s f.val))

/-- The scan period and the Sweep length wanted under a configuration (R58, R98). -/
def wantedTiming (s : State) (get : Nat → Nat) : Nat × Nat :=
  (Nat.max (get Reg.scanPeriodUs) (bandPeriod (hottestBand s)), get (Reg.scanSweepNs (coldestBand s)))

/-- R96: a value on the straight line rounded to the nearer even number; midway, towards the old period. -/
def roundEvenTo (old : Nat) (v : Rat) : Nat :=
  let e := 2 * (v / 2).floor.toNat
  let d := v - e
  if d < 1 then e else if 1 < d then e + 2 else if old ≤ e then e else e + 2

/-- The periods of a change in `n` steps. -/
def stepPeriods (p0 p1 n : Nat) : List Nat :=
  (List.range n).map (fun i => if i + 1 = n then p1 else
    roundEvenTo p0 ((p0 : Rat) + ((p1 : Rat) - (p0 : Rat)) * ((i + 1 : Nat) : Rat) / (n : Rat)))

/-- Whether every step of k_C lies within the limit: `d` is the duty before the first step, `inUse` a period in µs with the trim in force. -/
def stepsWithin (inUse : Nat → Rat) (limit d sw : Rat) : List Nat → Bool
  | [] => true
  | p :: t =>
    let e := duty (inUse p) sw
    let x := d / e - 1
    decide (x ≤ limit) && decide (-limit ≤ x) && stepsWithin inUse limit e sw t

/-- R92, R96: the periods that a timing change runs through, the first at the next boundary. -/
def spreadPlan (inUse : Nat → Rat) (p0 s0 p1 s1 slewPct : Nat) : List Nat :=
  if p0 = p1 then [p1] else
  let limit : Rat := (slewPct : Rat) / 100
  let most := (if p0 < p1 then p1 - p0 else p0 - p1) / 2 + 1
  let try_ (d : Rat) : Option (List Nat) :=
    ((List.range most).map (fun i => stepPeriods p0 p1 (i + 1))).find? (stepsWithin inUse limit d (s1 : Rat))
  match try_ (duty (inUse p0) (s0 : Rat)) with
  | some l => l
  | none => (try_ (duty (inUse p0) (s1 : Rat))).getD [p1]

/-- R97, R119: scan period, Sweep length and remaining periods with which the frame being prepared runs. -/
def nextTiming (s : State) : Nat × Nat × List Nat :=
  let w := wantedTiming s (frameCfg s)
  let p0 := s.scan.periodUs
  let s0 := s.scan.sweepNs
  if w.1 = p0 ∧ w.2 = s0 then (p0, s0, [])
  else
    let plan := if w.2 = s0 ∧ s.scan.spread.getLast? = some w.1 then s.scan.spread
      else spreadPlan (fun p => (trimmedNs s p : Rat)) p0 s0 w.1 w.2 (s.reg Reg.lightSlewPct)
    match plan with
    | p :: t => (p, w.2, t)
    | [] => (w.1, w.2, [])

/-- R96: the scans of a frame: an intermediate frame runs no faster than 240 Hz. -/
def frameScans (get : Nat → Nat) (period : Nat) (rest : List Nat) : Nat :=
  let n := get Reg.scanScansPerFrame
  if rest.isEmpty then n else Nat.max n (ceilDiv 41667 (10 * period))

/-- The sinks of the twins (R163). -/
def twinSinks (s : State) : List Nat := s.lamp.twins.flatMap (fun t => [t.sink, t.partner])

/-- The tile of a sink. -/
def sinkTile (k : Nat) : Nat := tileOf ((k % 512) * 4) ((k / 512) * 4)

/-- R119, R121: the tiles that hold a twinned cluster. -/
def twinTiles (s : State) : TileSet := tileSet ((twinSinks s).map sinkTile)

/-- R119, R121: whenever the timing with which the frame being prepared runs has changed, by whatever cause, the twinned tiles join that frame; each
step of a spread change is such a change. -/
def retime (s : State) : State :=
  let n := nextTiming s
  if n.1 = s.pipe.timed.1 ∧ n.2.1 = s.pipe.timed.2 then s
  else { s with pipe := { s.pipe with driveDirty := s.pipe.driveDirty ||| twinTiles s, timed := (n.1, n.2.1) } }

/-- R125, R450: the DAC code of a reference. -/
def dacCode (x : Rat) : Nat := (clampI 0 1023 (roundQ ((x - 20) * 1023 / 140))).toNat

/-- R470, R61, R67: the scan sequencer starts with the RC entries in force: its timing, its tables, the references, the budgets of the first
Toll period. Its start is no frame boundary that R72 counts: it raises no E32 (DESIGN CHOICE, log 182). -/
def startSequencer (s : State) : State :=
  let w := wantedTiming s s.reg
  let ipk : Vector Rat 32 := Vector.ofFn (fun f => s.real (Reg.driveIpkUa f.val))
  { s with
    scan := { State.scanReset with
      running := true, scanStart := s.now, frameStart := s.now, scansThisFrame := s.reg Reg.scanScansPerFrame
      periodUs := w.1, sweepNs := w.2, sweepBand := coldestBand s, sweepSteps := stepsFor (coldestBand s) w.2, sweepLevel := sweepLevels s
      groups := Vector.ofFn (fun g => { State.groupReset g.val with
        order := s.reg Reg.scanPhaseOrder
        stagger := bits (s.reg Reg.scanStagger) (8 * g.val + 7) (8 * g.val) })
      sync := { State.scanReset.sync with state := s.reg Reg.frameSyncMode, acquiring := s.now, lastEdge := s.now }
      windowUs := s.reg Reg.commitWindowUs, teDelayUs := s.reg Reg.frameTeDelayUs }
    refs := { State.refsReset with ipk := ipk, iref := ipk, code := Vector.ofFn (fun f => dacCode (vget ipk 120 f.val / vget s.refs.gainWant 1 f.val)),
                                   gain := s.refs.gainWant, gainWant := s.refs.gainWant }
    therm := { s.therm with derating := 0 }
    cal := { s.cal with passStart := Vector.replicate 32 s.now, sinkLast := Vector.replicate 32 s.now, frefLast := s.now }
    tolls := { s.tolls with left := Vector.ofFn (fun c => s.reg (Reg.tollBudget c.val)), used := Vector.replicate 8 0,
                            stalls := Vector.replicate 8 0, slack := [] } }

/-- R403, R468: the sequencer starts once DRV and ANA are ON and every field has a band. -/
def startWhenReady (s : State) : State :=
  if !s.scan.running && decide (2 ≤ s.power.device) && decide (s.power.device ≤ 4) && domainOn s 4 && domainOn s 7 &&
      s.therm.banded == BitVec.allOnes 32 then startSequencer s
  else s

end Sys2Proof.Machine
end

