-- ==== Sys2Proof/Machine/Commit.lean ====
section
/-!
DEFINITION. Commits (R76 to R83, R174, R183 to R192): the snapshot of the staged writes, its validation with the reason
codes, its targeting, the layer updates with their admission, and the dirtiness it brings.
-/

namespace Sys2Proof.Machine

/-- The row of a key: an entry of the tables, or of a running extension module (R349, R372). -/
def rowOf (s : State) (key : Nat) : Option Row :=
  match dictRow key with
  | some r => some r
  | none => (s.modules.findSome? (fun m => rowIn m.rows key))

/-- The default of a key, a module's entries included. -/
def defaultOf (s : State) (key : Nat) : Nat :=
  match rowOf s key with
  | some r => r.defaultAt key
  | none => 0

/-! ### Validation -/

/-- Values of a DOMAIN as `n` numbers of `w` bits. -/
def parts (w n v : Nat) : List Nat := (List.range n).map (fun i => bits v (w * i + w - 1) (w * i))

/-- Strictly increasing. -/
def rising : List Nat → Bool
  | a :: b :: t => decide (a < b) && rising (b :: t)
  | _ => true

/-- R106, R108, R113, R118, R147, R172, R392, R175: the rules on one entry's value beyond its type and range. -/
def valueRule (key v : Nat) : Bool :=
  if key = Reg.driveTempco then (parts 16 16 v).all (fun c => decide ((toInt 16 c).natAbs ≤ 2912))
  else if key = Reg.driveChromaWeight then (parts 16 8 v).all (fun c => decide (28836 ≤ c) && decide (c ≤ 36700))
  else if Reg.driveCompKernel 0 ≤ key ∧ key < Reg.driveCompKernel 4 then decide ((parts 8 4 v).sum ≤ 256)
  else if Reg.driveClassLadder 0 ≤ key ∧ key < Reg.driveClassLadder 5 then rising (parts 16 16 v) && bits v 255 240 == 0x8000
  else if Reg.diagConfirm 0 ≤ key ∧ key < Reg.diagConfirm 9 then decide (1 ≤ v / 16) && decide (1 ≤ v % 16) && decide (v / 16 ≤ v % 16)
  else if key = Reg.diagProbeThr then
    match parts 16 4 v with
    | [o, sh, lo, hi] => rising [sh, lo, hi, o]
    | _ => false
  else if key = Reg.diagSubthThr then decide (v % 65536 < 4096) && decide (4096 < v / 65536)
  else if Reg.diagVfWindow 0 ≤ key ∧ key < Reg.diagVfWindow 5 then
    (parts 16 16 v).all (fun c => c / 256 == 0 || (decide (5 ≤ c / 256) && decide (c / 256 ≤ 100)))
  else if Reg.tollBudget 0 ≤ key ∧ key < Reg.tollBudget 8 then decide (tollBudgetLeast.getD (key - Reg.tollBudget 0) 0 ≤ v)
  else if key = Reg.compOrder then (parts 8 8 v).all (fun b => decide (b < 8) || b == 0xFF)
  else true

/-- R305, R77: whether a staged value lies in its range and is a defined encoding. -/
def stagedOk (s : State) (p : Nat × Nat) : Bool :=
  match rowOf s p.1 with
  | some r => r.inRange p.1 p.2 && valueRule p.1 p.2
  | none => false

/-- R20: tokens the device serves in a period of `T` µs, for the share `k` per cent of it. -/
def nCap (T k : Nat) : Nat := 150000 * T * k / 6400

/-- R297: the rectangles of a configuration. -/
def rectsOk (get : Nat → Nat) : Bool :=
  let on := (List.range 16).filter (fun r => get (Reg.rectMode r) != 0)
  on.all (fun r => decide (get (Reg.rectTileX r) + get (Reg.rectTilesW r) ≤ 128) &&
    decide (get (Reg.rectTileY r) + get (Reg.rectTilesH r) ≤ 32)) &&
  decide (((on.filter (fun r => decide (2 ≤ get (Reg.rectMode r)))).map
    (fun r => get (Reg.rectTilesW r) * get (Reg.rectTilesH r))).sum ≤ 1024)

/-- The slots in stack order, then those `comp.order` does not name, ascending (R174). -/
def slotOrder (get : Nat → Nat) : List Nat :=
  let st := (stack get).eraseDups
  st ++ (List.range 8).filter (fun n => !st.contains n)

/-- A visible slot bound to a live SURFACE. -/
def boundVisible (s : State) (get : Nat → Nat) (n : Nat) : Bool := drawable s (layerCfg s get n)

/-- R181: the visible scaled layers in stack order. -/
def scaledSlots (s : State) (get : Nat → Nat) : List Nat :=
  (slotOrder get).filter (fun n => boundVisible s get n && (layerCfg s get n).scaled)

/-- R184: an open set of a surface. -/
def openSet (s : State) (slot set : Nat) : Option NamedSet := s.chans.sets.find? (fun x => x.slot == slot && x.set == set)

/-- R174, R264: a staged HANDLE entry that is stale: it breaks no condition of the table and has its own code (DEDUCED, log 173). -/
def staleStaged (s : State) (snap : NatMap) (key : Nat) : Bool := match snap.lookup key with
  | some h => h != 0 && (s.channel h).isNone
  | none => false

/-- R174: the composition breaches: code and the slot reported, 0xFF where none is. `flips` are the slots' staged flip_set values. -/
def compositionBreach (s : State) (snap : NatMap) (get : Nat → Nat) (flips : List (Nat × Nat)) : Option (Nat × Nat) :=
  let order := slotOrder get
  let cfg := layerCfg s get
  let vis := order.filter (boundVisible s get)
  let scaledL := scaledSlots s get
  let first (code : Nat) (p : Nat → Bool) : Option (Nat × Nat) := (vis.find? p).map (fun n => (code, n))
  let r10 := if 4 < scaledL.length then some (0x10, scaledL.getD 4 0) else none
  let r11 := first 0x11 (fun n => (cfg n).scaled && decide (1024 < sourceSpan (cfg n)))
  let r12 := first 0x12 (fun n => !(decide ((cfg n).srcW ≤ 4 * (cfg n).dstW) && decide ((cfg n).dstW ≤ 16 * (cfg n).srcW) &&
    decide ((cfg n).srcH ≤ 4 * (cfg n).dstH) && decide ((cfg n).dstH ≤ 16 * (cfg n).srcH)))
  let r13 := first 0x13 (fun n => match s.channel (cfg n).handle with
    | some c => !(decide ((cfg n).srcX + (cfg n).srcW ≤ c.width) && decide ((cfg n).srcY + (cfg n).srcH ≤ c.height) &&
        decide (0 < (cfg n).srcW) && decide (0 < (cfg n).srcH))
    | none => false)
  let r14 := (order.find? (fun n => get (Reg.layerVisible n) != 0 && !boundVisible s get n && !staleStaged s snap (Reg.layerHandle n))).map (fun n => (0x14, n))
  let rec dup : List Nat → List Nat → Option (Nat × Nat)
    | _, [] => none
    | seen, n :: t => if seen.contains (cfg n).handle then some (0x15, n) else dup (seen ++ [(cfg n).handle]) t
  let r15 := dup [] vis
  let named := stack get
  let r16 := if named.length = named.eraseDups.length then none else some (0x16, 0xFF)
  let r17 := (order.find? (fun n => match flips.lookup n with
    | some set => (match s.channel (cfg n).handle with
        | some c => (openSet s c.slot set).isNone
        | none => !staleStaged s snap (Reg.layerHandle n))
    | none => false)).map (fun n => (0x17, n))
  let r18 := if get Reg.compWbMode = 0 ∨ staleStaged s snap Reg.compWbHandle then none else
    match s.channel (get Reg.compWbHandle) with
    | some c => if c.type = 2 ∧ 4096 ≤ c.size then none else some (0x18, 0xFF)
    | none => some (0x18, 0xFF)
  r10 <|> r11 <|> r12 <|> r13 <|> r14 <|> r15 <|> r16 <|> r17 <|> r18

/-- Whether a key holds a HANDLE. -/
def isHandleKey (s : State) (key : Nat) : Bool := match rowOf s key with
  | some r => r.type == .handle
  | none => false

/-- The reason code of a snapshot against the configuration it would apply; 0 when it is accepted. The lowest code that
applies is the one reported (DESIGN CHOICE, log 22). The second value is the slot of a layer-specific breach. -/
def commitReason (s : State) (snap : NatMap) (flips : List (Nat × Nat)) (get : Nat → Nat) : Nat × Nat :=
  let T := get Reg.scanPeriodUs
  let frame := T * get Reg.scanScansPerFrame
  let period := (snap.lookup Reg.scanPeriodUs)
  -- an odd period has its own code; the range of R56 is judged apart from its parity
  let ranges := snap.all (stagedOk s) && rectsOk get &&
    (let o := toInt 32 (get Reg.frameSyncOffsetNs); decide (2 * o.natAbs ≤ frame * 1000) || (snap.lookup Reg.frameSyncOffsetNs).isNone)
  let budgets := ((List.range 8).map (fun c => get (Reg.tollBudget c))).sum
  let shorter := Nat.min T (s.reg Reg.scanPeriodUs)
  let follower := s.reg Reg.frameSyncMode == 2 || get Reg.frameSyncMode == 2
  let order := (parts 8 16 (get Reg.scanPhaseOrder)).map (· % 16)
  let handles := snap.filter (fun p => isHandleKey s p.1 && p.2 != 0)
  if !ranges then (1, 0xFF)
  else if period.any (fun p => p % 2 == 1) then (2, 0xFF)
  else if frame * 10 < 41667 then (3, 0xFF)
  else if order.eraseDups.length ≠ 16 then (4, 0xFF)
  else if nCap shorter (if follower then 98 else 100) < budgets then (5, 0xFF)
  else if frame < 2 * s.reg Reg.commitWindowUs then (6, 0xFF)
  else match compositionBreach s snap get flips with
    | some b => b
    | none =>
      if handles.any (fun p => (s.channel p.2).isNone) then (0x20, 0xFF)
      else if handles.any (fun p => (s.usable p.2).isNone) then (0x21, 0xFF)
      else (0, 0xFF)

/-- Whether a reason is layer-specific (R174). -/
def layerSpecific (r : Nat) : Bool := [0x10, 0x11, 0x12, 0x13, 0x14, 0x15, 0x17].contains r

/-! ### Layer updates -/

/-- R79, R187: a later update over an earlier one, entry by entry; the flips of both join. -/
def mergeUpdate (old : Option LayerUpdate) (new : LayerUpdate) : LayerUpdate :=
  match old with
  | none => new
  | some u => { new with values := new.values ++ u.values.filter (fun p => (new.values.lookup p.1).isNone),
                         loose := u.loose ++ new.loose, sets := u.sets ++ new.sets.filter (fun x => !u.sets.contains x) }

/-- R184: a set is complete when its close record has arrived and as many of its regions have landed. -/
def NamedSet.complete (x : NamedSet) : Bool := x.closed == some x.tags.length

/-- R183: a loose tile whose flip is admitted counts as loose no longer, nor in a commit that still waits: what landed in its back slot since an earlier
snapshot flips with it. -/
def dropLoose (s : State) (p : Nat × Nat) : State :=
  let rest (l : List (Nat × Nat)) : List (Nat × Nat) := l.filter (· != p)
  let c := s.commits
  { s with chans := { s.chans with loose := rest s.chans.loose },
           commits := { c with late := c.late.map (fun d => { d with loose := rest d.loose }),
                               held := c.held.map (fun o => o.map (fun u => { u with loose := rest u.loose })) } }

/-- R271: PEND set on the tiles of a flip, so that they are read from the other slot and exchanged at the swap. -/
def setPend (s : State) (p : Nat × Nat) : State :=
  match s.chans.live.find? (fun c => c.slot == p.1) with
  | some c =>
    let r := TileRef.surface c p.2 0
    let v := sideState s r
    let s1 := setSideState s r (setBit v 1 true)
    dropLoose { s1 with pipe := { s1.pipe with flips := s1.pipe.flips ++ [p] } } p
  | none => s

/-- R271: the flip of a named set admitted: PEND on its tiles; the set leaves the open sets when it applies. -/
def admitSet (s : State) (p : Nat × Nat) : State :=
  match openSet s p.1 p.2 with
  | some x =>
    let s1 := x.tiles.foldl (fun st i => setPend st (p.1, i)) s
    { s1 with chans := { s1.chans with sets := s1.chans.sets.map (fun y => if y.slot == p.1 && y.set == p.2 then { y with admitted := true } else y) } }
  | none => s

/-- The number of tiles of a set of tiles. -/
def tileCount (x : TileSet) : Nat := (TileSet.toList x).length

/-- R189: 256 for each tile and each layer read there: the Glaze cache once, and every drawn layer above the span that meets it. -/
def readsPl (s : State) (get : Nat → Nat) (x : TileSet) : Nat :=
  let span := glazeSpan s get
  let above := (drawn s get).drop span
  let o := s.reg Reg.compOrientation
  (if span = 0 then 0 else 256 * tileCount x) + (above.map (fun l => 256 * tileCount (footprintTiles o l.2 &&& x))).sum

/-- R189, R195: the Glaze work of a layer update in pixel-layers. -/
def glazePl (s : State) (n : Nat) (u : LayerUpdate) : Nat :=
  let (full, part) := glazeEffect s n u
  let get := fun key => if inBlock n key then overlay u.values (frameCfg s) key else frameCfg s key
  let o := s.reg Reg.compOrientation
  let s := unhide s n
  if full then 1048576 * glazeSpan s get
  else (((drawn s get).take (glazeSpan s get)).map (fun l => 256 * tileCount (footprintTiles o l.2 &&& part))).sum

/-- R189: time in ns of the work scheduled for the next boundary and not yet done, at the rates of R19. -/
def scheduledNs (s : State) : Rat :=
  let p := s.pipe
  let get := frameCfg s
  -- R195: the whole span where a full rebuild marked the tile, and the glazed layers that meet it where a flip did
  let span := (drawn s get).take (glazeSpan s get)
  let part := p.glazeDirty &&& ~~~ p.glazeWhole
  let glaze := 256 * span.length * tileCount p.glazeWhole + (span.map (fun l => 256 * tileCount (footprintTiles (s.reg Reg.compOrientation) l.2 &&& part))).sum
  ((readsPl s get p.composeDirty + glaze : Nat) : Rat) * 5 / 6 +
    ((256 * tileCount (p.driveDirty ||| p.composeDirty) + 256 * tileCount (p.loadDirty ||| p.reload ||| p.driveDirty ||| p.composeDirty) : Nat) : Rat) * 5 / 3

/-- R189, R197: the tiles that an update marks: what it changes, or all where it rebuilds the Glaze. -/
def dirtyTiles (s : State) (n : Nat) (u : LayerUpdate) : TileSet := if (glazeEffect s n u).1 then allTiles else updateTiles s n u

/-- A rebuild of the whole Glaze cache (R195): all tiles dirty, counted, E66. -/
def glazeRebuild (s : State) (span : Nat) : State :=
  let s1 := { s with pipe := { s.pipe with glazeDirty := allTiles, glazeWhole := allTiles, composeDirty := allTiles } }
  raise 66 (bytesLE 1 span) (s1.bump Reg.compGlazeRebuilds)

/-- R189: an update admitted: its tiles dirty, its flips pending, the Glaze brought up to date. -/
def admitUpdate (s : State) (n : Nat) (u : LayerUpdate) : State :=
  let dirty := updateTiles s n u
  let (full, part) := glazeEffect s n u
  let s1 := (u.loose.foldl setPend s)
  let s2 := u.sets.foldl admitSet s1
  let s3 := { s2 with commits := { s2.commits with updates := vset s2.commits.updates n (some (mergeUpdate (vget s2.commits.updates none n) u)), held := vset s2.commits.held n none } }
  if full then glazeRebuild s3 (glazeSpan s3 (frameCfg s3))
  else { s3 with pipe := { s3.pipe with composeDirty := s3.pipe.composeDirty ||| dirty, glazeDirty := s3.pipe.glazeDirty ||| part } }

/-- R189, R190: the admission of the held updates, by priority and then stack position, both high to low. -/
def admission (s : State) (t1 : Nat) : State :=
  let pos (n : Nat) : Nat := ((stack (frameCfg s)).findIdx? (· == n)).getD 0
  let rank (n : Nat) : Nat := match vget s.commits.held none n with
    | some u => overlay u.values s.reg (Reg.layerPriority n) * 16 + pos n
    | none => 0
  let todo := ((List.range 8).filter (fun n => (vget s.commits.held none n).isSome)).mergeSort (fun a b => decide (rank b ≤ rank a))
  let margin : Rat := ((s.reg Reg.compAdmitMarginUs * 1000 : Nat) : Rat)
  let avail0 : Rat := (t1 : Rat) - (s.now : Rat) - margin - scheduledNs s
  (todo.foldl (fun (acc : Rat × State) n =>
    let (avail, st) := acc
    match vget st.commits.held none n with
    | none => acc
    | some u =>
      let hold (cause : Nat) : Rat × State :=
        (avail, { st with commits := { st.commits with held := vset st.commits.held n (some { u with cause := cause }) } })
      if !(u.sets.all (fun p => match openSet st p.1 p.2 with | some x => x.complete | none => true)) then hold 1
      else
        let get := fun key => if inBlock n key then overlay u.values (frameCfg st) key else frameCfg st key
        let new := dirtyTiles st n u &&& ~~~ st.pipe.composeDirty
        let cost : Rat := ((glazePl st n u + readsPl (unhide st n) get new : Nat) : Rat) * 5 / 6 + ((512 * tileCount new : Nat) : Rat) * 5 / 3
        if cost ≤ avail then (avail - cost, admitUpdate st n u) else hold 0) (avail0, s)).2

/-- The slot that shows a surface in a configuration. -/
def shownBy (s : State) (get : Nat → Nat) (slot : Nat) : Option Nat :=
  (List.range 8).find? (fun n => get (Reg.layerVisible n) != 0 && (match s.channel (get (Reg.layerHandle n)) with | some x => x.slot == slot | none => false))

/-- R190: something more for the update of slot `n` to wait for. -/
def holdUpdate (s : State) (n : Nat) (u : LayerUpdate) : State :=
  { s with commits := { s.commits with held := vset s.commits.held n (some (mergeUpdate (vget s.commits.held none n) u)) } }

/-- R271: a named set marked held until it is complete. -/
def setHeld (s : State) (p : Nat × Nat) (h : Bool) : State :=
  { s with chans := { s.chans with sets := s.chans.sets.map (fun y => if y.slot == p.1 && y.set == p.2 then { y with held := h } else y) } }

/-- R271: a held set that is complete: PEND on its tiles; where a visible slot has come to show its surface, the set joins that slot's update. -/
def admitHeld (s : State) (p : Nat × Nat) : State :=
  match shownBy s (frameCfg s) p.1 with
  | some n => holdUpdate (setHeld s p false) n ⟨[], [], [p], 0⟩
  | none => admitSet s p

/-- R271: the held sets that are complete at a frame boundary. -/
def admitHeldSets (s : State) : State :=
  (s.chans.sets.filter (fun x => x.held && !x.admitted && x.complete)).foldl (fun st x => admitHeld st (x.slot, x.set)) s

/-! ### Acceptance -/

/-- Tile sets that a snapshot's values mark at the drive pipeline (R119). -/
def driveMarks (s : State) (old : Nat → Nat) (v : NatMap) : TileSet :=
  let whole := v.any (fun p => p.1 == Reg.driveTempco || p.1 == Reg.driveChromaWeight || p.1 == Reg.drivePolicy ||
    p.1 == Reg.driveDiagMinClass || p.1 == Reg.driveChromaEnable || p.1 == Reg.driveCompEnable ||
    (decide (Reg.driveClassLadder 0 ≤ p.1) && decide (p.1 < Reg.driveClassLadder 5)) ||
    (decide (Reg.driveCompKernel 0 ≤ p.1) && decide (p.1 < Reg.driveCompKernel 4)))
  if whole then allTiles else
  match v.lookup Reg.driveCompSelect with
  | some x => tileSet ((List.range 32).flatMap (fun f =>
      if bits x (2 * f + 1) (2 * f) = bits (old Reg.driveCompSelect) (2 * f + 1) (2 * f) then [] else fieldTiles f))
  | none => let _ := s; 0

/-- R504: the first commit accepted after a release loads every tile again at its target boundary; under a beam that is still being loaded, after the
swap that lights it. -/
def resumeHost (s : State) : State :=
  if s.lantern.state = 3 ∧ !s.lantern.release then
    { s with lantern := { s.lantern with release := true }, pipe := { s.pipe with loadDirty := allTiles, reload := allTiles } }
  else if s.lantern.state = 1 ∧ s.lantern.handback then { s with lantern := { s.lantern with resumeDue := true } }
  else s

/-- R504: whether a release has been accepted whose first commit is still to come. -/
def releaseWaits (s : State) : Bool := (s.lantern.state == 3 && !s.lantern.release) || (s.lantern.state == 1 && s.lantern.handback)

/-- R187, R188, R190: an accepted snapshot taken into the frame being prepared: values outside the layer blocks pend, layer values and flips
join the updates of their slots, and global changes dirty their tiles. A flip belongs to the slot that shows its surface in the frame being
prepared, which goes on showing it while its update is held; else to the slot that the snapshot shows it in. -/
def joinCommit (s : State) (c : Commit) : State :=
  let get0 := frameCfg s
  let isLayer (p : Nat × Nat) : Bool := decide (0x2410 ≤ p.1 / 256) && decide (p.1 / 256 < 0x2418)
  let globals := c.values.filter (fun p => !isLayer p)
  let merged : Commit := match s.commits.pending with
    | some d => { c with values := globals ++ d.values.filter (fun p => (globals.lookup p.1).isNone), loose := [], sets := [] }
    | none => { c with values := globals, loose := [], sets := [] }
  let s1 := { s with commits := { s.commits with pending := some merged } }
  -- the slot that shows a surface in the configuration with this snapshot
  let layerGet (key : Nat) : Nat := overlay c.values (fun k => match vget s.commits.held none (k / 256 - 0x2410) with
    | some u => overlay u.values (frameCfg s) k
    | none => frameCfg s k) key
  let shown (slot : Nat) : Option Nat := shownBy s get0 slot <|> shownBy s layerGet slot
  let s2 := (List.range 8).foldl (fun st n =>
    let vs := c.values.filter (fun p => inBlock n p.1)
    let lo := c.loose.filter (fun p => shown p.1 == some n)
    let se := c.sets.filter (fun p => shown p.1 == some n)
    if vs.isEmpty && lo.isEmpty && se.isEmpty then st else holdUpdate st n ⟨vs, lo, se, 0⟩) s1
  -- surfaces bound to no visible slot (R271): a set that is incomplete, or held already, waits for a frame boundary
  let s3 := (c.loose.filter (fun p => (shown p.1).isNone)).foldl setPend s2
  let s4 := (c.sets.filter (fun p => (shown p.1).isNone)).foldl (fun st p =>
    match openSet st p.1 p.2 with
    | some x => if x.complete && !x.held then admitSet st p else setHeld st p true
    | none => st) s3
  -- global work (R188, R195) and the drive tables (R119)
  let get1 := frameCfg s4
  let changed (key : Nat) : Bool := get1 key != get0 key
  let o := s.reg Reg.compOrientation
  let place (get : Nat → Nat) (n : Nat) : Option Nat := (List.range 8).find? (fun k => slotAt get k == some n)
  let moved := (List.range 8).filter (fun n => place get0 n != place get1 n)
  let moveTiles := moved.foldl (fun acc n =>
    let l := layerCfg s4 get1 n
    if drawable s4 l then acc ||| footprintTiles o l else acc) (0 : TileSet)
  let marks := (if changed Reg.compBackground then allTiles else 0) ||| (if changed Reg.compOrder then moveTiles else 0)
  let s5 := { s4 with pipe := { s4.pipe with composeDirty := s4.pipe.composeDirty ||| marks,
                                             driveDirty := s4.pipe.driveDirty ||| driveMarks s4 get0 globals } }
  let span := glazeSpan s5 get1
  let s6 := if span ≠ 0 ∧ (changed Reg.compBackground ∨ changed Reg.compOrder ∨ changed Reg.compGlazeEnable) then glazeRebuild s5 span
    else s5
  let s7 := retime s6
  let s8 := if c.resume then resumeHost s7 else s7
  { s8 with pipe := { s8.pipe with scalers := scaledSlots s layerGet } }

/-- R187 to R190: an on-time snapshot taken, and the admission that runs with it. -/
def takeCommit (s : State) (c : Commit) : State :=
  let s1 := joinCommit s c
  admission s1 (nextBoundary s1)

/-- The answer to a commit request (R323). -/
structure CommitAnswer where
  reason : Nat
  late : Bool
  merged : Bool
  target : Nat
  deriving DecidableEq, Repr

/-- R78, R82: whether a request at this instant is late. -/
def isLate (s : State) : Bool :=
  s.commits.deferred || s.scan.windowClosed || decide (nextBoundary s ≤ s.now + s.scan.windowUs * 1000) && s.scan.running

/-- R79, R187: the configuration a commit requested now comes over: what already targets its boundary, with the held updates. -/
def commitBase (s : State) : Nat → Nat :=
  let held (key : Nat) : Nat :=
    if 0x2410 ≤ key / 256 && key / 256 < 0x2418 then
      match vget s.commits.held none (key / 256 - 0x2410) with
      | some u => overlay u.values (frameCfg s) key
      | none => frameCfg s key
    else match s.commits.pending with
      | some c => overlay c.values s.reg key
      | none => s.reg key
  if isLate s then (match s.commits.late with | some c => overlay c.values held | none => held) else held

/-- R76 to R83: a commit request with a tag, and named sets that a SET_COMMIT adds to its flips. -/
def requestCommit (s : State) (tag : Nat) (extra : List (Nat × Nat)) : CommitAnswer × State :=
  let snap0 := s.kdp.staged.map (fun x => (x.key, x.value))
  let isFlip (p : Nat × Nat) : Bool := p.1 % 256 == 0x0F && decide (0x2410 ≤ p.1 / 256) && decide (p.1 / 256 < 0x2418)
  let flips := (snap0.filter (fun p => isFlip p && p.2 != 0)).map (fun p => (p.1 / 256 - 0x2410, p.2))
  let snap := snap0.filter (fun p => !isFlip p)
  let late := isLate s
  let base := commitBase s
  let get := overlay snap base
  let s0 := { s with kdp := { s.kdp with staged := [] } }
  let (reason, slot) := commitReason s snap flips get
  let s1 := (snap.filter (fun p => isHandleKey s p.1 && p.2 != 0 && (s.channel p.2).isNone)).foldl (fun st p => staleHandle st p.2 1) s0
  if reason ≠ 0 then
    let s2 := { s1 with commits := { s1.commits with reason := reason } }
    let s3 := raise 36 (bytesLE 1 tag ++ bytesLE 1 reason) s2
    let s4 := if layerSpecific reason then
        raise 65 (bytesLE 1 slot ++ bytesLE 1 reason) { s3 with pipe := { s3.pipe with refusedSlot := slot } }
      else s3
    (⟨reason, false, false, 0⟩, s4)
  else
    let sets := flips.filterMap (fun p => (s.channel (get (Reg.layerHandle p.1))).map (fun c => (c.slot, p.2))) ++ extra
    let c : Commit := ⟨tag, snap, s1.chans.loose, sets, releaseWaits s1⟩
    let s2 := { s1 with chans := { s1.chans with loose := [] }, commits := { s1.commits with acceptedTag := tag } }
    if late then
      let merged : Commit := match s2.commits.late with
        | some d => ⟨tag, snap ++ d.values.filter (fun p => (snap.lookup p.1).isNone), d.loose ++ c.loose, d.sets ++ c.sets, d.resume || c.resume⟩
        | none => c
      let target := (s2.scan.frameCount + 2) % 4294967296
      let s3 := { s2 with commits := { s2.commits with late := some merged } }
      let s4 := raise 35 (bytesLE 1 tag ++ bytesLE 3 0 ++ bytesLE 4 target) (s3.bump Reg.commitLateCount)
      (⟨0, true, s.commits.late.isSome, target⟩, s4)
    else
      (⟨0, false, s.commits.pending.isSome, (s2.scan.frameCount + 1) % 4294967296⟩, takeCommit s2 c)

/-- `commit.status` (R77 to R82). -/
def commitStatus (s : State) : Nat :=
  s.commits.acceptedTag % 256 + 256 * (s.commits.appliedTag % 256) + 65536 * b2n (s.commits.pending.isSome && !s.commits.deferred) +
  131072 * b2n s.commits.late.isSome + 262144 * b2n s.commits.deferred +
  524288 * b2n (!s.scan.spread.isEmpty || s.scan.kCSlewing) + 16777216 * (s.commits.reason % 256)

end Sys2Proof.Machine
end

