-- ==== Sys2Proof/Machine/Evidence.lean ====
section
/-!
DEFINITION. The words of a channel as a unit reads and writes them, and the evidence map (R146, R149).
-/

namespace Sys2Proof.Machine

/-- Bytes of a channel as a unit other than a tile's reader receives them: a poisoned word reads 0 (R255). -/
def chanRead (s : State) (c : Channel) (o n : Nat) : List Byte := (span o n).map (fun i => if chanPoisoned s c i 1 then 0 else loadByte s (c.addr i))

/-- A byte string of a channel written by a unit that reads and writes whole words: what else a poisoned word held is 0 after it (R255). -/
def chanModify (s : State) (c : Channel) (o : Nat) (b : List Byte) : State :=
  let words := (span (o / 8) ((o + b.length + 7) / 8 - o / 8)).filter (fun w => s.store.poison.contains (c.addr (8 * w)))
  chanWrite (words.foldl (fun st w => chanWrite st c (8 * w) (List.replicate 8 0)) s) c o b

/-- The field of a pixel index. -/
def pixelField (p : Nat) : Nat := fieldOf (p % 2048) (p / 2048)

/-- The evidence map's channel. -/
def evidenceMap (s : State) : Option Channel := s.channel (s.reg Reg.diagEvidenceHandle)

/-- Byte offset of the word of a pixel or of a sink: pixel by pixel, then sink by sink (DESIGN CHOICE, log 205: R146 gives the map's size and
the word, not the order of the words). -/
def evOffset (sink : Bool) (u : Nat) : Nat := if sink then 2097152 + 2 * u else 2 * u

/-- An evidence word. -/
def evGet (s : State) (sink : Bool) (u : Nat) : Nat :=
  match evidenceMap s with
  | some c => natLE (chanRead s c (evOffset sink u) 2)
  | none => 0

/-- An evidence word written. -/
def evPut (s : State) (sink : Bool) (u v : Nat) : State :=
  match evidenceMap s with
  | some c => chanModify s c (evOffset sink u) (bytesLE 2 v)
  | none => s

/-- The pixels and sinks whose evidence word is not 0 (sinks marked true). -/
def evUnits (s : State) : List (Bool × Nat) :=
  match evidenceMap s with
  | none => []
  | some c =>
    (s.store.mem.filterMap (fun e =>
      (pageIn c.runs (e.1 / 4096)).bind (fun pg =>
        let o := pg * 4096 + e.1 % 4096
        if o < 2097152 then some (false, o / 2) else if o < 2228224 then some (true, (o - 2097152) / 2) else none))).eraseDups

/-! ### The kinds of scan (R134) -/

/-- R134: the count n of the scan in progress. -/
def scanN (s : State) : Nat := s.scan.scanCount - 1

/-- P of R134. -/
def probeP (s : State) : Nat := s.reg Reg.diagProbeInterval

/-- The kinds of scan of R134. -/
inductive ScanKind where
  | probe | lit | listening | plain
  deriving DecidableEq, Repr

/-- R134. -/
def scanKind (s : State) : ScanKind :=
  let n := scanN s
  let p := probeP s
  if p = 0 then .plain
  else if n % p = 0 then .probe
  else if n % p = p / 2 then .lit
  else if n % (4 * p) = p / 4 then .listening
  else .plain

/-- The newest entry of the coverage record changed. -/
def onLitScan (s : State) (f : LitScan → LitScan) : State :=
  match s.lamp.litScans with
  | l :: t => { s with lamp := { s.lamp with litScans := f l :: t } }
  | [] => s

/-- R149: what the scan in progress has sampled in half `h` forgotten. -/
def dropHalfSamples (h : Nat) (s : State) : State :=
  let stays (p : Nat) : Bool := !(pixelField p / 16 == h)
  let l := s.lamp
  let s1 := { s with lamp := { l with samples := l.samples.filter (fun x => !((if x.sink then sinkField x.unit else pixelField x.unit) / 16 == h)),
                                      ratios := l.ratios.filter (fun x => stays x.1), currents := l.currents.filter (fun x => stays x.1),
                                      listen := l.listen.filter (fun x => stays x.1), slotCheckable := l.slotCheckable.filter stays } }
  if scanKind s = .lit then
    onLitScan s1 (fun x => { x with noSubth := (List.range 32).foldl (fun b f => if f / 16 = h then bvPut b f true else b) x.noSubth,
                                    checkable := x.checkable.filter stays, window := x.window.filter stays })
  else s1

/-- R149: the evidence words of half `h` cleared, and what the scan in progress has sampled there forgotten; with CMP OFF there are none. -/
def clearHalfEvidence (h : Nat) (s : State) : State :=
  if domainOn s 3 then
    dropHalfSamples h
      (((evUnits s).filter (fun u => (if u.1 then sinkField u.2 else pixelField u.2) / 16 == h)).foldl (fun st u => evPut st u.1 u.2 0) s)
  else s

end Sys2Proof.Machine
end

