-- ==== Sys2Proof/Machine/Therm.lean ====
section
/-!
DEFINITION. Thermal sensing and protection (chapter 12): the field sensors with their vote-out and substitutes, the
bands, the throttle hold, the protection sensors, and the shutdown with its journal.
-/

namespace Sys2Proof.Machine

/-! ### Field temperatures (R396 to R401) -/

/-- Row and column neighbours of a field in the 8 by 4 grid. -/
def neighbours (f : Nat) : List Nat :=
  (if f % 8 = 0 then [] else [f - 1]) ++ (if f % 8 = 7 then [] else [f + 1]) ++
  (if f < 8 then [] else [f - 8]) ++ (if 24 ≤ f then [] else [f + 8])

/-- T_F of a field. -/
def tempOf (s : State) (f : Nat) : Rat := vget s.therm.tf 25 f

/-- A protection sensor. -/
def protOf (s : State) (n : Nat) : ProtSensor := vget s.therm.prot State.protReset n

/-- Whether a field's temperature comes from its own sensor. -/
def sensorUsed (s : State) (f : Nat) : Bool := s.therm.seen.getLsbD f && !s.therm.votedOut.getLsbD f

/-- The mean of some temperatures; none of an empty list. -/
def meanQ (l : List Rat) : Option Rat := if l.isEmpty then none else some (l.sum / (l.length : Rat))

/-- The highest of some temperatures. -/
def maxQ : List Rat → Option Rat
  | [] => none
  | a :: t => some (t.foldl (fun m x => if m < x then x else m) a)

/-- Monitor values of the protection sensors not failed. -/
def soundMonitors (s : State) : List Rat :=
  ((List.range 4).filter (fun n => !(protOf s n).failed)).map (fun n => ((protOf s n).monitor : Rat) / 8)

/-- M_f of R399. -/
def meanField (s : State) (f : Nat) : Option Rat :=
  match meanQ (((neighbours f).filter (sensorUsed s)).map (tempOf s)) with
  | some m => some m
  | none =>
    match meanQ (((List.range 32).filter (fun g => g != f && sensorUsed s g)).map (tempOf s)) with
    | some m => some m
    | none => meanQ (soundMonitors s)

/-- R400: the substitute of a voted-out field. -/
def substitute (s : State) (f : Nat) : Rat :=
  match meanQ (((neighbours f).filter (sensorUsed s)).map (tempOf s)) with
  | some m => m + 5
  | none =>
    match maxQ (((List.range 32).filter (sensorUsed s)).map (tempOf s)) with
    | some m => m + 5
    | none => match maxQ (soundMonitors s) with
      | some m => m + 5
      | none => 140

/-- R400: every voted-out field's temperature computed anew. -/
def refreshSubstitutes (s : State) : State :=
  (List.range 32).foldl (fun st f =>
    if st.therm.votedOut.getLsbD f then { st with therm := { st.therm with tf := vset st.therm.tf f (substitute st f) } } else st) s

/-! ### Bands (R402 to R405) -/

/-- The band of a temperature by its rising thresholds. -/
def bandRising (t : Rat) : Nat := ([-10, 55, 90, 120] : List Rat).countP (fun r => decide (r ≤ t))

/-- The band of a temperature by its falling thresholds. -/
def bandFalling (t : Rat) : Nat := ([-13, 52, 87, 117] : List Rat).countP (fun r => decide (r ≤ t))

/-- R402: the band after a reading, with hysteresis. -/
def nextBand (old : Nat) (t : Rat) : Nat :=
  if old < bandRising t then bandRising t else if bandFalling t < old then bandFalling t else old

/-- R403, R404, R408: the band of a field evaluated. A change dirties the field's tiles and its samples of this scan are
discarded (R157); during a hold no field moves to a colder band. -/
def evalBand (s : State) (f : Nat) : State :=
  let t := tempOf s f
  if !s.therm.banded.getLsbD f then
    { s with therm := { s.therm with band := vset s.therm.band f (bandRising t), banded := bvPut s.therm.banded f true } }
  else
    let old := bandOf s f
    let new := nextBand old t
    if new = old ∨ (s.therm.holdEnd.isSome ∧ new < old) then s
    else
      let s1 := { s with therm := { s.therm with band := vset s.therm.band f new },
                         lamp := { s.lamp with bandFields := bvPut s.lamp.bandFields f true } }
      raise 16 (bytesLE 1 f ++ bytesLE 1 old ++ bytesLE 1 new) (retime (markInternal s1 (tileSet (fieldTiles f))))

/-- Bands evaluated at a reading of field `f`: its own, and those of the fields whose temperature is a substitute. A field that
is voted out takes its first band once every sensor has given its first reading (R403). -/
def evalBands (s : State) (f : Nat) : State :=
  let ready := s.therm.seen == BitVec.allOnes 32
  let fs := (List.range 32).filter (fun g =>
    if s.therm.votedOut.getLsbD g then s.therm.banded.getLsbD g || ready else g == f)
  fs.foldl evalBand s

/-! ### Vote-out -/

/-- A temperature as INT16 in 0.125 °C; 0x8000 when none. -/
def eighths (t : Option Rat) : Nat := match t with
  | some x => ofInt 16 (roundQ (x * 8))
  | none => 0x8000

/-- R408: whether throttling is active: any k_T below 1. -/
def throttling (s : State) : Bool := s.refs.kT.toList.any (fun k => decide (k < 1))

/-- R408: the hold that a vote-out during throttling starts or restarts. -/
def startHold (s : State) (f : Nat) (before : FieldSet) : State :=
  let last (g : Nat) : Option Rat := vget s.therm.lastValid none g
  let highest := match last f with
    | none => false
    | some t => (List.range 32).all (fun g => g == f || before.getLsbD g || (match last g with | some u => decide (u ≤ t) | none => true))
  if throttling s && highest then
    raise 21 (bytesLE 1 f) { s with therm := { s.therm with holdEnd := some (s.now + 2000000000) } }
  else s

/-- R399: field sensor `f` voted out, for a cause of record 0x21, with the M_f used. -/
def voteOut (s : State) (f cause : Nat) (m : Option Rat) : State :=
  let before := s.therm.votedOut
  let s1 := raise 18 (bytesLE 1 f) { s with therm := { s.therm with votedOut := bvPut before f true } }
  let s2 := if firmwareRuns s1 3 then
      ledgerAppend s1 (bytesLE 1 0x21 ++ bytesLE 1 f ++ bytesLE 1 cause ++ bytesLE 2 (eighths (vget s1.therm.lastValid none f)) ++
        bytesLE 2 (eighths m) ++ bytesLE 5 0 ++ bytesLE 4 (opsec s1)) 0
    else s1
  startHold s2 f before

/-- R453, group 1: an element of a field sensor dropped until the next power-up. -/
def dropElement (s : State) (f e : Nat) : State :=
  raise 12 (bytesLE 1 1 ++ bytesLE 1 (2 * f + e))
    { s with therm := { s.therm with dropped := bvPut s.therm.dropped (2 * f + e) true, picked := bvPut s.therm.picked f (e = 0) } }

/-- Whether an element is dropped. -/
def elementDropped (s : State) (f e : Nat) : Bool := s.therm.dropped.getLsbD (2 * f + e)

/-- A reading that an element may report (R396). -/
def validReading (x : Option Int) : Option Int := x.bind (fun v => if -440 ≤ v ∧ v ≤ 1600 then some v else none)

/-- R453: the checks on the two elements of a field sensor. -/
def checkElements (s : State) (f : Nat) (r : SensorObs) : State :=
  let s1 := if r.e0.isNone && !elementDropped s f 0 then dropElement s f 0 else s
  let s2 := if r.e1.isNone && !elementDropped s1 f 1 then dropElement s1 f 1 else s1
  match r.e0, r.e1 with
  | some a, some b =>
    if elementDropped s2 f 0 || elementDropped s2 f 1 then s2
    else if 24 < (a - b).natAbs then
      let n := vget s2.therm.differ 0 f + 1
      let s3 := { s2 with therm := { s2.therm with differ := vset s2.therm.differ f n } }
      if n < 8 then s3
      else
        let dist (x : Int) : Rat := match meanField s3 f with
          | some m => let d := (x : Rat) / 8 - m; if d < 0 then -d else d
          | none => 0
        if dist b < dist a then dropElement s3 f 0 else dropElement s3 f 1
    else { s2 with therm := { s2.therm with differ := vset s2.therm.differ f 0 } }
  | _, _ => s2

/-- The reading a field sensor delivers: that of the element picked, where it is not dropped (R396, R453). -/
def sensorValue (s : State) (f : Nat) (r : SensorObs) : Option Rat :=
  let e0 := if elementDropped s f 0 then none else r.e0
  let e1 := if elementDropped s f 1 then none else r.e1
  let v := if s.therm.picked.getLsbD f then e1 else e0
  (validReading v).map (fun x => (x : Rat) / 8)

/-- R399: the deviation test of a valid reading. -/
def deviates (s : State) (t : Rat) (m : Option Rat) : Bool :=
  let tol : Rat := (s.reg Reg.thermVoteTolC : Rat)
  match m with
  | some x => decide (t < x - tol) || decide (x + 2 * tol < t)
  | none => false

/-- What a reading of a field sensor does, its events in the order of its effects. -/
def fieldReading (f : Nat) (r : SensorObs) (s : State) : State :=
  let s1 := checkElements s f r
  let v := sensorValue s1 f r
  let s2 := { s1 with therm := { s1.therm with raw := vset s1.therm.raw f v, seen := bvPut s1.therm.seen f true } }
  let s3 := match v with
    | none => if s2.therm.votedOut.getLsbD f then s2 else voteOut s2 f 0 (meanField s2 f)
    | some t =>
      if s2.therm.votedOut.getLsbD f then s2
      else
        let m := meanField s2 f
        let n := if deviates s2 t m then vget s2.therm.deviating 0 f + 1 else 0
        let s4 := { s2 with therm := { s2.therm with tf := vset s2.therm.tf f t, lastValid := vset s2.therm.lastValid f (some t),
                                                     deviating := vset s2.therm.deviating f n } }
        if 8 ≤ n then voteOut s4 f 1 m else s4
  startWhenReady (evalBands (refreshSubstitutes s3) f)

/-- FIELD_SENSOR_READING (R384, R396 to R403, R408, R453): a field sensor delivers its reading while ANA is powered; the last first reading of a
start lets the sequencer start. -/
def execFieldSensorReading (f : Fin 32) (r : SensorObs) (s : State) : Host.Outcome State Fault Refusal :=
  if domainOn s 7 then .next (inOrder (fieldReading f r) s) else .next s

/-- THROTTLE_HOLD_END (R408): the hold ends 2 s after the vote-out that started it. -/
def execThrottleHoldEnd (s : State) : Host.Outcome State Fault Refusal :=
  match s.therm.holdEnd with
  | some t => let s1 := s.atLeast t; .next { s1 with therm := { s1.therm with holdEnd := none } }
  | none => .next s

/-! ### Protection and shutdown (R397, R409 to R412) -/

/-- Votes held: the comparators' in bits 3 to 0, the failed sensors' in bits 7 to 4. -/
def voteByte (s : State) : Nat :=
  ((List.range 4).map (fun n => b2n (protOf s n).vote * 2 ^ n + b2n (protOf s n).failed * 2 ^ (4 + n))).sum

/-- The protection sensors whose vote is held. -/
def heldVotes (s : State) : Nat :=
  ((List.range 4).map (fun n => b2n ((protOf s n).vote || (protOf s n).failed) * 2 ^ n)).sum

/-- How many votes are held. -/
def voteCount (s : State) : Nat := (List.range 4).countP (fun n => (protOf s n).vote || (protOf s n).failed)

/-- The field with the highest T_F, the lowest number among equals. -/
def hottestField (s : State) : Nat :=
  (List.range 32).foldl (fun best f => if tempOf s best < tempOf s f then f else best) 0

/-- R412: the record of a shutdown. -/
def shutdownRecord (s : State) : List Byte :=
  bytesLE 1 0x20 ++ bytesLE 1 (voteByte s) ++ (List.range 4).flatMap (fun n => bytesLE 2 (ofInt 16 (protOf s n).monitor)) ++
  bytesLE 1 (hottestField s) ++ bytesLE 1 0 ++ bytesLE 4 (opsec s)

/-- R312: the copy of the saved set that a save overwrites. -/
def saveTarget (s : State) : Nat :=
  match vget s.mram.saved none 0, vget s.mram.saved none 1 with
  | none, _ => 0
  | some _, none => 1
  | some a, some b => if b.count < a.count then 1 else 0

/-- R459: offset of tile `i` in an import file. -/
def importTileAt (file : List Byte) (i : Nat) : Nat := 64 + (if bitAt (field file 6 2) 1 then 512 else 0) + 1028 * i

/-- R460: one step of an import's writes: a copy of the field records, or a tile. -/
inductive ImportStep where
  | copy (k : Nat)
  | tile (i : Nat)
  deriving DecidableEq, Repr

/-- R460: the steps of an import's writes, in their order. -/
def importSteps (file : List Byte) : List ImportStep :=
  (if bitAt (field file 6 2) 1 then [.copy 0, .copy 1] else []) ++ (List.range (field file 18 2)).map .tile

/-- The pixel of place `j` of tile `t`, by the order of the binning tiles (R441). -/
def binPixel (t j : Nat) : Nat := pixelOf ((t % 128) * 16 + j % 16) ((t / 128) * 16 + j / 16)

/-- R460: the aging words that hold pixels of a tile. -/
def agingWords (t : Nat) : List Nat := ((List.range 256).map (fun j => binPixel t j / 7)).eraseDups

/-- R460: how many words of 8 bytes a step writes: a copy with its CRC; a tile with its check word, and the aging words where CLEAR_AGE is set. -/
def stepWords (file : List Byte) : ImportStep → Nat
  | .copy _ => 65
  | .tile i => 129 + (if bitAt (field file 6 2) 0 then (agingWords (field file 16 2 + i)).length else 0)

/-- R460: the first `n` words of a step written: the data, then the check, then the aging words, which hold 0. -/
def importStep (file : List Byte) (n : Nat) (m : Mram) : ImportStep → Mram
  | .copy k =>
    let b := slice file 64 512
    let old := recordBytes (vget m.records (Vector.replicate 32 State.fieldRecordReset) k)
    { m with records := vset m.records k (recordsOf (b.take (8 * n) ++ old.drop (8 * n)))
             recordCheck := if 65 ≤ n then vset m.recordCheck k (crc32c b) else m.recordCheck }
  | .tile i =>
    let t := field file 16 2 + i
    let o := importTileAt file i
    let bins := (List.range (Nat.min 256 (2 * n))).foldl (fun b j => mapPut (fun _ => binDefault) (binPixel t j) (field file (o + 4 * j) 4) b) m.binning
    let ages := if bitAt (field file 6 2) 0 then (agingWords t).take (n - 129) else []
    { m with binning := bins, binCheck := if 129 ≤ n then mapPut (fun _ => 719541355) t (field file (o + 1024) 4) m.binCheck else m.binCheck
             aging := m.aging.filter (fun e => !ages.contains e.1) }

/-- R460, R461: the first `n` words of an import's writes. -/
def importWrites (file : List Byte) (n : Nat) (m : Mram) : Mram :=
  ((importSteps file).foldl (fun (p : Nat × Mram) x => (p.1 - stepWords file x, if p.1 = 0 then p.2 else importStep file (Nat.min p.1 (stepWords file x)) p.2 x))
    (n, m)).2

/-- R460: how many words an import writes. -/
def importWords (file : List Byte) : Nat := ((importSteps file).map (stepWords file)).sum

/-- R412, R465: the block move into MRAM that was in progress, if one was, is cut after a free number of words (DESIGN CHOICE, log 210). -/
def abandonMove (s : State) : State :=
  let into (m : Move) : Bool := m.refused == 0 && m.cut.isNone && decide (0xFE000000 ≤ field m.descriptor 8 4) && decide (field m.descriptor 8 4 < 0xFF000000)
  let es := (List.range 9).filter (fun e => ((vget s.engines (State.engineReset 0) e).moves.head?.any into))
  if es.isEmpty then s
  else
    let (d, s1) := s.drawNat
    match es[d % (es.length + 1)]? with
    | none => s1
    | some e =>
      let (n, s2) := s1.drawNat
      let x := vget s2.engines (State.engineReset 0) e
      { s2 with engines := vset s2.engines e { x with moves := (x.moves.take 1).map (fun m => { m with cut := some n }) ++ x.moves.drop 1 } }

/-- R412 step 1, R465: an MRAM operation in progress is cut short: a save leaves its copy invalid; an import leaves a free number of its
words written (R461); a block move is abandoned. -/
def abandonMram (s : State) : State :=
  let s0 := abandonMove s
  let s1 := match s0.kdp.saving with
    | some _ => { s0 with mram := { s0.mram with saved := vset s0.mram.saved (saveTarget s0) none }, kdp := { s0.kdp with saving := none } }
    | none => s0
  if s1.cal.imp.state = 2 then
    let (n, s2) := s1.drawNat
    { s2 with mram := { importWrites s2.cal.imp.file n s2.mram with importTorn := true }, cal := { s2.cal with imp := ⟨4, 0, [], none, 0⟩ } }
  else s1

/-- R412: the journal's two phases, the Ledger append with the journal's SEQ, and the journal idle again. A power loss within 25 µs undoes the
steps that were still to come (`cutJournal`). -/
def writeJournal (s : State) : State :=
  let seq := (s.mram.journal.seq + 1) % 4294967296
  let r := shutdownRecord s
  let s1 := abandonMram s
  let before := (s1.now, s1.mram.journal, s1.mram.ledger, s1.reg Reg.thermShutdownCount)
  let s2 := { s1 with mram := { s1.mram with journal := ⟨seq, true, true, r⟩ }, therm := { s1.therm with latched := some before } }
  let s3 := ledgerAppend s2 r seq
  { s3 with mram := { s3.mram with journal := { s3.mram.journal with isOpen := false } } }

/-- R412, R413, R465: power is lost with `steps` of the journal's steps done: 0 none, 1 phase 1, 2 phase 2, 3 the Ledger append, 4 all. Phase 1 is done
4 µs after the latch, phase 2 after 6 µs, all after 25 µs. -/
def cutJournal (steps : Nat) (s : State) : State :=
  match s.therm.latched with
  | none => s
  | some (t, j, l, n) =>
    let k := Nat.max steps (if t + 25000 ≤ s.now then 4 else if t + 6000 ≤ s.now then 2 else if t + 4000 ≤ s.now then 1 else 0)
    if 4 ≤ k then s
    else
      let w := s.mram.journal
      let s1 := { s with mram := { s.mram with ledger := l, journal := if k = 0 then j else { w with isOpen := true, committed := decide (2 ≤ k) } } }
      let s2 := s1.setReg Reg.thermShutdownCount n
      if k = 3 then ledgerAppend s2 w.record w.seq else s2

/-- R410: the array cut: every sink off, the supply switches of ARN and ARS open, their latches lost. -/
def cutArray (s : State) : State :=
  let off (st : State) (d : Nat) : State := setDomain st d ⟨0, false, false⟩
  let s1 := clearHalfEvidence 1 (clearHalfEvidence 0 (off (off s 5) 6))
  { s1 with latches := { s1.latches with a := [], b := [] },
            power := { s1.power with light := 0, request := none, drainAfter := 0 },
            lantern := { s1.lantern with state := 0, cause := 0xFF, loaded := false, copyDue := false, release := false, reload := [] } }

/-- R410 to R412: the shutdown latch sets with the second vote. -/
def checkVotes (s : State) : State :=
  if s.therm.shutdown = false ∧ 2 ≤ voteCount s then
    let s1 := { s with therm := { s.therm with shutdown := true } }
    let s2 := raise 20 (bytesLE 1 (heldVotes s1)) (cutArray (writeJournal s1))
    if s2.power.device = 4 then enterReady s2 else s2
  else s

/-- The state with a protection sensor replaced. -/
def setProt (s : State) (n : Nat) (p : ProtSensor) : State := { s with therm := { s.therm with prot := vset s.therm.prot n p } }

/-- TP_VOTE (R397, R410): a comparator's input has stayed at or above 160 °C for 20 µs. -/
def execTpVote (n : Fin 4) (s : State) : Host.Outcome State Fault Refusal :=
  if domainOn s 7 then .next (checkVotes (setProt s n { protOf s n with vote := true })) else .next s

/-- TP_VOTE_RELEASE (R397): the input has fallen below the threshold. -/
def execTpVoteRelease (n : Fin 4) (s : State) : Host.Outcome State Fault Refusal :=
  .next (setProt s n { protOf s n with vote := false })

/-- The field above a protection sensor (R397). -/
def protField (n : Nat) : Nat := [11, 12, 19, 20].getD n 11

/-- R409: the cause for which a reading declares a protection sensor failed. -/
def protFailure (p : ProtSensor) : Option Nat :=
  if p.monitor < -440 ∨ 1600 < p.monitor then some 0
  else if 5 ≤ p.pairDiffers then some 1
  else if 100 ≤ p.fieldDiffers then some 2
  else none

/-- TP_MONITOR_READING (R397, R409, R410): a protection sensor's monitor value and its failure checks. -/
def execTpMonitorReading (n : Fin 4) (r : TpObs) (s : State) : Host.Outcome State Fault Refusal :=
  if domainOn s 7 then
    let p := protOf s n
    let t := tempOf s (protField n)
    let d : Rat := (r.monitor : Rat) / 8 - t
    let far := decide (25 < d) || decide (d < -25)
    let q : ProtSensor := { p with monitor := r.monitor,
                                   pairDiffers := if 80 < (r.e0 - r.e1).natAbs then p.pairDiffers + 1 else 0,
                                   fieldDiffers := if far then p.fieldDiffers + 1 else 0 }
    -- R400: the highest monitor may stand for every field
    let s1 := refreshSubstitutes (setProt s n q)
    match if p.failed then none else protFailure q with
    | none => .next s1
    | some cause =>
      let s2 := raise 19 (bytesLE 1 n) (setProt s1 n { q with failed := true })
      let s3 := if firmwareRuns s2 3 then
          ledgerAppend s2 (bytesLE 1 0x22 ++ bytesLE 1 n ++ bytesLE 1 cause ++ bytesLE 2 (ofInt 16 q.monitor) ++
            bytesLE 2 (eighths (some t)) ++ bytesLE 5 0 ++ bytesLE 4 (opsec s2)) 0
        else s2
      .next (checkVotes (refreshSubstitutes s3))
  else .next s

/-- `therm.status` (R407 to R413). -/
def thermStatus (s : State) : Nat :=
  b2n (throttling s) + 2 * b2n s.therm.holdEnd.isSome + 4 * b2n s.therm.shutdown + 8 * b2n s.therm.journalRecovered +
  16 * (voteByte s % 16) + 256 * (voteByte s / 16)

end Sys2Proof.Machine
end

