-- ==== Sys2Proof/Machine/Refs.lean ====
section
/-!
DEFINITION. The field-reference path (R15 to R18, R93 to R95, R121 to R128, R406, R407, R452): the accounted power,
the targets of k_T, k_B and k_C, the slew allowance with its order, the DAC codes and the residuals.
-/

namespace Sys2Proof.Machine

/-! ### Accounted power (R122 to R124) -/

/-- The square root of 2, to a part in 10^11; the sum it enters is accurate to 0.1 % only (R122). -/
def root2 : Rat := 141421356237 / 100000000000

/-- Σ 2^((A − 15)/2) × (w + d/4) / 1,024 / m from the sums over odd and even classes. -/
def accSum (a : Nat × Nat) : Rat := ((a.1 : Rat) / 128 + (a.2 : Rat) * root2 / 256) / 4096 / 32

/-- The contribution of one drive word to the sums: the odd-class or the even-class one; a pixel of a twin counts half. -/
def accWord (twinned : Bool) (w : Nat) : Nat × Nat :=
  let a := w / 4096
  let n := (w % 4096) * (if twinned then 1 else 2)
  if a % 2 = 1 then (n * 2 ^ ((a - 1) / 2), 0) else (0, n * 2 ^ (a / 2))

/-- I'(f) of R122 for a residual. -/
def accCurrent (s : State) (f : Nat) (rho : Rat) : Rat :=
  vget s.refs.ipk 120 f * vget s.refs.kT 1 f * s.scan.kC / rho

/-- Whether a field counts in the accounting (R28, R475): powered, and its half not darkened (mask of halves). -/
def accounted (s : State) (dark f : Nat) : Bool := fieldPowered s f && !bitAt dark (f / 16)

/-- Σ I_acc(f) in µA of the front frame. -/
def frontCurrent (s : State) : Rat :=
  (((List.range 32).filter (accounted s s.power.darkFront)).map (fun f =>
    accCurrent s f (vget s.refs.rho 1 f) * accSum (vget s.pipe.accFront (0, 0) f))).sum

/-- The accounted sums of the frame that the next swap lights: the Lantern frame while it is loaded and waits, the Lantern
beam while it stays lit, else the back frame of the host. -/
def nextAcc (s : State) : Vector (Nat × Nat) 32 :=
  if s.lantern.state = 1 then s.lantern.acc
  else if s.lantern.state = 2 ∨ (s.lantern.state = 3 ∧ !s.lantern.release) then s.pipe.accFront
  else s.pipe.accBack

/-- Σ I_acc(f) in µA of the back frame. -/
def backCurrent (s : State) : Rat :=
  (((List.range 32).filter (accounted s (if s.lantern.state = 1 then 0 else s.power.darkBack))).map (fun f =>
    accCurrent s f (vget s.refs.rhoNext 1 f) * accSum (vget (nextAcc s) (0, 0) f))).sum

/-- R28: the tiles of the halves that are ON; the latches of an unpowered half stay dark and are not loaded. -/
def poweredTiles (s : State) : TileSet :=
  (if domainOn s 5 then BitVec.ofNat 4096 (2 ^ 2048 - 1) else 0) ||| (if domainOn s 6 then ~~~ BitVec.ofNat 4096 (2 ^ 2048 - 1) else 0)

/-- The composed and drive frames of the frame being prepared are complete. -/
def storeComplete (s : State) : Bool := s.pipe.composeDirty == 0 && s.pipe.driveDirty == 0

/-- R13, R75: every dirty tile of the back frame is computed, loaded and echoed; for the Lantern beam, it is loaded (R502). -/
def backComplete (s : State) : Bool :=
  if s.lantern.state = 1 then s.lantern.loaded
  else if s.lantern.state = 2 ∨ (s.lantern.state = 3 ∧ !s.lantern.release) then storeComplete s && !s.lantern.copyDue
  else storeComplete s && ((s.pipe.loadDirty ||| s.pipe.reload) &&& poweredTiles s) == 0

/-- R123: P_acc of the front frame and the power the target of k_B takes, each within 0.1 % of its sum (R122): the error
is a free value within that bound. -/
def accountPower (s : State) : State :=
  let (d1, s1) := s.drawRat
  let (d2, s2) := s1.drawRat
  let near (d : Rat) : Rat := 1 + clampQ (-1 / 1000) (1 / 1000) d
  let front := s2.adc.vledMean * frontCurrent s2 / 1000 * near d1
  let back := s2.adc.vledMean * backCurrent s2 / 1000 * near d2
  { s2 with refs := { s2.refs with pFront := front, pAcc := if backComplete s2 ∧ front < back then back else front } }

/-- R123, R482, R483: the target of k_B. -/
def kbTarget (s : State) : Rat :=
  let budget := if s.power.anticipating then Nat.min (s.reg Reg.lightBudgetMw) (s.reg Reg.pwrVbatBudgetMw) else s.reg Reg.lightBudgetMw
  let t : Rat := if s.refs.pAcc ≤ (budget : Rat) then 1 else (budget : Rat) / s.refs.pAcc
  if s.power.fltIn ∧ s.real Reg.pwrFltKb < t then s.real Reg.pwrFltKb else t

/-! ### Derating (R406, R407) -/

/-- R406: wanted k_T of a field. -/
def wantedKt (s : State) (f : Nat) : Rat :=
  let a : Rat := (s.int 16 Reg.thermDerateStartC : Rat)
  let b : Rat := (s.int 16 Reg.thermDerateEndC : Rat)
  let t := tempOf s f
  if t < a then 1 else if b < t then 1 / 4 else 1 - 3 / 4 * (t - a) / (b - a)

/-- R407, R408: the value k_T of a field may move to in this scan, slew allowance apart. -/
def stepKt (s : State) (f : Nat) : Rat :=
  let k := vget s.refs.kT 1 f
  let w := wantedKt s f
  if w ≤ k then w
  else if s.therm.holdEnd.isSome then k
  else
    let up := k + (s.reg Reg.thermRecoverPctS : Rat) / 100 * (scanNs s : Rat) / 1000000000
    if up < w then up else w

/-! ### The references and the slew allowance (R15 to R18, R95) -/

/-- The factors of R15 and the reference gains. -/
structure RefParts where
  kC : Rat
  kT : Vector Rat 32
  kB : Rat
  ipk : Vector Rat 32
  gain : Vector Rat 32
  follow : Vector Rat 32
  deriving DecidableEq, Repr

/-- The factors in force. -/
def refParts (s : State) : RefParts := ⟨s.scan.kC, s.refs.kT, s.refs.kB, s.refs.ipk, s.refs.gain, s.refs.follow⟩

/-- R15: the product of the factors. -/
def wantedRef (p : RefParts) (f : Nat) : Rat := vget p.ipk 120 f * vget p.kT 1 f * p.kB * p.kC

/-- R18, R93, R128: the output set: the wanted value within 20 to 160 µA, or 20 µA while the field is held at code 0. -/
def outputRef (p : RefParts) (f : Nat) : Rat := 20 + vget p.follow 1 f * (clampQ 20 160 (wantedRef p f) - 20)

/-- The sum of all field references, each as its DAC sets it (R16, R450). -/
def sumRef (p : RefParts) : Rat := ((List.range 32).map (fun f => outputRef p f / vget p.gain 1 f)).sum

/-- A value part of the way to another. -/
def partWay (a b x : Rat) : Rat := a + x * (b - a)

/-- The absolute value of a rational. -/
def absQ (x : Rat) : Rat := if x < 0 then -x else x

/-- A number put into a rising list. -/
def putRising (x : Rat) : List Rat → List Rat
  | [] => [x]
  | y :: t => if x ≤ y then x :: y :: t else y :: putRising x t

/-- The shares of a step at which the sum may bend, rising, 1 last: where a field's wanted value crosses 20 or 160 µA. -/
def bendsOf (move : Rat → RefParts) : List Rat :=
  let a := move 0
  let b := move 1
  let at_ (f : Nat) (c : Rat) : List Rat :=
    let v := wantedRef a f
    let w := wantedRef b f
    if (v < c ∧ c < w) ∨ (w < c ∧ c < v) then [(c - v) / (w - v)] else []
  ((List.range 32).flatMap (fun f => at_ f 20 ++ at_ f 160)).foldr putRising [1]

/-- The share at which a sum first leaves the allowance: it runs straight between the shares listed, from the share `x` on. -/
def firstExit (sum : Rat → Rat) (base left x : Rat) : List Rat → Rat
  | [] => x
  | y :: t =>
    let a := sum x
    let b := sum y
    if absQ (b - base) ≤ left then firstExit sum base left y t
    else x + (y - x) * ((if base < b then base + left else base - left) - a) / (b - a)

/-- R95: one part takes its pending step, or as much of it as the allowance left admits: the same share for every field (log 33). -/
def takePart (move : Rat → RefParts) (left : Rat) : RefParts × Rat :=
  let sum (x : Rat) : Rat := sumRef (move x)
  let base := sum 0
  if absQ (sum 1 - base) ≤ left then (move 1, left - absQ (sum 1 - base))
  else
    let x := firstExit sum base left 0 (bendsOf move)
    (move x, left - absQ (sum x - base))

/-- R452: a part that takes its whole step or waits. Where several fields' trim steps wait, they are taken together or wait together
(DESIGN CHOICE, log 183). -/
def takeWhole (move : Rat → RefParts) (left : Rat) : RefParts × Rat :=
  let c := absQ (sumRef (move 1) - sumRef (move 0))
  if c ≤ left then (move 1, left - c) else (move 0, left)

/-- R128: a field is held at code 0 while its applied residual is below 1.0. -/
def wantedFollow (s : State) : Vector Rat 32 := Vector.ofFn (fun f => if vget s.refs.rho 1 f.val < 1 then 0 else 1)

/-- The five parts of R95 in their order, the relaxation of k_C with the first of them; then, within what they leave of the allowance (R16), the
fields that R128 holds or releases (DESIGN CHOICE, log 183). -/
def slewParts (s : State) (kC kB : Rat) (kT ipk gain : Vector Rat 32) : RefParts :=
  let p0 := refParts s
  let vec (a b : Vector Rat 32) (x : Rat) : Vector Rat 32 := Vector.ofFn (fun i => partWay (vget a 1 i.val) (vget b 1 i.val) x)
  let l0 := sumRef p0 * (s.reg Reg.lightSlewPct : Rat) / 100
  let (p1, l1) := takePart (fun x => { p0 with kC := partWay p0.kC kC x }) l0
  let (p2, l2) := takePart (fun x => { p1 with kT := vec p1.kT kT x }) l1
  let (p3, l3) := takePart (fun x => { p2 with kB := partWay p2.kB kB x }) l2
  let (p4, l4) := takePart (fun x => { p3 with ipk := vec p3.ipk ipk x }) l3
  let (p5, l5) := takeWhole (fun x => { p4 with gain := vec p4.gain gain x }) l4
  (takePart (fun x => { p5 with follow := vec p5.follow (wantedFollow s) x }) l5).1

/-- R94: the value of k_C that this scan boundary wants, relaxation included. -/
def relaxedKc (s : State) : Rat :=
  let k := s.scan.kCWant
  let m := s.reg Reg.scanKcRelaxMs
  let d : Rat := if m = 0 then 0 else absQ s.scan.kCRelax * (scanNs s : Rat) / ((m * 1000000 : Nat) : Rat)
  if d = 0 ∨ s.scan.kCFresh then k else if absQ (1 - k) ≤ d then 1 else if k < 1 then k + d else k - d

/-- E17 for fields whose k_T first falls below 1, and the fields still derated (R407). -/
def derateEvents (s : State) : State :=
  (List.range 32).foldl (fun st f =>
    let k := vget st.refs.kT 1 f
    if k < 1 then
      if st.therm.derating.getLsbD f then st
      else raise 17 (bytesLE 1 f ++ bytesLE 2 (roundQ (k * 65536)).toNat)
        { st with therm := { st.therm with derating := bvPut st.therm.derating f true } }
    else { st with therm := { st.therm with derating := bvPut st.therm.derating f false } }) s

/-- R124: E38 when k_B first falls below 1. -/
def budgetEvent (s : State) (target : Rat) : State :=
  if s.refs.kB < 1 then
    if s.refs.budgetRaised then s
    else raise 38 (bytesLE 4 (roundQ s.refs.pAcc).toNat ++ bytesLE 2 (Nat.min 65535 (roundQ (target * 65536)).toNat))
      { s with refs := { s.refs with budgetRaised := true } }
  else { s with refs := { s.refs with budgetRaised := false } }

/-- R15 to R18, R93, R95, R121 to R126: the references of this scan: FIELD_DAC_LOAD, LIGHT_BUDGET_UPDATE, KT_UPDATE and KC_RELAX. -/
def updateRefs (s : State) : State :=
  let s1 := accountPower s
  let target := kbTarget s1
  let kC := relaxedKc s1
  let kT : Vector Rat 32 := Vector.ofFn (fun f => stepKt s1 f.val)
  let ipk : Vector Rat 32 := Vector.ofFn (fun f => s1.real (Reg.driveIpkUa f.val))
  let p := slewParts s1 kC target kT ipk s1.refs.gainWant
  let out (f : Nat) : Rat := outputRef p f
  let code (f : Nat) : Nat := if wantedRef p f < 20 ∨ vget p.follow 1 f = 0 then 0 else dacCode (out f / vget p.gain 1 f)
  let changed : FieldSet := (List.range 32).foldl (fun b f => bvPut b f (code f != vget s1.refs.code 0 f)) 0
  let clip : FieldSet := (List.range 32).foldl (fun b f => bvPut b f (decide (160 < wantedRef p f))) 0
  let s2 := { s1 with
    refs := { s1.refs with kT := p.kT, kTWant := kT, kB := p.kB, ipk := p.ipk, gain := p.gain, follow := p.follow
                           iref := Vector.ofFn (fun f => out f.val), code := Vector.ofFn (fun f => code f.val)
                           codeChangedPrev := s1.refs.codeChanged, codeChanged := changed }
    scan := { s1.scan with kC := p.kC, kCWant := kC, kCRelax := if kC = 1 then 0 else s1.scan.kCRelax, kCFresh := false, clip := clip,
                           kCSlewing := s1.scan.kCSlewing && decide (p.kC ≠ kC) } }
  budgetEvent (derateEvents s2) target

/-- R127: the wanted residual of a field. -/
def wantedRho (s : State) (f : Nat) : Rat :=
  let w := wantedRef (refParts s) f
  if w < 20 then w / 20 else 1

/-- R127: at an admission point each residual that is off by 1/64 or more takes a step, and its field's tiles are dirty. -/
def residualUpdate (s : State) : State :=
  (List.range 32).foldl (fun st f =>
    let r := vget st.refs.rho 1 f
    let w := wantedRho st f
    if r / 64 ≤ absQ (w - r) ∨ (w = 1 ∧ r ≠ 1) then
      let lim : Rat := (st.reg Reg.lightSlewPct : Rat) / 100
      -- ρ_f stays above 0 (R122): a step that could reach 0 ends at 1/64 of it (DESIGN CHOICE, log 183)
      let lo := r * (1 - lim)
      let new := if lim = 1 ∧ w = 0 then r / 64 else clampQ lo (r * (1 + lim)) w
      { st with refs := { st.refs with rhoNext := vset st.refs.rhoNext f new },
                pipe := { st.pipe with driveDirty := st.pipe.driveDirty ||| tileSet (fieldTiles f) } }
    else st) s

/-- `light.power_mw` (R124). -/
def lightPower (s : State) : Nat := Nat.min 65535 (roundQ (s.refs.pFront * s.refs.kB)).toNat

end Sys2Proof.Machine
end

