-- ==== Sys2Proof/Machine/Drive.lean ====
section
/-!
DEFINITION. The drive pipeline, the compositor's tile and the latch loader (chapters 04 and 06, R282 to R288): the
calibration words, the fault map, the stages of R104, class choice, and the three commands that finish a tile.
-/

namespace Sys2Proof.Machine

/-! ### Calibration words and the fault map -/

/-- The binning word of a pixel (R440). -/
def binWord (s : State) (p : Nat) : Nat := mapGet (fun _ => binDefault) s.mram.binning p

/-- R441: the check word of a binning tile of `binDefault`. -/
def binCheckDefault : Nat := 719541355

/-- R441: the check word of a binning tile in the binning check array. -/
def binCheck (s : State) (t : Nat) : Nat := mapGet (fun _ => binCheckDefault) s.mram.binCheck t

/-- R102, R442: the calibration word of a binning word and an AGE. -/
def calFromBin (w age : Nat) : Nat :=
  bits w 31 20 * 2 ^ 20 + age * 4096 + bits w 19 16 * 256 + bits w 15 13 * 32 + bits w 12 10 * 4 + (w % 2) * 2

/-- Index of pixel `i` of tile `t`. -/
def tilePixelIndex (t i : Nat) : Nat := pixelOf (tilePixel t i).1 (tilePixel t i).2

/-- AGE of a pixel in the aging map. -/
def ageOf (s : State) (p : Nat) : Nat := field (bytesLE 8 (mapGet (fun _ => agingWord) s.mram.aging (p / 7))) (p % 7) 1

/-- R442: whether a binning tile passes its CRC-32C. -/
def binSound (s : State) (t : Nat) : Bool :=
  binCheck s t == crc32c ((List.range 256).flatMap (fun i => bytesLE 4 (binWord s (tilePixelIndex t i))))

/-- R442, R444: the 256 calibration words of a tile, from its binning words or, for a fallback tile, from the medians of the field record. -/
def mirrorWords (s : State) (t : Nat) : List Nat :=
  if s.cal.fallback.getLsbD t then
    let r := vget (fieldRecords s) State.fieldRecordReset (tileField t)
    (List.range 256).map (fun i => 2048 * 2 ^ 20 + ageOf s (tilePixelIndex t i) * 4096 + r.tccMed * 256 + r.chrMed * 32 + r.vfbMed * 4)
  else (List.range 256).map (fun i => let p := tilePixelIndex t i; calFromBin (binWord s p) (ageOf s p))

/-- A mirror tile written with its check word (R283). -/
def writeMirror (s : State) (t : Nat) : State :=
  let d := (mirrorWords s t).flatMap (bytesLE 4)
  writeTile s (.mirror t) d (crc32c d)

/-- R283: the check word of a mirror tile generated over its bytes as they stand. -/
def checkMirror (s : State) (t : Nat) : State := storeBytes s (TileRef.mirror t).side (bytesLE 4 (crc32c (tileData s (.mirror t))))

/-- The calibration word of pixel `i` of tile `t` in the mirror. -/
def calWord (s : State) (t i : Nat) : Nat := natLE (loadBytes s (mirrorBase + t * 1024 + 4 * i) 4)

/-- The fault map's channel (R150). -/
def faultMap (s : State) : Option Channel := s.channel (s.reg Reg.diagMapHandle)

/-- The fault-map code of pixel `i` of tile `t`; 0x1 where there is no map yet, 0x0 in a poisoned word (R152, R153). -/
def faultCode (s : State) (t i : Nat) : Nat :=
  match faultMap s with
  | none => 1
  | some c =>
    if chanPoisoned s c (t * 128 + i / 2) 1 then 0
    else
      let b := (chanBytes s c (t * 128 + i / 2) 1).headD 0
      if i % 2 = 0 then b.toNat % 16 else b.toNat / 16

/-- A fault-map code written; the other 15 codes of a poisoned word read 0x0 after it. -/
def setFaultCode (s : State) (t i code : Nat) : State :=
  match faultMap s with
  | none => s
  | some c =>
    let o := t * 128 + i / 2
    let b := ((chanRead s c o 1).headD 0).toNat
    chanModify s c o [BitVec.ofNat 8 (if i % 2 = 0 then (b / 16) * 16 + code % 16 else (code % 16) * 16 + b % 16)]

/-- Tile and place within the tile of a pixel index. -/
def pixelTile (p : Nat) : Nat := tileOf (p % 2048) (p / 2048)
/-- Place of a pixel within its tile. -/
def pixelPlace (p : Nat) : Nat := (p / 2048 % 16) * 16 + p % 16

/-- The fault-map code of a pixel. -/
def pixelCode (s : State) (p : Nat) : Nat := faultCode s (pixelTile p) (pixelPlace p)

/-- Codes that isolate (R150). -/
def codeIsolated (c : Nat) : Bool := [8, 9, 10, 11, 12, 14, 15].contains c

/-- The sinks whose cluster a twin lights, from its order on. -/
def twinnedSink (s : State) (k : Nat) : Bool := s.lamp.twins.any (fun t => t.sink == k)

/-- Whether a code fails a pixel: bit 3, but for 0xD on a cluster for which a twin is ordered, whose words the first frame
computed with the twin already holds (R162, R165; DEDUCED, log 37). -/
def codeFails (s : State) (p code : Nat) : Bool :=
  decide (8 ≤ code) && !(code == 0xD && twinnedSink s (sinkOf (p % 2048) (p / 2048)))

/-- R109: whether a pixel is failed: FDEF, or a failing code. -/
def failedAt (s : State) (t i : Nat) : Bool := bitAt (calWord s t i) 1 || codeFails s (tilePixelIndex t i) (faultCode s t i)

/-- R109 for a pixel whose calibration word is not read, by its fault-map code; its FDEF stands in the map as code 0xE (R153). -/
def pixelFailed (s : State) (p : Nat) : Bool := codeFails s p (pixelCode s p)

/-- The row and column neighbours of a pixel on the array with the direction from the pixel to them: 0 N, 1 E, 2 S, 3 W. -/
def pixelNeighbours (p : Nat) : List (Nat × Nat) :=
  let x := p % 2048
  let y := p / 2048
  (if y = 0 then [] else [(0, p - 2048)]) ++ (if x = 2047 then [] else [(1, p + 1)]) ++
  (if y = 511 then [] else [(2, p + 2048)]) ++ (if x = 0 then [] else [(3, p - 1)])

/-- R119: the tiles that change with a pixel's failure: its own, and the adjacent ones that hold a neighbour. -/
def failureTiles (p : Nat) : TileSet := tileSet (pixelTile p :: (pixelNeighbours p).map (fun q => pixelTile q.2))

/-- R119: the adjacent tiles that hold neighbours of the failed pixels of a tile. -/
def adjacentOfFailed (s : State) (t : Nat) : TileSet :=
  ((List.range 256).filter (fun i => (i % 16 = 0 ∨ i % 16 = 15 ∨ i < 16 ∨ 240 ≤ i) && pixelFailed s (tilePixelIndex t i))).foldl
    (fun acc i => acc ||| failureTiles (tilePixelIndex t i)) 0

/-- R509: whether the CRC-16 of a fault-list entry is sound; an entry that is not is skipped. -/
def entrySound (e : Nat × Nat) : Bool := crc16 (bytesLE 6 e.2) == e.2 / 2 ^ 48

/-- The code that the Ledger's fault list holds for a pixel or a sink (R509). -/
def listedCode (s : State) (sink : Bool) (u : Nat) : Option Nat :=
  (s.mram.ledger.faults.find? (fun e => e.2 % 2 ^ 24 == u && bitAt e.2 31 == sink && entrySound e)).map (fun e => bits e.2 27 24)

/-- R152, R153, R159: the code that the stock fault policy restores for a pixel: an isolated code holds whatever its sink's, a dead sink's 0xD
stands over a driven code, and over its sink's 0x4 the pixel's own (DESIGN CHOICE, log 206). -/
def restoredCode (s : State) (p : Nat) : Nat :=
  let k := sinkOf (p % 2048) (p / 2048)
  let own := listedCode s false p
  if (binWord s p) % 2 = 1 ∧ !(s.cal.fallback.getLsbD (pixelTile p)) then 0xE
  else if own.any codeIsolated then own.getD 1
  else if s.lamp.twins.any (fun t => t.switched && t.sink == k) then 5
  else match listedCode s true k, own with
    | some 0xD, _ => 0xD
    | _, some c => c
    | some c, none => c
    | none, none => 1

/-- R152: the words of a tile's fault-map block that are poisoned, rebuilt from the Ledger by the stock fault policy; R119 then
marks the tile dirty. -/
def rebuildFaultWords (s : State) (t : Nat) : State :=
  match faultMap s with
  | none => s
  | some c =>
    let bad := (List.range 16).filter (fun w => chanPoisoned s c (t * 128 + 8 * w) 8)
    if bad.isEmpty || !firmwareRuns s 3 then s
    else
      let s1 := bad.foldl (fun st w =>
        let codes := (List.range 16).map (fun k => restoredCode st (tilePixelIndex t (16 * w + k)))
        let bs := (List.range 8).map (fun j => BitVec.ofNat 8 (codes.getD (2 * j) 1 + 16 * codes.getD (2 * j + 1) 1))
        chanWrite st c (t * 128 + 8 * w) bs) s
      markInternal { s1 with lamp := { s1.lamp with mapRebuild := true } } (tileSet [t])

/-! ### Fixed-point stages (R104) -/

/-- Rounded to `frac` fractional bits, to nearest with ties away from zero, saturating at the largest value below `2^int`. -/
def fixed (int frac : Nat) (x : Rat) : Rat :=
  let n := roundQ (x * ((2 ^ frac : Nat) : Rat))
  let top : Int := (2 ^ (int + frac) : Nat) - 1
  (if top < n then (top : Rat) else (n : Rat)) / ((2 ^ frac : Nat) : Rat)

/-- R105: the reference temperature of a band. -/
def bandTemp : Nat → Rat
  | 0 => -25 | 1 => 40 | 2 => 72 | 3 => 105 | _ => 130

/-- R105: τ of a temperature-coefficient class in a band, not rounded before stage 2 (DESIGN CHOICE, log 184). -/
def tau (get : Nat → Nat) (tcc band : Nat) : Rat :=
  let c := toInt 16 (bits (get Reg.driveTempco) (16 * tcc + 15) (16 * tcc))
  clampQ (3 / 4) (5 / 4) (1 + (c : Rat) * (bandTemp band - 40) / 1048576)

/-- Stage 2: the correction of a calibration word. -/
def correction (get : Nat → Nat) (band w : Nat) : Rat :=
  let g : Rat := (bits w 31 20 : Rat) / 2048
  let a : Rat := 1 + (bits w 19 12 : Rat) / 512
  fixed 2 22 (g * a * tau get (bits w 11 8) band)

/-- What stage 1 to 3 give for a pixel of the tile: place, failed, Y, C, P, CHR. -/
structure PixelIn where
  failed : Bool
  y : Rat
  c : Rat
  p : Rat
  chr : Nat
  deriving DecidableEq, Repr

/-- Stages 1 to 3. -/
def pixelIn (s : State) (get : Nat → Nat) (band t : Nat) (lum : List Nat) (i : Nat) : PixelIn :=
  let w := calWord s t i
  let y : Rat := (lum.getD i 0 : Rat) / 65536
  let c := correction get band w
  ⟨failedAt s t i, y, c, fixed 2 22 (y * c), bits w 7 5⟩

/-- The four places of the blend cell of a place. -/
def cellOf (i : Nat) : List Nat :=
  let x := i % 16 - i % 16 % 2
  let y := i / 16 - i / 16 % 2
  [y * 16 + x, y * 16 + x + 1, (y + 1) * 16 + x, (y + 1) * 16 + x + 1]

/-- R107, stage 4: β of an operating pixel. -/
def beta (get : Nat → Nat) (px : Nat → PixelIn) (i : Nat) : Rat :=
  let ops := (cellOf i).filter (fun j => !(px j).failed)
  let ps := ops.map (fun j => (px j).p)
  let hi := ps.foldl (fun m x => if m < x then x else m) 0
  let lo := ps.foldl (fun m x => if x < m then x else m) hi
  let weight (c : Nat) : Rat := (bits (get Reg.driveChromaWeight) (16 * c + 15) (16 * c) : Rat) / 32768
  let S := ps.sum
  let Sw := (ops.map (fun j => weight (px j).chr * (px j).p)).sum
  if get Reg.driveChromaEnable ≠ 0 ∧ 2 ≤ ops.length ∧ hi - lo ≤ hi / 8 ∧ Sw ≠ 0 then
    fixed 1 15 (clampQ (88 / 100) (112 / 100) (weight (px i).chr * S / Sw))
  else 1

/-- R113: kernel weight of a direction in the slot that a field selects. -/
def kernelWeight (get : Nat → Nat) (f d : Nat) : Rat :=
  let k := bits (get Reg.driveCompSelect) (2 * f + 1) (2 * f)
  (bits (get (Reg.driveCompKernel k)) (8 * d + 7) (8 * d) : Rat) / 256

/-- The opposite of a direction. -/
def opposite (d : Nat) : Nat := (d + 2) % 4

/-- R110: the offers to a pixel: from each failed neighbour, k_δ × Y_f, before the pixel's own correction. `ring` gives Y of a
pixel of an adjacent tile, 0 where that tile failed its check (R101). -/
def offersTo (s : State) (get : Nat → Nat) (t : Nat) (px : Nat → PixelIn) (ring : Nat → Rat) (p : Nat) : Rat :=
  ((pixelNeighbours p).map (fun q =>
    let inside := pixelTile q.2 == t
    let failed := if inside then (px (pixelPlace q.2)).failed else pixelFailed s q.2
    if failed then
      let y := if inside then (px (pixelPlace q.2)).y else ring q.2
      kernelWeight get (fieldOf (q.2 % 2048) (q.2 / 2048)) (opposite q.1) * y
    else 0)).sum

/-- R116: the lowest class from a list whose quarter-LSB count fits, with its count. A ladder entry of 0 gives the count 0 and with it a dark word
(DESIGN CHOICE, log 184). -/
def chooseClass (get : Nat → Nat) (band : Nat) (x : Rat) : List Nat → Option (Nat × Nat)
  | [] => none
  | a :: as =>
    let eta := bits (get (Reg.driveClassLadder band)) (16 * a + 15) (16 * a)
    let n := (roundQ (x * 4096 * 32768 / (eta : Rat))).toNat
    if n ≤ 4095 then some (a, n) else chooseClass get band x as

/-- R116: the drive word of a demand, and whether the class choice clipped. -/
def driveWord (get : Nat → Nat) (band wDiag : Nat) (x : Rat) : Nat × Bool :=
  if x ≤ 0 then (0, false)
  else
    let aMin := if get Reg.drivePolicy = 1 then get Reg.driveDiagMinClass else 0
    let first := chooseClass get band x ((List.range 16).filter (fun a => decide (aMin ≤ a)))
    let (a, n, clip) := match first with
      | some (a, n) => (a, n, false)
      | none => (15, 4095, true)
    let (a, n, clip) :=
      if get Reg.drivePolicy = 1 ∧ 0 < aMin ∧ n / 4 < wDiag then
        match chooseClass get band x (List.range 16) with
        | some (b, m) => (b, m, clip)
        | none => (15, 4095, true)
      else (a, n, clip)
    (if n = 0 then 0 else a * 4096 + n, clip)

/-- What the pipeline computes for a tile: the words, the pixels cut (R115), the shortfalls (R112, R115), the scale applied at each pixel (R111). -/
structure TileOut where
  words : List Nat
  cuts : Nat
  short : Nat
  scales : List Rat
  deriving DecidableEq, Repr

/-- The slot of a composed tile that holds the content of the frame being prepared. -/
def composedNow (s : State) (t : Nat) : TileRef :=
  let k := tileSel s (.composed t 0)
  .composed t (if s.pipe.composed.getLsbD t then 1 - k else k)

/-- R119: scan period in ns, trim included, and Sweep length with which the frame being prepared runs. -/
def targetTiming (s : State) : Rat × Rat := let n := nextTiming s; ((trimmedNs s n.1 : Rat), (n.2.1 : Rat))

/-- The drive class ladder's full scale: 4,095 / 4,096. -/
def topDemand : Rat := 4095 / 4096

/-- R111: the headroom of a pixel whose own share is `own`, for the factor r_T × ρ_f. -/
def headroomOf (r own : Rat) : Rat := let h := topDemand / r - own; if h < 0 then 0 else h

/-- R111: the factor that scales the offers to a pixel. -/
def offerScale (offer room : Rat) : Rat := if offer ≤ room ∨ offer = 0 then 1 else room / offer

/-- R112: the scale last applied at a pixel, 1 where its tile is not yet computed (log 34). -/
def scaleAt (s : State) (p : Nat) : Rat := (s.pipe.scales.lookup p).getD 1

/-- R104 to R118: the whole tile. -/
def computeTile (s : State) (t : Nat) (lum : List Nat) (ring : Nat → Rat) : TileOut :=
  let get := frameCfg s
  let f := tileField t
  let band := bandOf s f
  let tm := targetTiming s
  let T := tm.1
  let sw := tm.2
  let rho := fixed 1 15 (vget s.refs.rhoNext 1 f)
  let rT := fixed 2 14 (duty T sw / dutyTwin T sw)
  let lsb := (T / 16 - sw - 20) / 1024
  let lsbT := (T / 32 - sw - 20) / 1024
  let ins := (List.range 256).map (pixelIn s get band t lum)
  let px (i : Nat) : PixelIn := ins.getD i ⟨false, 0, 0, 0, 0⟩
  let twins := twinSinks s
  let twinned (i : Nat) : Bool := twins.contains (sinkOf (tilePixel t i).1 (tilePixel t i).2)
  let comp := get Reg.driveCompEnable != 0
  let powered := domainOn s (fieldDomain f)
  let betas := (List.range 256).map (beta get px)
  let bt (i : Nat) : Rat := betas.getD i 1
  let r (i : Nat) : Rat := if twinned i then rT else 1
  let top := topDemand
  -- R111: headroom, offers and the scale of each pixel
  let offer (i : Nat) : Rat := if comp && powered && !(px i).failed then offersTo s get t px ring (tilePixelIndex t i) * (px i).c else 0
  let scales := (List.range 256).map (fun i => offerScale (offer i) (headroomOf (r i * rho) ((px i).p * bt i)))
  let sc (i : Nat) : Rat := scales.getD i 1
  -- stages 8 and 9
  let out := (List.range 256).map (fun i =>
    if (px i).failed then (0, false, false)
    else
      let e := fixed 2 22 (offer i * sc i)
      let d := ((px i).p * bt i + e) * r i * rho
      let cut := decide (top < d)
      let x := if cut then top else fixed 2 22 d
      let wDiag := (160 / (if twinned i then lsbT else lsb) : Rat).ceil.toNat
      let w := driveWord get band wDiag x
      let sat : Rat := (s.reg Reg.driveCompSatPct : Rat) / 100
      -- what a cut leaves: the held X, or what class 15 gives at its full count
      let left := if w.2 then topDemand * (bits (get (Reg.driveClassLadder band)) 255 240 : Rat) / 32768 else x
      (w.1, cut || w.2, twinned i && (cut || w.2) && decide ((1 - sat) * d < d - left)))
  -- R112: the failed pixels of the tile, a neighbour outside it with the scale last applied there (log 34)
  let shortFailed := if comp then (List.range 256).countP (fun i =>
      if (px i).failed then
        let fI := fieldOf (tilePixel t i).1 (tilePixel t i).2
        let nb := pixelNeighbours (tilePixelIndex t i)
        let share (q : Nat × Nat) : Rat :=
          let k := kernelWeight get fI q.1 * (px i).y
          if pixelTile q.2 = t then (if (px (pixelPlace q.2)).failed || !powered then 0 else k * sc (pixelPlace q.2))
          else if pixelFailed s q.2 || !domainOn s (fieldDomain (fieldOf (q.2 % 2048) (q.2 / 2048))) then 0 else k * scaleAt s q.2
        let want := ((List.range 4).map (fun d => kernelWeight get fI d * (px i).y)).sum
        decide ((nb.map share).sum < want * (s.reg Reg.driveCompSatPct : Rat) / 100)
      else false) else 0
  ⟨out.map (·.1), out.countP (fun o => o.2.1), shortFailed + out.countP (fun o => o.2.2), scales⟩

/-! ### Notices on Q6 (R161) -/

/-- A notice for the stock fault policy: on Q6, with a token of the class of the unit that posts it (R391), or in the buffer of 64, or lost. -/
def postNotice (s : State) (c kind : Nat) (body : List Byte) : State :=
  if !qFull s 6 && s.lamp.noticeBuf.isEmpty then owe c 1 none (qPut s 6 (qEntry s 6 kind body))
  else if s.lamp.noticeBuf.length < 64 then
    { s with lamp := { s.lamp with noticeBuf := s.lamp.noticeBuf ++ [bytesLE 2 kind ++ body] } }
  else s.bump Reg.diagNoticeLost

/-- The buffered notices that Q6 has space for. -/
def drainNotices : Nat → State → State
  | 0, s => s
  | n + 1, s =>
    match s.lamp.noticeBuf with
    | [] => s
    | b :: t => if qFull s 6 then s
      else drainNotices n (owe 5 1 none (qPut { s with lamp := { s.lamp with noticeBuf := t } } 6 (qEntry s 6 (field b 0 2) (b.drop 2))))

/-! ### Tiles of the frame being prepared -/

/-- The back slot of a composed tile. -/
def composedBack (s : State) (t : Nat) : TileRef := .composed t (1 - tileSel s (.composed t 0))

/-- The slot of a drive tile that holds the words of the frame being prepared. -/
def driveNow (s : State) (t : Nat) : TileRef :=
  let k := tileSel s (.drive t 0)
  .drive t (if s.pipe.driven.getLsbD t then 1 - k else k)

/-- The back slot of a drive tile. -/
def driveBack (s : State) (t : Nat) : TileRef := .drive t (1 - tileSel s (.drive t 0))

/-- R122: the sums of a tile's words, twinned clusters as given. -/
def tileAcc (twins : List Nat) (t : Nat) (l : List Nat) : Nat × Nat :=
  (l.zip (List.range 256)).foldl (fun a p =>
    let c := accWord (twins.contains (sinkOf (tilePixel t p.2).1 (tilePixel t p.2).2)) p.1
    (a.1 + c.1, a.2 + c.2)) (0, 0)

/-- The sums of a field with what a tile gives replaced. -/
def replaceAcc (v : Vector (Nat × Nat) 32) (t : Nat) (o n : Nat × Nat) : Vector (Nat × Nat) 32 :=
  let a := vget v (0, 0) (tileField t)
  vset v (tileField t) (a.1 + n.1 - o.1, a.2 + n.2 - o.2)

/-- R122: the accounted sums of the back frame with a tile's words replaced. -/
def accountTile (s : State) (t : Nat) (old new : List Nat) : State :=
  let twins := twinSinks s
  { s with pipe := { s.pipe with accBack := replaceAcc s.pipe.accBack t (tileAcc twins t old) (tileAcc twins t new) } }

/-- R286: a held drive tile: its selector stays, and the latch loader treats it as not dirty; latches already loaded for it are loaded again from what
stays, which the accounting takes back. -/
def holdDriven (s : State) (t : Nat) : State :=
  let s := if s.pipe.driven.getLsbD t then accountTile s t (halves (tileData s (driveNow s t))) (halves (tileData s (driveFront s t))) else s
  let p := s.pipe
  let off (x : TileSet) : TileSet := bvPut x t false
  { s with pipe := { p with driveDirty := off p.driveDirty, driven := off p.driven, loadDirty := off p.loadDirty,
                            reload := if p.loadedNew.getLsbD t then bvPut p.reload t true else p.reload } }

/-- R286: a held composed tile: its selector stays, and the units after it treat the tile as not dirty. -/
def holdComposed (s : State) (t : Nat) : State :=
  let h := holdDriven s t
  { h with pipe := { h.pipe with composeDirty := bvPut h.pipe.composeDirty t false, composed := bvPut h.pipe.composed t false } }

/-! ### COMPOSE_TILE_DONE -/

/-- Tokens of a list of source tiles. -/
def sourceTokens (l : List (Nat × Channel × Nat)) : Nat := (l.map (fun q => ceilDiv (formatBytes q.2.1.format) 64)).sum

/-- R285: the slot used of one source tile, verified as the compositor reads it in Toll class `c`. -/
def chooseSource (s : State) (c : Nat) (q : Nat × Channel × Nat) (again : List Nat) : Option Nat × State :=
  let st := sideState s (.surface q.2.1 q.2.2 0)
  let sel := st % 2
  let pend := (st / 2) % 2
  let k := (sel + pend) % 2
  let (ok, s1) := verifyAs s 1 c (.surface q.2.1 q.2.2 k) again
  if ok then (some k, s1)
  else
    let other := TileRef.surface q.2.1 q.2.2 (1 - k)
    if pend = 1 ∨ !bitAt st 2 then
      let (stands, s2) := verifyAs (owe c (ceilDiv other.size 64) none s1) 1 c other again
      (if stands then some (1 - k) else none, s2)
    else (none, s1)

/-- The slots of all source tiles of a tile; none when one leaves the tile held. -/
def chooseSources (c : Nat) (again : List Nat) : List (Nat × Channel × Nat) → State → Option SlotChoice × State
  | [], s => (some [], s)
  | q :: t, s =>
    let (k, s1) := chooseSource s c q again
    let (r, s2) := chooseSources c again t s1
    match k, r with
    | some k, some l => (some (((q.1, q.2.2), k) :: l), s2)
    | _, _ => (none, s2)

/-- R194: a Glaze tile rebuilt from the span; none when a source leaves it unbuilt. -/
def rebuildGlaze (s : State) (t : Nat) (spanLayers : List (Nat × LayerCfg)) (again : List Nat) : Bool × State :=
  let o := s.reg Reg.compOrientation
  let (c, s1) := chooseSources 2 again (sourceTiles s o spanLayers t) s
  match c with
  | none => (false, s1)
  | some choice =>
    let bg := frameCfg s1 Reg.compBackground
    let d := halfBytes (composeLayers s1 o choice spanLayers t (fun _ => bg))
    let s2 := writeTile s1 (.glaze t) d (crc32c d)
    (true, { s2 with pipe := { s2.pipe with glazeDirty := bvPut s2.pipe.glazeDirty t false, glazeWhole := bvPut s2.pipe.glazeWhole t false } })

/-- R198: the tile written with its new check word, and the drive pipeline told (R119). -/
def finishComposed (s : State) (t : Nat) (d : List Byte) : State :=
  let s1 := writeTile s (composedBack s t) d (crc32c d)
  let p := s1.pipe
  { s1 with pipe := { p with composed := bvPut p.composed t true, composeDirty := bvPut p.composeDirty t false,
                             driveDirty := bvPut p.driveDirty t true ||| adjacentOfFailed s1 t } }

/-- COMPOSE_TILE_DONE (R22, R194, R198, R285): the compositor composes one dirty tile, when CMP is ON and its classes have served its accesses. A tile that cannot
be composed is held; in the recomposition of an orientation change, which lights no mix of two orientations (R41), it is composed dark (DESIGN
CHOICE, log 185). -/
def execComposeTileDone (t : Fin 4096) (o : TileObs) (s : State) : Host.Outcome State Fault Refusal :=
  if domainOn s 3 && s.pipe.composeDirty.getLsbD t then
    let get := frameCfg s
    let ori := s.reg Reg.compOrientation
    let layers := drawn s get
    let n := glazeSpan s get
    let lower := layers.take n
    let upper := layers.drop n
    let glaze := decide (0 < n)
    let rebuild := glaze && s.pipe.glazeDirty.getLsbD t
    let src := sourceTiles s ori upper t
    let c1 := sourceTokens src + 8 + (if glaze then 8 else 0)
    let c2 := if rebuild then sourceTokens (sourceTiles s ori lower t) + 8 else 0
    let s0 := drawPart (drawPart s 2 (.glaze t) c2) 1 (.compose t) c1
    if drawnOf s0 2 (.glaze t) < c2 ∨ drawnOf s0 1 (.compose t) < c1 then .next s0
    else
      let s1 := eccFindAll (closePart (closePart s0 (.glaze t)) (.compose t)) o.ecc
      let (gOk, s2) := if rebuild then rebuildGlaze s1 t lower o.transient else (true, s1)
      let (ok, s2v) := if glaze && gOk then verifyTile s2 1 (.glaze t) o.transient else (true, s2)
      -- a Glaze tile that fails its check is rebuilt from the span before use
      let (gOk, s3) := if ok then (gOk, s2v)
        else rebuildGlaze (owe 2 (sourceTokens (sourceTiles s ori lower t) + 8) none s2v) t lower o.transient
      let (choice, s4) := chooseSources 1 o.transient src s3
      match gOk, choice with
      | true, some ch =>
        let bg := get Reg.compBackground
        let base := halves (tileData s4 (.glaze t))
        let start (i : Nat) : Nat := if glaze then base.getD i 0 else bg
        .next (finishComposed s4 t (halfBytes (composeLayers s4 ori ch upper t start)))
      | _, _ => .next (if s4.pipe.turning then finishComposed s4 t (halfBytes (List.replicate 256 0)) else holdComposed s4 t)
  else .next s

/-! ### DRIVE_TILE_DONE -/

/-- The adjacent tiles whose composed values the ring of a tile needs: those with a failed pixel beside the tile. -/
def ringTiles (s : State) (t : Nat) : List Nat :=
  ((List.range 256).flatMap (fun i =>
    ((pixelNeighbours (tilePixelIndex t i)).filter (fun q => pixelTile q.2 != t && pixelFailed s q.2)).map (fun q => pixelTile q.2))).eraseDups

/-- R101, R285: the ring tiles verified; those that fail share nothing, are held, and are marked for recomposition. One that is still to be composed
in this frame, or that an orientation change is recomposing, is not held. -/
def verifyRing (tr : List Nat) : List Nat → State → List Nat × State
  | [], s => ([], s)
  | r :: rs, s =>
    let (ok, s1) := verifyTile s 2 (composedNow s r) tr
    let s2 := if ok then s1 else
      let h := if s1.pipe.turning || s1.pipe.composeDirty.getLsbD r then s1 else holdDriven s1 r
      { h with pipe := { h.pipe with nextCompose := bvPut h.pipe.nextCompose r true } }
    let (l, s3) := verifyRing tr rs s2
    (if ok then r :: l else l, s3)

/-- R112, R115: E53 at most once per tile and frame. -/
def saturated (s : State) (t n : Nat) : State :=
  if n = 0 then s
  else
    let s1 := s.setReg Reg.driveCompSatCount ((s.reg Reg.driveCompSatCount + n) % 4294967296)
    if s1.pipe.satRaised.getLsbD t then s1
    else raise 53 (bytesLE 2 t) { s1 with pipe := { s1.pipe with satRaised := bvPut s1.pipe.satRaised t true } }

/-- The words of a tile written as its drive tile of the frame being prepared, with their check word. -/
def putDriven (s : State) (t : Nat) (words : List Nat) : State :=
  let s1 := accountTile s t (halves (tileData s (driveNow s t))) words
  let d := halfBytes words
  let s2 := writeTile s1 (driveBack s1 t) d (crc32c d)
  let p := s2.pipe
  { s2 with pipe := { p with driven := bvPut p.driven t true, driveDirty := bvPut p.driveDirty t false, loadDirty := bvPut p.loadDirty t true } }

/-- R286, R41: a drive tile that cannot be computed: held, or dark in the recomposition of an orientation change (log 185). -/
def failDriven (s : State) (t : Nat) : State := if s.pipe.turning then putDriven s t (List.replicate 256 0) else holdDriven s t

/-- R112: the scales that a tile's computation has applied. -/
def keepScales (s : State) (t : Nat) (l : List Rat) : State :=
  let new := ((List.range 256).map (tilePixelIndex t)).zip l |>.filter (fun q => q.2 != 1)
  { s with pipe := { s.pipe with scales := s.pipe.scales.filter (fun q => pixelTile q.1 != t) ++ new } }

/-- R104 to R122: the drive tile computed from verified inputs and written with its check word. -/
def finishDriven (s : State) (t : Nat) (tr : List Nat) : State :=
  let ringOk := verifyRing tr (ringTiles s t) s
  let s1 := ringOk.2
  let lum := halves (tileData s1 (composedNow s1 t))
  let ring (p : Nat) : Rat :=
    if ringOk.1.contains (pixelTile p) then
      ((halves (tileData s1 (composedNow s1 (pixelTile p)))).getD (pixelPlace p) 0 : Rat) / 65536
    else 0
  let out := computeTile s1 t lum ring
  let s2 := keepScales (putDriven s1 t out.words) t out.scales
  saturated (s2.setReg Reg.driveClipCount ((s2.reg Reg.driveClipCount + out.cuts) % 4294967296)) t out.short

/-- DRIVE_TILE_DONE (R100 to R122, R285): the drive pipeline computes one dirty tile, when CMP and DRV are ON, the mirror is
complete (R443), the composed tile is not itself dirty, and C3 holds the tokens. -/
def execDriveTileDone (t : Fin 4096) (o : TileObs) (s : State) : Host.Outcome State Fault Refusal :=
  if domainOn s 3 && domainOn s 4 && s.cal.mirrorReady && s.pipe.driveDirty.getLsbD t && !s.pipe.composeDirty.getLsbD t then
    let (ok, s1) := charge s 3 (.drive t) (34 + (ringTiles s t).length)
    if !ok then .next s1
    else
      let s2 := eccFindAll s1 o.ecc
      let (cOk, s3) := verifyTile s2 2 (composedNow s2 t) o.transient
      if !cOk then
        let s4 := failDriven s3 t
        .next { s4 with pipe := { s4.pipe with nextCompose := bvPut s4.pipe.nextCompose t true } }
      else
        let (mOk, s4) := verifyTile s3 2 (.mirror t) o.transient
        if !mOk then
          let s5 := failDriven s4 t
          -- the stock firmware rewrites the mirror tile from MRAM
          .next (if firmwareRuns s5 3 then markInternal (writeMirror s5 t) (tileSet [t.val]) else s5)
        else .next (rebuildFaultWords (finishDriven s4 t o.transient) t)
  else .next s

/-! ### LATCH_LOAD_TILE_DONE -/

/-- A latch of the front or the back set of a pixel's stagger group. -/
def latchGet (s : State) (front : Bool) (p : Nat) : Nat :=
  let g := (vget s.scan.groups (State.groupReset 0) (groupOf (p % 2048) (p / 2048))).front
  mapGet (fun _ => 0) (if g == front then s.latches.b else s.latches.a) p

/-- A latch written. -/
def latchPut (s : State) (front : Bool) (p w : Nat) : State :=
  let g := (vget s.scan.groups (State.groupReset 0) (groupOf (p % 2048) (p / 2048))).front
  if g == front then { s with latches := { s.latches with b := mapPut (fun _ => 0) p w s.latches.b } }
  else { s with latches := { s.latches with a := mapPut (fun _ => 0) p w s.latches.a } }

/-- Whether every stagger group has swapped since the last global swap (R74). -/
def allSwapped (s : State) : Bool := s.scan.groups.toList.all (fun g => !g.swapPending)

/-- R28, R475: the halves whose latches are loaded: their array domain is ON. -/
def loadableTile (s : State) (t : Nat) : Bool := domainOn s (fieldDomain (tileField t))

/-- R132: the latch of a pixel whose echo differs as a unit writes it, with its event and its notice. -/
def echoFault (unit : Nat) (s : State) (t : Nat) (e : EchoFault) : State :=
  if pixelTile e.pixel ≠ t ∨ !e.second ∨ codeIsolated (pixelCode s e.pixel) then s
  else
    let (v, s1) := if e.zeroOk then (0, s) else s.drawNat
    let s2 := latchPut s1 false e.pixel (v % 65536)
    let k := (unit, (TileRef.drive t 0).place, t)
    let s3 := if s2.pipe.failRaised.contains k then s2
      else raise 114 (bytesLE 1 unit ++ bytesLE 2 t ++ bytesLE 1 1 ++ bytesLE 3 e.pixel)
        { s2 with pipe := { s2.pipe with failRaised := s2.pipe.failRaised ++ [k] } }
    postNotice s3 4 0x0603 (bytesLE 3 e.pixel ++ bytesLE 1 (b2n e.zeroOk))

/-- The words of a tile written into the back latches; a darkened half and an isolated pixel take 0x0000. -/
def loadWords (s : State) (t : Nat) (words : List Nat) : State :=
  let dark := bitAt s.power.darkBack (tileField t / 16)
  (List.range 256).foldl (fun st i =>
    latchPut st false (tilePixelIndex t i) (if dark || codeIsolated (faultCode st t i) then 0 else words.getD i 0)) s

/-- R285, unit 3: the front latches copied into the back latches. -/
def copyFront (s : State) (t : Nat) : State :=
  (List.range 256).foldl (fun st i => latchPut st false (tilePixelIndex t i) (latchGet st true (tilePixelIndex t i))) s

/-- The tile counts as loaded. -/
def tileLoaded (s : State) (t : Nat) : State :=
  let p := s.pipe
  { s with pipe := { p with loadDirty := bvPut p.loadDirty t false, reload := bvPut p.reload t false,
                            loadedNew := if p.loadDirty.getLsbD t then bvPut p.loadedNew t true else p.loadedNew } }

/-- R131: the CRC-32C over the 256 words read back, compared with the tile's check word; after R132 the latches hold what was read back last. -/
def readBack (s : State) (t check : Nat) : State :=
  let c := crc32c (halfBytes ((List.range 256).map (fun i => latchGet s false (tilePixelIndex t i))))
  { s with pipe := { s.pipe with echoCrc := c, echoOk := c == check } }

/-- R503, R504: whether the latch loader runs: no Lantern beam is loaded or lit, or its release has a commit to load. -/
def hostLoads (s : State) : Bool := s.lantern.state == 0 || s.lantern.release

/-- LATCH_LOAD_TILE_DONE (R74, R75, R131, R132, R285): the latch loader loads and echoes one tile, when CMP, DRV and the tile's
half are ON, the clusters have swapped, the tile is not still to be composed or driven, the Lantern beam does not hold the back
latches (R503), and C4 holds the tokens. -/
def execLatchLoadTileDone (t : Fin 4096) (o : TileObs) (echo : List EchoFault) (s : State) : Host.Outcome State Fault Refusal :=
  let p := s.pipe
  if domainOn s 3 && domainOn s 4 && loadableTile s t && allSwapped s && (p.loadDirty.getLsbD t || p.reload.getLsbD t) &&
      !p.driveDirty.getLsbD t && !p.composeDirty.getLsbD t && hostLoads s then
    let (ok, s1) := charge s 4 (.load t) 8
    if !ok then .next s1
    else
      let s2 := eccFindAll s1 o.ecc
      let r := driveNow s2 t
      -- a half to be dark takes 0x0000, whatever stands in pixel store (R475, R486)
      let dark := bitAt s2.power.darkBack (tileField t / 16)
      let (rOk, s3) := if dark then (true, s2) else verifyTile s2 3 r o.transient
      let s4 := if dark then loadWords s3 t [] else if rOk then loadWords s3 t (halves (tileData s3 r))
        else
          let f := driveFront s3 t
          let s5 :=
            -- what stands is of the old orientation, which is not lit beside the new one (R41, log 185)
            if s3.pipe.turning then loadWords s3 t []
            else
              let (stands, s3b) := acceptTile s3 3 f o.transient
              if stands then loadWords s3b t (halves (tileData s3b f)) else copyFront s3b t
          postNotice s5 4 0x0604 (bytesLE 2 t.val)
      .next (tileLoaded (readBack (echo.foldl (fun st e => echoFault 3 st t e) s4) t (tileCheck s4 (driveNow s4 t))) t)
  else .next s

end Sys2Proof.Machine
end

