-- ==== Sys2Proof/Machine/Lamp.lean ====
section
/-!
DEFINITION. The Lamplighter (chapter 05): what a phase slot samples, the judgement of a whole scan with its suppression
and its mass guard, the evidence words, the response to a confirmed fault, coverage, and the conduction samples of the light check
(R298, R299).
-/

namespace Sys2Proof.Machine

/-! ### Where the scan stands -/

/-- A stagger group. -/
def grpOf (s : State) (g : Nat) : GroupScan := vget s.scan.groups (State.groupReset 0) g

/-- The stagger group of a pixel index. -/
def pixelGroup (p : Nat) : Nat := groupOf (p % 2048) (p / 2048)

/-- The sink of a pixel index. -/
def pixelSink (p : Nat) : Nat := sinkOf (p % 2048) (p / 2048)

/-- The pixel phase that a group lights at its position (R63). -/
def groupPhase (g : GroupScan) : Option Nat := g.pos.map (fun k => bits g.order (8 * k + 3) (8 * k))

/-- R99: a group at the start of global slot `j`: the next position of its own scan, or a new own scan at its OFFSET under the tables in force. -/
def advanceGroup (j order stagger : Nat) (g : GroupScan) : GroupScan :=
  match g.pos with
  | some k =>
    if k < 15 then { g with pos := some (k + 1) }
    else if j = stagger % 16 then { g with pos := some 0, order := order, stagger := stagger, count := (g.count + 1) % 4 }
    else { g with pos := none }
  | none =>
    if j = stagger % 16 then { g with pos := some 0, order := order, stagger := stagger, count := (g.count + 1) % 4 } else g

/-- Front latch words that are not 0x0000: pixel and word. -/
def frontWords (s : State) : NatMap :=
  s.latches.a.filter (fun e => !(grpOf s (pixelGroup e.1)).front) ++ s.latches.b.filter (fun e => (grpOf s (pixelGroup e.1)).front)

/-- Whether a pixel is the one its cluster lights in this slot. -/
def inSlot (s : State) (p : Nat) : Bool := groupPhase (grpOf s (pixelGroup p)) == some (phaseOf (p % 2048) (p / 2048))

/-- R67: e of a pixel with dither value d. -/
def ditherE (s : State) (p d : Nat) : Nat :=
  let q := ((grpOf s (pixelGroup p)).count + p % 2 + 2 * (p / 2048 % 2)) % 4
  if q < d then 1 else 0

/-- w + e of a pixel's word in its running own scan. -/
def onWidth (s : State) (p w : Nat) : Nat := bits w 11 2 + ditherE s p (w % 4)

/-- Whether a pixel belongs to a switched twin. -/
def inTwin (s : State) (p : Nat) : Bool :=
  s.lamp.twins.any (fun t => t.switched && (t.sink == pixelSink p || t.partner == pixelSink p))

/-- The PWM LSB of a pixel in ns (R55, R114). -/
def pixelLsb (s : State) (p : Nat) : Rat :=
  let T : Rat := (scanNs s : Rat)
  if inTwin s p then (T / 32 - s.scan.sweepNs - 20) / 1024 else (T / 16 - s.scan.sweepNs - 20) / 1024

/-- R165: where the PWM window of a pixel begins, in ns after that of the slot: in a twin, the twinned cluster has the second half slot. -/
def pwmStart (s : State) (p : Nat) : Rat :=
  if s.lamp.twins.any (fun t => t.switched && t.sink == pixelSink p) then (scanNs s : Rat) / 32 else 0

/-- R62, R66, R165: the pulse of a pixel in its PWM window of 1,024 LSB, in ns from the start of the slot's window: at the start of its own
window, or with ALIGN at its end. -/
def pulseOf (s : State) (p w : Nat) : Nat × Rat × Rat :=
  let lsb := pixelLsb s p
  let on := lsb * (onWidth s p w : Rat)
  let t := pwmStart s p
  if bitAt (grpOf s (pixelGroup p)).stagger 4 then (p, t + 1024 * lsb - on, t + 1024 * lsb) else (p, t, t + on)

/-- The pulses of the pixels that the present slot lights. -/
def slotPulses (s : State) : List (Nat × Rat × Rat) :=
  ((frontWords s).filter (fun e => inSlot s e.1 && decide (0 < onWidth s e.1 e.2) && fieldPowered s (pixelField e.1))).map (fun e => pulseOf s e.1 e.2)

/-- R137: whether a pixel with a front word is lit-checkable in its running own scan. -/
def litCheckable (s : State) (p w : Nat) : Bool :=
  decide (s.reg Reg.driveDiagMinClass ≤ w / 4096) && decide (160 ≤ pixelLsb s p * (onWidth s p w : Rat))

/-- R28, R149, R171, R472: whether the Lamplighter samples a field: CMP must be ON, or it has nowhere to record a sample. -/
def sampledField (s : State) (f : Nat) : Bool := s.lamp.enabled && domainOn s 3 && fieldPowered s f

/-- R149: whether it samples a pixel. -/
def sampledPixel (s : State) (p : Nat) : Bool := sampledField s (pixelField p) && decide (pixelCode s p < 8)

/-! ### Evidence words (R146, R147) -/

/-- Classes by their fault-map codes: sub-index of `diag.confirm` (from 0) of a class under test. -/
def confirmIndex (susp : Nat) (subth : Bool) : Nat :=
  match susp with
  | 8 => 0 | 9 => 1 | 0xA => 2 | 3 => if subth then 8 else 3 | 0xD => 4 | 4 => 5 | 0xB => 6 | _ => 7

/-- R147: whether a class is already confirmed for a unit. BLUE-LEAK is under test as 0xC, and known by either of its codes, whatever
diag.blue_leak_isolate holds (DESIGN CHOICE, log 205). -/
def knownClass (s : State) (sink : Bool) (u cls : Nat) : Bool :=
  if sink then (sinkPixels u).any (fun p => pixelCode s p == cls)
  else pixelCode s u == cls || (cls == 0xC && pixelCode s u == 6)

/-- An evidence word of R146. -/
def evWord (susp fails taken : Nat) (subth : Bool) : Nat := susp * 4096 + fails * 256 + taken * 16 + (if subth then 8 else 0)

/-- What a sample does to an evidence word. -/
inductive EvEffect where
  | none
  | put (w : Nat)
  | confirmed (cls : Nat)
  deriving DecidableEq, Repr

/-- R147: one sample against a word. A failing vote for a class other than the one under test counts as a pass whatever its method; under
SUSP 0x3 only the samples of the method that SUBTH names count (log 35). -/
def evStep (s : State) (x : Sample) : EvEffect :=
  let w := evGet s x.sink x.unit
  let susp := w / 4096
  let fails := bits w 11 8
  let taken := bits w 7 4
  let subth := bitAt w 3
  let bySub := x.method == 1
  let judge (cls f t : Nat) (sb : Bool) : EvEffect :=
    let mn := s.reg (Reg.diagConfirm (confirmIndex cls sb))
    if mn / 16 ≤ f then .confirmed cls else if mn % 16 ≤ t then .put 0 else .put (evWord cls f t sb)
  if susp = 0 then
    if x.vote = 0 ∨ knownClass s x.sink x.unit x.vote then .none
    else judge x.vote 1 1 (x.vote == 3 && bySub)
  else if susp = 3 then
    if !x.tests.contains 3 then .none
    else if bySub == subth then
      judge 3 (fails + (if x.vote = 3 then 1 else 0)) (taken + 1) subth
    else if x.vote = 3 ∧ !knownClass s x.sink x.unit 3 then judge 3 1 1 bySub
    else .none
  else if x.tests.contains susp ∨ x.vote ≠ 0 then
    judge susp (fails + (if x.vote = susp then 1 else 0)) (taken + 1) false
  else .none

/-- R156: a failing vote that would start or extend evidence. -/
def evVoteCounts (s : State) (x : Sample) : Bool :=
  x.vote != 0 && (let susp := evGet s x.sink x.unit / 4096
    if susp = 0 ∨ (susp = 3 ∧ x.vote = 3) then !knownClass s x.sink x.unit x.vote else susp == x.vote)

/-! ### The response to a confirmed fault (R159, R160) -/

/-- Whether the array lights the Lantern beam. -/
def lanternLit (s : State) : Bool := s.lantern.state == 2 || s.lantern.state == 3

/-- R119: a fault-map code that changes between driven and failed marks its tiles dirty as internal work. -/
def changeCode (s : State) (p code : Nat) : State :=
  let old := pixelCode s p
  let s1 := setFaultCode s (pixelTile p) (pixelPlace p) code
  if decide (8 ≤ old) == decide (8 ≤ code) then s1 else markInternal s1 (failureTiles p)

/-- R160: the isolation switch of a pixel opened. -/
def openSwitch (s : State) (p : Nat) : State :=
  { s with latches := { s.latches with
      isolated := if s.latches.isolated.contains p then s.latches.isolated
        else s.latches.isolated.filter (· < p) ++ [p] ++ s.latches.isolated.filter (p < ·)
      isolateWait := s.latches.isolateWait.filter (· != p), isolateNext := s.latches.isolateNext.filter (· != p) } }

/-- R160: when the switch of a pixel with an isolated code opens. -/
def isolate (s : State) (p code : Nat) : State :=
  if !codeIsolated code then s
  else if code = 0xA ∨ lanternLit s then openSwitch s p
  else if s.latches.isolated.contains p then s
  else { s with latches := { s.latches with isolateWait := s.latches.isolateWait.filter (· != p) ++ [p] } }

/-- What a notice on Q6 carries of its instant for the record of R169: band, mean VLED in mV, frame.count (DESIGN CHOICE, log 36). -/
def noticeTail (s : State) (f : Nat) : List Byte :=
  bytesLE 1 (bandOf s f) ++ bytesLE 2 (Nat.min 65535 (roundQ (s.adc.vledMean * 1000)).toNat) ++ bytesLE 4 s.scan.frameCount

/-- A pixel fault (R159, steps 1 to 4): one write of class C5 to the fault map. Its notice on Q6 has the KIND 0x0601 (DESIGN CHOICE, log 36). -/
def confirmPixel (s : State) (p cls method : Nat) : State :=
  let code := if cls = 0xC ∧ !s.flag Reg.diagBlueLeakIsolate then 6 else cls
  let s1 := isolate (changeCode (owe 5 1 none s) p code) p code
  let s2 := evPut s1 false p 0
  let s3 := postNotice s2 5 0x0601 (bytesLE 3 p ++ bytesLE 1 code ++ bytesLE 1 method ++ noticeTail s2 (pixelField p))
  let s4 := raise 48 (bytesLE 3 p ++ bytesLE 1 code ++ bytesLE 1 method) s3
  if cls = 0xC then raise 52 (bytesLE 3 p) s4 else s4

/-- R159: the code of a sink fault written into the pixels of its cluster that no isolated code holds. -/
def writeCluster (s : State) (k code : Nat) : State :=
  (sinkPixels k).foldl (fun st p => let c := pixelCode st p; if c < 7 ∨ c = 0xD then changeCode st p code else st) s

/-- R159: a sink fault: the codes of a cluster lie in one block of the map, one write of class C5. Its notice has the KIND 0x0602 (DESIGN
CHOICE, log 36). -/
def confirmSink (s : State) (k cls method : Nat) : State :=
  let s1 := evPut (writeCluster (owe 5 1 none s) k cls) true k 0
  let s2 := { s1 with lamp := { s1.lamp with flagged := s1.lamp.flagged.filter (fun q => q.1 != k) } }
  let s3 := postNotice s2 5 0x0602 (bytesLE 3 k ++ bytesLE 1 cls ++ bytesLE 1 method ++ noticeTail s2 (sinkField k))
  raise 49 (bytesLE 2 k ++ bytesLE 1 cls ++ bytesLE 1 0) s3

/-- R151, R158: a discarded sub-threshold or lit Vf window sample does not count for coverage. -/
def loseSample (x : Sample) (s : State) : State :=
  if x.method = 1 then onLitScan s (fun l => { l with lostSubth := l.lostSubth ++ [x.unit] })
  else if x.method = 2 then onLitScan s (fun l => { l with window := l.window.filter (· != x.unit) })
  else s

/-- R147, R158, R159: a sample recorded: one evidence read and one write of class C5, or discarded and counted. -/
def recordSample (s : State) (x : Sample) : State :=
  match evStep s x with
  | .none => s
  | e =>
    -- a sample does not wait for tokens (R158)
    if tokensLeft s 5 < 2 then loseSample x ((stallClass s 5).bump Reg.diagTollDiscards)
    else
      let s1 := spend s 5 2
      match e with
      | .none => s1
      | .put w => evPut s1 x.sink x.unit w
      | .confirmed cls => if x.sink then confirmSink s1 x.unit cls x.method else confirmPixel s1 x.unit cls x.method

/-! ### What a slot samples -/

/-- A level that a list of observations gives for a pixel. -/
def levelOf (nominal : Nat) (l : List Probe) (p : Nat) : Nat := ((l.find? (fun x => x.pixel == p)).map (·.level)).getD nominal

/-- The median of some levels. -/
def medianOf (l : List Nat) : Rat :=
  let t := l.mergeSort (fun a b => decide (a ≤ b))
  let n := t.length
  if n = 0 then 0 else if n % 2 = 1 then (t.getD (n / 2) 0 : Rat) else ((t.getD (n / 2 - 1) 0 + t.getD (n / 2) 0 : Nat) : Rat) / 2

/-- The outgoing pixels of a field: those that its clusters lit in the slot before, by the groups as they stood. -/
def outgoingOf (gs : Vector GroupScan 16) (f : Nat) : List Nat :=
  (List.range 32).flatMap (fun cy => (List.range 64).filterMap (fun cx =>
    let x := (f % 8) * 256 + 4 * cx
    let y := (f / 8) * 128 + 4 * cy
    (groupPhase (vget gs (State.groupReset 0) (groupOf x y))).map (fun ph => pixelOf (x + ph % 4) (y + ph / 4))))

/-- The fields that an observation or an evidence word touches; in every other field each sample reads the median. -/
def touchedFields (s : State) (l : List Probe) : List Nat :=
  ((l.map (fun x => pixelField x.pixel)) ++ ((evUnits s).filter (fun u => !u.1)).map (fun u => pixelField u.2)).eraseDups

/-- R138, R142: ratios of the samples of a field to their median; a median of 0 gives every one the ratio 1 (DESIGN CHOICE, log 204: the
spec states no ratio there). -/
def ratiosOf (nominal : Nat) (l : List Probe) (ps : List Nat) : List (Nat × Rat) :=
  let m := medianOf (ps.map (levelOf nominal l))
  ps.map (fun p => (p, if m = 0 then 1 else (levelOf nominal l p : Rat) / m))

/-- The bit of a stagger group and a pixel phase in `Lamp.probed`. -/
def probeBit (g ph : Nat) : BitVec 256 := BitVec.ofNat 256 (2 ^ (16 * g + ph))

/-- The groups and phases outgoing in a Sweep (R136). -/
def outgoingBits (gs : Vector GroupScan 16) : BitVec 256 :=
  (List.range 16).foldl (fun a g => match groupPhase (vget gs (State.groupReset 0) g) with
    | some ph => a ||| probeBit g ph
    | none => a) 0

/-- Whether this probe scan sampled a pixel. -/
def probedPixel (s : State) (p : Nat) : Bool :=
  sampledPixel s p && s.lamp.probed.getLsbD (16 * pixelGroup p + phaseOf (p % 2048) (p / 2048))

/-- R138: the dark probe of the outgoing pixels; the ratios are judged at the end of the scan (R139). -/
def darkProbe (gs : Vector GroupScan 16) (o : SlotObs) (s : State) : State :=
  let fs := (touchedFields s o.probes).filter (sampledField s)
  let rs := fs.flatMap (fun f => (ratiosOf o.nominal o.probes ((outgoingOf gs f).filter (sampledPixel s))).filter
    (fun r => r.2 != 1 || evGet s false r.1 != 0))
  { s with lamp := { s.lamp with ratios := s.lamp.ratios ++ rs, probed := s.lamp.probed ||| outgoingBits gs } }

/-- R142: the vote of a sub-threshold ratio. -/
def subthVote (s : State) (r : Rat) : Nat :=
  let t := s.reg Reg.diagSubthThr
  if r < 2 / 100 then 8 else if 50 < r then 9
  else if r < (t % 65536 : Nat) / (4096 : Rat) ∨ (t / 65536 : Nat) / (4096 : Rat) < r then 3 else 0

/-- R142: the sub-threshold probe of the outgoing pixels that were not lit-checkable, outside the Frost band. -/
def subthProbe (gs : Vector GroupScan 16) (o : SlotObs) (s : State) : State :=
  let fs := (touchedFields s o.subth).filter (fun f => sampledField s f && bandOf s f != 0)
  let xs := fs.flatMap (fun f =>
    let ps := (outgoingOf gs f).filter (fun p => sampledPixel s p && !s.lamp.slotCheckable.contains p)
    (ratiosOf o.subNominal o.subth ps).filterMap (fun r =>
      let v := subthVote s r.2
      if v = 0 ∧ evGet s false r.1 = 0 then none else some (⟨false, r.1, [8, 9, 3], v, 1⟩ : Sample)))
  { s with lamp := { s.lamp with samples := s.lamp.samples ++ xs } }

/-- The lit-checkable pixels of this slot, with their words. -/
def checkableNow (s : State) : NatMap := (frontWords s).filter (fun e => inSlot s e.1 && litCheckable s e.1 e.2)

/-- R141: OFFSET and HALF of a class in a band, in mV. -/
def vfWindow (s : State) (band a : Nat) : Int × Int :=
  let c := bits (s.reg (Reg.diagVfWindow band)) (16 * a + 15) (16 * a)
  (4 * toInt 8 (c % 256), 4 * ((c / 256 : Nat) : Int))

/-- VFB of a pixel, from its calibration word. -/
def pixelVfb (s : State) (p : Nat) : Nat := bits (calWord s (pixelTile p) (pixelPlace p)) 4 2

/-- R141: the centre of a pixel's window, in mV. -/
def vfCentre (s : State) (p a : Nat) : Int := 2775 + 50 * (pixelVfb s p : Int) + (vfWindow s (bandOf s (pixelField p)) a).1

/-- R141: whether the pixel's cluster has the comparators in this lit scan. -/
def attached (s : State) (p : Nat) : Bool :=
  (p % 2048 / 4) % 2 + 2 * ((p / 2048 / 4) % 2) == (scanN s / probeP s) % 4

/-- A forward voltage to the comparison's 10 mV (R141): the nearest multiple, a half upwards (DESIGN CHOICE, log 204). -/
def tenMv (v : Int) : Int := 10 * ((v + 5) / 10)

/-- R456: one Vf value of a field's aging cursor, or its end. -/
def agingSample (p : Nat) (v : Option Int) (w : Nat) (s : State) : State :=
  let f := pixelField p
  let next (st : State) : State :=
    { st with cal := { st.cal with agingVals := vset st.cal.agingVals f [],
                                   agingCursor := vset st.cal.agingCursor f ((vget st.cal.agingCursor 0 f + 1) % 32768) } }
  let s := { s with lamp := { s.lamp with agingTaken := bvPut s.lamp.agingTaken f true } }
  match v with
  | none => next s
  | some x =>
    let l := vget s.cal.agingVals [] f ++ [x]
    if l.length < 5 then { s with cal := { s.cal with agingVals := vset s.cal.agingVals f l } }
    else
      let med := (l.mergeSort (fun a b => decide (a ≤ b))).getD 2 0
      let body := bytesLE 3 p ++ bytesLE 1 (w / 4096) ++ bytesLE 2 (ofInt 16 med) ++ bytesLE 2 (eighths (some (tempOf s f))) ++
        bytesLE 1 (bandOf s f)
      next (postEntry s 7 5 0x0701 body)

/-- The pixel of a field at an aging cursor, in row-major order. -/
def cursorPixel (f c : Nat) : Nat := pixelOf ((f % 8) * 256 + c % 256) ((f / 8) * 128 + c / 256)

/-- R456: whether the cursor skips a pixel. -/
def cursorSkips (s : State) (p : Nat) : Bool :=
  let c := pixelCode s p
  decide (8 ≤ c) || c == 4 || bitAt (binWord s p) 2 || s.cal.fallback.getLsbD (pixelTile p) ||
    !(bandOf s (pixelField p) == 1 || bandOf s (pixelField p) == 2)

/-- R456: the cursor moved past the pixels it skips, at most once around its field. -/
def seekCursor (s : State) (f : Nat) : Nat → Nat → Nat
  | 0, c => c
  | n + 1, c => if cursorSkips s (cursorPixel f c) then seekCursor s f n ((c + 1) % 32768) else c

/-- R456: the cursor of a field moved past the pixels it skips; the values held are those of the pixel it leaves. -/
def settleCursor (s : State) (f : Nat) : State :=
  let c := vget s.cal.agingCursor 0 f
  let c1 := seekCursor s f 32768 c
  if c1 = c then s
  else { s with cal := { s.cal with agingCursor := vset s.cal.agingCursor f c1, agingVals := vset s.cal.agingVals f [] } }

/-- R456: the aging cursors whose pixel is lit in this slot and attached, each once in a lit scan. -/
def agingSlot (o : SlotObs) (s : State) : State :=
  let now := checkableNow s
  (List.range 32).foldl (fun st f =>
    if !(bandOf st f == 1 || bandOf st f == 2) || !sampledField st f || st.lamp.agingTaken.getLsbD f then st
    else
      let st1 := settleCursor st f
      let p := cursorPixel f (vget st1.cal.agingCursor 0 f)
      if !inSlot st1 p || !attached st1 p || cursorSkips st1 p then st1
      else match now.lookup p with
        | some w => agingSample p (some (((o.lit.find? (fun l => l.pixel == p)).map (·.vf)).getD (vfCentre st1 p (w / 4096)))) w st1
        | none => agingSample p none 0 st1) s

/-- R140, R141: the lit check of this slot. -/
def litCheck (o : SlotObs) (s : State) : State :=
  let ps := (checkableNow s).filter (fun e => sampledPixel s e.1)
  let windowed := ps.filter (fun e => attached s e.1 && decide ((vfWindow s (bandOf s (pixelField e.1)) (e.2 / 4096)).2 ≠ 0))
  let weak := s.reg Reg.diagSinkWeakPct
  let currents := ps.filterMap (fun e =>
    (o.lit.find? (fun l => l.pixel == e.1)).bind (fun l =>
      if l.pct < 10 then some (e.1, true) else if l.pct < weak then some (e.1, false) else none))
  let votes := windowed.filterMap (fun e =>
    let a := e.2 / 4096
    let half := (vfWindow s (bandOf s (pixelField e.1)) a).2
    let d := match o.lit.find? (fun l => l.pixel == e.1) with
      | some l => tenMv l.vf - vfCentre s e.1 a
      | none => 0
    let v := if half < d ∨ d < -half then 3 else 0
    if v = 0 ∧ evGet s false e.1 = 0 then none else some (⟨false, e.1, [3], v, 2⟩ : Sample))
  let s1 := onLitScan s (fun l => { l with checkable := l.checkable ++ ps.map (·.1), window := l.window ++ windowed.map (·.1) })
  agingSlot o { s1 with lamp := { s1.lamp with samples := s1.lamp.samples ++ votes, currents := s1.lamp.currents ++ currents } }

/-- 2^(k/2) for the classes of R144. -/
def rootTwoPow (a : Nat) : Rat := if a % 2 = 1 then ((2 ^ (a / 2) : Nat) : Rat) / 128 else ((2 ^ (a / 2) : Nat) : Rat) * root2 / 256

/-- R144: k(dx, dy), row by row without (0, 0). -/
def coupling (s : State) (dx dy : Int) : Rat :=
  let i := (7 * (dy + 3) + (dx + 3)).toNat
  let j := if 24 < i then i - 1 else i
  (s.regHalf Reg.diagListenCoupling j : Rat) / 65536

/-- Charge that pixel `j` with word `w` gives a listener, in fC (µA × ns). -/
def listenTerm (s : State) (p j w : Nat) : Rat :=
  -- (dx, dy) is the place of the lit pixel less the listener's (DESIGN CHOICE, log 187)
  let dx : Int := (j % 2048 : Nat) - ((p % 2048 : Nat) : Int)
  let dy : Int := (j / 2048 : Nat) - ((p / 2048 : Nat) : Int)
  coupling s dx dy * rootTwoPow (w / 4096) * vget s.refs.iref 120 (pixelField j) * (onWidth s j w : Rat) * pixelLsb s j

/-- Whether two pixels lie within 3 pitches in both axes. -/
def near3 (p q : Nat) : Bool :=
  p != q && decide ((p % 2048) ≤ (q % 2048) + 3) && decide ((q % 2048) ≤ (p % 2048) + 3) &&
    decide (p / 2048 ≤ q / 2048 + 3) && decide (q / 2048 ≤ p / 2048 + 3)

/-- The pixels within 3 pitches of a pixel. -/
def around3 (p : Nat) : List Nat :=
  (List.range 7).flatMap (fun j => (List.range 7).filterMap (fun i =>
    let x := p % 2048 + i
    let y := p / 2048 + j
    if 3 ≤ x ∧ x < 2051 ∧ 3 ≤ y ∧ y < 515 ∧ (i, j) ≠ (3, 3) then some (pixelOf (x - 3) (y - 3)) else none))

/-- R143, R144: the listening samples of this slot, summed by target. A listener that the observation does not name measures the
charge expected; a level is a charge in 1/1,000 fC. -/
def listenSlot (o : SlotObs) (s : State) : State :=
  let lit := (frontWords s).filter (fun e => inSlot s e.1 && decide (0 < onWidth s e.1 e.2))
  let sub := (scanN s / (4 * probeP s)) % 16
  let ears := ((lit.flatMap (fun e => around3 e.1)).eraseDups).filter (fun p =>
    inSlot s p && pixelTile p % 16 == sub && latchGet s true p == 0 && sampledPixel s p)
  let share : Rat := (s.regHalf Reg.diagListenThr 2 : Rat) / 16384
  let found := ears.flatMap (fun p =>
    let ts := (lit.filter (fun e => near3 p e.1)).map (fun e => (e.1, listenTerm s p e.1 e.2))
    let total : Rat := (ts.map (fun t => t.2)).sum
    (ts.filter (fun t => sampledPixel s t.1 && decide (0 < total) && decide (share * total ≤ t.2))).map (fun t =>
      (t.1, (match o.listen.find? (fun x => x.pixel == p) with | some x => (x.level : Rat) / 1000 | none => total), total)))
  { s with lamp := { s.lamp with listen := s.lamp.listen ++ found } }

/-! ### The light check's samples (R298, R299) -/

/-- The rectangles whose mode includes LIGHT. -/
def lightRects (s : State) : List Nat := (List.range 16).filter (fun r => decide (2 ≤ s.reg (Reg.rectMode r)))

/-- R293: the tiles of a rectangle in row-major order. -/
def rectTileList (s : State) (r : Nat) : List Nat :=
  (List.range (s.reg (Reg.rectTilesH r))).flatMap (fun j => (List.range (s.reg (Reg.rectTilesW r))).map (fun i =>
    (s.reg (Reg.rectTileY r) + j) * 128 + s.reg (Reg.rectTileX r) + i))

/-- R299: in a sampled own scan, the sensed bit against the commanded one for the pixels lit in this slot. What was sensed is what the
front latch commands, but for the pixels that the observation names. -/
def lightSlot (o : SlotObs) (s : State) : State :=
  let bad := s.lamp.lightRef.flatMap (fun t => (List.range 256).filterMap (fun i =>
    let p := tilePixelIndex t.1 i
    if inSlot s p && bitAt s.lamp.lightGroups (pixelGroup p) then
      let commanded := decide (0 < onWidth s p (t.2.getD i 0))
      let latched := decide (0 < onWidth s p (latchGet s true p))
      let sensed := if o.conductDiff.contains p then !latched else latched
      if sensed == commanded then none else some p
    else none))
  { s with lamp := { s.lamp with conducted := s.lamp.conducted ++ bad } }

/-- The groups whose sampled own scan runs after the groups advanced: it begins in the last scan of a frame (R299) and ends with it. -/
def lightGroupsNext (s : State) : Nat :=
  ((List.range 16).map (fun g =>
    let now := grpOf s g
    let began := now.pos == some 0
    let runs := bitAt s.lamp.lightGroups g && now.pos.isSome && !began
    b2n (runs || (began && s.lamp.lightScan)) * 2 ^ g)).sum

/-! ### Suppression (R155) -/

/-- R155: the supply conditions that hold, as in E51: [0] VLED, [1] VSUP or FLT_IN, [2] LOADSTEP. -/
def supplyMask (s : State) : Nat :=
  b2n (s.power.headroomLow || s.power.dip.active) + 2 * b2n (s.power.uvWarn || s.power.fltIn) +
  4 * b2n (s.power.loadstep || (match s.lamp.loadstepFell with
    | some t => decide (s.scan.scanStart < t + s.reg Reg.diagLoadstepHoldUs * 1000)
    | none => false))

/-- The conditions of this instant added to those of the scan. -/
def noteSupply (s : State) : State :=
  { s with lamp := { s.lamp with supplyBad := s.lamp.supplyBad ||| supplyMask s,
                                 lightBad := s.lamp.lightBad || ((s.lamp.lightScan || s.lamp.lightGroups != 0) && supplyMask s != 0) } }

/-! ### PHASE_SLOT -/

/-- PHASE_SLOT (R54 to R67, R136 to R144, R298, R456, R478): slot j begins; the clusters move to their next position, and the Lamplighter takes
the samples of its kind of scan. -/
def execPhaseSlot (o : SlotObs) (s : State) : Host.Outcome State Fault Refusal :=
  if s.scan.running && decide (s.scan.slot < 16) && decide (0 < s.scan.scanInFrame) then
    let j := s.scan.slot
    let s0 := s.atLeast (s.scan.scanStart + j * scanNs s / 16)
    let old := s0.scan.groups
    let order := s0.reg Reg.scanPhaseOrder
    let groups : Vector GroupScan 16 := Vector.ofFn (fun g =>
      advanceGroup j order (bits (s0.reg Reg.scanStagger) (8 * g.val + 4) (8 * g.val)) (vget old (State.groupReset 0) g.val))
    let kind := scanKind s0
    -- the Sweep: samples of the outgoing pixels
    let s1 := match kind with
      | .probe => darkProbe old o s0
      | .lit => subthProbe old o s0
      | _ => s0
    let s2 := noteSupply { s1 with scan := { s1.scan with slot := j + 1, groups := groups, sweepLevel := sweepLevels s1 } }
    let s3 := { s2 with scan := { s2.scan with pulses := slotPulses s2 }, lamp := { s2.lamp with slotCheckable := (checkableNow s2).map (·.1), lightGroups := lightGroupsNext s2 } }
    -- the PWM window
    let s4 := match kind with
      | .lit => litCheck o s3
      | .listening => listenSlot o s3
      | _ => s3
    let s5 := { s4 with power := { s4.power with litSeen := s4.power.litSeen || !s4.scan.pulses.isEmpty } }
    .next (if s5.lamp.lightGroups = 0 then s5 else lightSlot o s5)
  else .next s

/-! ### The judgement of a scan (R139, R140, R144, R147, R155 to R158) -/

/-- R138, R139: the samples of a probe scan from its ratios. -/
def probeSamples (s : State) : List Sample :=
  let t (i : Nat) : Rat := (s.regHalf Reg.diagProbeThr i : Rat) / 16384
  let sinks := ((s.lamp.ratios.map (fun r => pixelSink r.1)).eraseDups)
  let stuck := sinks.filterMap (fun k =>
    let ps := (sinkPixels k).filter (probedPixel s)
    let rho (p : Nat) : Rat := (s.lamp.ratios.lookup p).getD 1
    let low := ps.countP (fun p => decide (t 2 ≤ rho p) && decide (rho p < t 3))
    let high := ps.filter (fun p => decide (t 3 ≤ rho p) && decide (rho p < t 0))
    match high with
    | [q] => if 14 ≤ low then some (k, q) else none
    | _ => none)
  -- thresholds that make a vote of the median itself leave no sample without one
  let all := decide (t 0 ≤ 1) || decide (1 ≤ t 1)
  let rs := if all then ((List.range 1048576).filter (probedPixel s)).map (fun p => (p, (s.lamp.ratios.lookup p).getD 1)) else s.lamp.ratios
  let votes := rs.map (fun r =>
    let v := match stuck.lookup (pixelSink r.1) with
      | some q => if q = r.1 then 0xA else 0
      | none => if t 0 ≤ r.2 then 8 else if r.2 ≤ t 1 then 9 else 0
    (⟨false, r.1, [8, 9, 0xA], v, 0⟩ : Sample))
  -- a stuck pixel whose own ratio is nominal has no entry among the ratios
  votes ++ (stuck.filter (fun k => (rs.lookup k.2).isNone)).map (fun k => ⟨false, k.2, [8, 9, 0xA], 0xA, 0⟩)

/-- The twin that a sink serves as partner, once switched. -/
def partnerTwin (s : State) (k : Nat) : Option Twin := s.lamp.twins.find? (fun t => t.partner == k && t.switched)

/-- Whether a sink is the idle sink of a switched twin (R165). -/
def idleSink (s : State) (k : Nat) : Bool := s.lamp.twins.any (fun t => t.sink == k && t.switched)

/-- R140: the sink that drives a pixel. -/
def drivingSink (s : State) (p : Nat) : Nat :=
  match s.lamp.twins.find? (fun t => t.sink == pixelSink p && t.switched) with
  | some t => t.partner
  | none => pixelSink p

/-- R140: the samples of a lit scan from the current results, and the sinks to measure first. -/
def litSamples (s : State) : List Sample × List Nat :=
  let checkable := match s.lamp.litScans with | l :: _ => l.checkable | [] => []
  let sinks := (checkable.map (drivingSink s)).eraseDups
  let per := sinks.map (fun k =>
    let ps := checkable.filter (fun p => drivingSink s p == k)
    let cs := s.lamp.currents.filter (fun c => drivingSink s c.1 == k)
    match cs with
    | [] => (if 2 ≤ ps.length ∧ evGet s true k ≠ 0 then [(⟨true, k, [0xD, 4], 0, 3⟩ : Sample)] else [], [])
    | [c] =>
      if 2 ≤ ps.length then
        ((⟨false, c.1, [8], 8, 3⟩ : Sample) :: (if evGet s true k ≠ 0 then [⟨true, k, [0xD, 4], 0, 3⟩] else []), [])
      else ([], [k])
    | _ => ([(⟨true, k, [0xD, 4], if cs.any (·.2) then 0xD else 4, 3⟩ : Sample)], []))
  let votes := per.flatMap (·.1)
  -- R147: the compliance of every other pixel under suspicion of OPEN is a sample too, whatever its current says of its sink
  let passes := (checkable.filter (fun p => evGet s false p / 4096 == 8 && !(votes.any (fun x => !x.sink && x.unit == p)))).map
    (fun p => (⟨false, p, [8], 0, 3⟩ : Sample))
  (votes ++ passes, per.flatMap (·.2))

/-- R144: the votes of a listening scan, and the targets that got one. -/
def listenSamples (s : State) : List Sample × List Nat :=
  let t (i : Nat) : Rat := (s.regHalf Reg.diagListenThr i : Rat) / 16384
  let targets := (s.lamp.listen.map (·.1)).eraseDups
  (targets.filterMap (fun p =>
    let l := s.lamp.listen.filter (fun x => x.1 == p)
    let r := (l.map (fun x => x.2.1)).sum / (l.map (fun x => x.2.2)).sum
    let v := if r ≤ t 0 then 0xB else if t 1 ≤ r then 0xC else 0
    if v = 0 ∧ evGet s false p = 0 then none else some (⟨false, p, [0xB, 0xC], v, 4⟩ : Sample)), targets)

/-- The field of a sample's unit. -/
def sampleField (x : Sample) : Nat := if x.sink then sinkField x.unit else pixelField x.unit

/-- R156: the guard after a probe scan with `votes` votes. -/
def massGuard (s : State) (tripped : Bool) (votes : Nat) : State :=
  if scanKind s ≠ .probe then s
  else if 0 < s.lamp.disarmed then
    if 1 < s.lamp.disarmed then { s with lamp := { s.lamp with disarmed := s.lamp.disarmed - 1 } } else s
  else if tripped && s.lamp.supplyBad == 0 then
    if s.lamp.massTrips + 1 < 8 then { s with lamp := { s.lamp with massTrips := s.lamp.massTrips + 1 } }
    else raise 54 (bytesLE 2 (Nat.min votes 65535)) { s with lamp := { s.lamp with massTrips := 0, disarmed := 65 } }
  else { s with lamp := { s.lamp with massTrips := 0 } }

/-- R140: sinks flagged for priority measurement, N measurements each. -/
def flagSinks (s : State) (l : List Nat) : State :=
  let n := s.reg (Reg.diagConfirm 5) % 16
  { s with lamp := { s.lamp with flagged := s.lamp.flagged ++ (l.filter (fun k => (s.lamp.flagged.lookup k).isNone)).map (fun k => (k, n)) } }

/-- The scan's own records cleared for the next scan. -/
def clearScan (s : State) : State :=
  { s with lamp := { s.lamp with samples := [], ratios := [], currents := [], probed := 0, listen := [], supplyBad := 0, afterTiming := false, bandFields := 0,
                                 agingTaken := 0 } }

/-- R139 to R158: the samples of the scan that ends are judged together. DESIGN CHOICE (log 205): a target counts as listened to (R145) though
the Toll then discards its sample. DESIGN CHOICE (log 206): SUPPRESSING ends with the first scan of a sampling kind that is not discarded,
whether or not it took a sample. -/
def judgeScan (s : State) : State :=
  let s := noteSupply s
  let kind := scanKind s
  let lit := if kind = .lit then litSamples s else ([], [])
  let lis := if kind = .listening then listenSamples s else ([], [])
  let all := s.lamp.samples ++ (if kind = .probe then probeSamples s else []) ++ lit.1 ++ lis.1
  let bands := s.lamp.bandFields
  let kept := if s.lamp.afterTiming then [] else all.filter (fun x => !bands.getLsbD (sampleField x))
  let votes := kept.countP (evVoteCounts s)
  let tripped := decide (s.lamp.disarmed = 0) && decide (s.reg Reg.diagMassLimit < votes)
  let mask := s.lamp.supplyBad + 8 * b2n tripped
  let s1 := massGuard s tripped votes
  let s2 := if mask ≠ 0 ∨ s.lamp.afterTiming ∨ bands ≠ 0 then s1.bump Reg.diagSuppressedScans else s1
  let drop (l : LitScan) : LitScan := { l with noSubth := BitVec.allOnes 32, checkable := [], window := [], lostSubth := [] }
  if mask ≠ 0 then
    let s3 := if s2.lamp.episode || s2.lamp.suppressRaised then s2
      else raise 51 (bytesLE 1 mask) { s2 with lamp := { s2.lamp with suppressRaised := true } }
    let s4 := if kind = .lit then onLitScan s3 drop else s3
    clearScan { s4 with lamp := { s4.lamp with episode := true } }
  else if s.lamp.afterTiming then clearScan (if kind = .lit then onLitScan s2 drop else s2)
  else
    let s3 := if kind = .plain then s2 else { s2 with lamp := { s2.lamp with episode := false } }
    let s4 := if bands = 0 then s3 else onLitScan s3 (fun l =>
      if kind = .lit then { l with noSubth := l.noSubth ||| bands, checkable := l.checkable.filter (fun p => !bands.getLsbD (pixelField p)),
                                   window := l.window.filter (fun p => !bands.getLsbD (pixelField p)) } else l)
    let s5 := kept.foldl recordSample s4
    let s6 := flagSinks s5 (lit.2.filter (fun k => !bands.getLsbD (sinkField k)))
    clearScan { s6 with lamp := { s6.lamp with listened := (s6.lamp.listened ++ lis.2.filter (fun p => !bands.getLsbD (pixelField p))).eraseDups } }

/-- R134, R151: the Lamplighter at the start of a scan: a lit scan opens its coverage record, and the first scan of a round of 4P scans
begins the coverage rewrite anew. -/
def beginLampScan (s : State) : State :=
  let fields : FieldSet := (List.range 32).foldl (fun b f => bvPut b f (!sampledField s f || bandOf s f == 0)) 0
  let s1 := if scanKind s = .lit then { s with lamp := { s.lamp with litScans := (⟨fields, [], [], []⟩ :: s.lamp.litScans).take 8 } } else s
  if probeP s1 ≠ 0 ∧ scanN s1 % (4 * probeP s1) = 0 then { s1 with lamp := { s1.lamp with covDone := 0 } } else s1

/-! ### COVERAGE_REWRITE, LISTEN_ROUND_END, MASS_GUARD_REARM -/

/-- R151: the lit scans of the last 8P scans whose samples have been judged. -/
def judgedScans (s : State) : List LitScan := if scanKind s = .lit then s.lamp.litScans.drop 1 else s.lamp.litScans

/-- R151: the code of a fault-free pixel from the samples of the last 8P scans. -/
def coverageCode (s : State) (p : Nat) : Nat :=
  let f := pixelField p
  if (judgedScans s).any (fun l => l.window.contains p) then 0
  else if (judgedScans s).any (fun l => !l.noSubth.getLsbD f && !l.checkable.contains p && !l.lostSubth.contains p) then 2
  else 1

/-- R151: block `b` of the fault map with the codes 0x0 to 0x2 of the samples that counted. -/
def coverageBlock (s : State) (c : Channel) (b : Nat) : List Byte :=
  let nib (v k : Nat) : Nat := if v < 3 then coverageCode s (tilePixelIndex (b / 2) ((b % 2) * 128 + k)) else v
  ((chanRead s c (64 * b) 64).zip (List.range 64)).map (fun q =>
    BitVec.ofNat 8 (nib (q.1.toNat % 16) (2 * q.2) + 16 * nib (q.1.toNat / 16) (2 * q.2 + 1)))

/-- R151: the next block of the fault map read, and written back in the same scan where a code changes; without its tokens of C5 it waits. -/
def rewriteBlock (s : State) (c : Channel) : Bool × State :=
  let b := s.lamp.covDone
  let new := coverageBlock s c b
  let same := new == chanRead s c (64 * b) 64
  let (ok, s1) := charge s 5 (.block b) (if same then 1 else 2)
  if ok then
    let s2 := if same then s1 else chanWrite s1 c (64 * b) new
    (true, { s2 with lamp := { s2.lamp with covDone := b + 1 } })
  else (false, s1)

/-- R151: up to `n` blocks rewritten, as far as C5 serves them. -/
def rewriteBlocks (c : Channel) : Nat → State → State
  | 0, s => s
  | n + 1, s => let r := rewriteBlock s c; if r.1 then rewriteBlocks c n r.2 else r.2

/-- R151: the blocks that the scans of the round have read once the present one has: ceil(8,192 / 4P) in each. -/
def coverageQuota (s : State) : Nat :=
  Nat.min 8192 ((scanN s % (4 * probeP s) + 1) * ceilDiv 8192 (4 * probeP s))

/-- The pixels of each code 0x0 to 0x2. -/
def coverageCounts (s : State) (c : Channel) : Nat × Nat × Nat :=
  (chanRead s c 0 524288).foldl (fun a b =>
    let one (a : Nat × Nat × Nat) (v : Nat) : Nat × Nat × Nat :=
      if v = 0 then (a.1 + 1, a.2.1, a.2.2) else if v = 1 then (a.1, a.2.1 + 1, a.2.2) else if v = 2 then (a.1, a.2.1, a.2.2 + 1) else a
    one (one a (b.toNat % 16)) (b.toNat / 16)) (0, 0, 0)

/-- COVERAGE_REWRITE (R151): the present scan's share of the rewrite of the fault map; the share that ends the map counts its codes
(DESIGN CHOICE, log 188). -/
def execCoverageRewrite (s : State) : Host.Outcome State Fault Refusal :=
  match faultMap s with
  | some c =>
    if s.scan.running && s.lamp.enabled && decide (probeP s ≠ 0) then
      let s1 := rewriteBlocks c (coverageQuota s - s.lamp.covDone) s
      let n := coverageCounts s1 c
      .next (if s.lamp.covDone < 8192 ∧ s1.lamp.covDone = 8192 then
        ((s1.setReg (Reg.diagCovCount 0) n.1).setReg (Reg.diagCovCount 1) n.2.1).setReg (Reg.diagCovCount 2) n.2.2 else s1)
    else .next s
  | none => .next s

/-- LISTEN_ROUND_END (R145): in the last scan of a round of 64P scans, the lit pixels that got no vote are counted. -/
def execListenRoundEnd (s : State) : Host.Outcome State Fault Refusal :=
  if s.scan.running && decide (probeP s ≠ 0) && scanN s % (64 * probeP s) == 64 * probeP s - 1 then
    let n := (frontWords s).countP (fun e => !s.lamp.listened.contains e.1)
    .next { s.setReg Reg.diagListenUncovered n with lamp := { s.lamp with listened := [], uncovered := n } }
  else .next s

/-- MASS_GUARD_REARM (R156): the 64 probe scans have passed. -/
def execMassGuardRearm (s : State) : Host.Outcome State Fault Refusal :=
  if s.lamp.disarmed = 1 then .next { s with lamp := { s.lamp with disarmed := 0 } } else .next s

/-- Pixels with inoperative codes (R168). -/
def inopCount (s : State) : Nat :=
  match faultMap s with
  | some c => ((chanRead s c 0 524288).map (fun b => b2n (decide (8 ≤ b.toNat % 16)) + b2n (decide (128 ≤ b.toNat)))).sum
  | none => 0

/-- The valid entries of a field's twin table. -/
def twinCount (s : State) (f : Nat) : Nat := s.lamp.twins.countP (fun t => sinkField t.sink == f)

/-- R166, R168: a sink whose twin was refused, that remains untwinned and still carries code 0x4 or 0xD. -/
def stillRefused (s : State) (k : Nat) : Bool :=
  !(s.lamp.twins.any (fun t => t.sink == k)) && (sinkPixels k).any (fun p => pixelCode s p == 4 || pixelCode s p == 0xD)

/-- `diag.status`. -/
def diagStatusWord (s : State) : Nat :=
  b2n s.lamp.episode + 2 * b2n (decide (0 < s.lamp.disarmed)) + 4 * b2n (decide (5242 < inopCount s)) +
  8 * b2n ((List.range 32).any (fun f => decide (8 < twinCount s f)) || s.lamp.refusedTwins.any (stillRefused s)) +
  16 * b2n s.lamp.mapRebuild

end Sys2Proof.Machine
end

