-- ==== Sys2Proof/Machine/Policy.lean ====
section
/-!
DEFINITION. The stock fault policy (R132, R153, R161 to R170, R509): notices from Q6, the Ledger's fault records and fault list, twins,
the restore of the fault map at boot, and the clearing of a fault.
-/

namespace Sys2Proof.Machine

/-! ### The fault list (R509) -/

/-- An entry of the fault list as a number of its 8 bytes. -/
def faultEntry (sink : Bool) (u code method : Nat) : Nat :=
  let b := bytesLE 3 u ++ bytesLE 1 (code + (if sink then 128 else 0)) ++ bytesLE 1 method ++ bytesLE 1 0
  natLE (b ++ bytesLE 2 (crc16 b))

/-- Whether an entry names a unit. -/
def faultNames (sink : Bool) (u : Nat) (e : Nat × Nat) : Bool := e.2 % 2 ^ 24 == u && bitAt e.2 31 == sink

/-- R509: a fault put into the list: over its own entry, or into the first free one; a full list counts it. -/
def faultPut (s : State) (sink : Bool) (u code method : Nat) : State :=
  let l := s.mram.ledger.faults
  let at_ := match l.find? (faultNames sink u) with
    | some e => some e.1
    | none => (List.range 8192).find? (fun i => (l.lookup i).isNone)
  match at_ with
  | some i => { s with mram := { s.mram with ledger := { s.mram.ledger with faults := mapPut (fun _ => 0) i (faultEntry sink u code method) l } } }
  | none => s.bump Reg.ledgerFaultFull

/-- R509: the entry of a unit overwritten with zeros. -/
def faultDrop (s : State) (sink : Bool) (u : Nat) : State :=
  { s with mram := { s.mram with ledger := { s.mram.ledger with faults := s.mram.ledger.faults.filter (fun e => !faultNames sink u e) } } }

/-- R169: a fault record: TYPE, method and code, WHERE, BAND, VLED, bytes 8 to 11, OPSEC. -/
def faultRecord (s : State) (type code method where_ : Nat) (tail : List Byte) (bytes8 : List Byte) : State :=
  ledgerAppend s (bytesLE 1 type ++ bytesLE 1 (16 * method + code) ++ bytesLE 3 where_ ++ slice tail 0 3 ++ slice bytes8 0 4 ++
    bytesLE 4 (opsec s)) 0

/-! ### Twins (R163 to R167) -/

/-- R164: an entry of a twin table. -/
def twinEntry (t : Twin) : Nat :=
  32768 + (if t.partner < t.sink then 16384 else 0) + (t.sink % 512 % 64) + 64 * (t.sink / 512 % 32)

/-- The twin tables written from the twins in force, field by field in the order of their entries. -/
def writeTwinTables (s : State) : State :=
  (List.range 32).foldl (fun st f =>
    let es := (st.lamp.twins.filter (fun t => sinkField t.sink == f)).map twinEntry
    st.setReg (Reg.diagTwinTable f) (natLE (es.flatMap (bytesLE 2)))) s

/-- The twins that the tables hold (after a start). -/
def readTwinTables (s : State) : List Twin :=
  (List.range 32).flatMap (fun f => (List.range 16).filterMap (fun i =>
    let e := s.regHalf (Reg.diagTwinTable f) i
    if e < 32768 then none
    else
      let k := ((f / 8) * 32 + bits e 10 6) * 512 + (f % 8) * 64 + e % 64
      some ⟨k, if bitAt e 14 then k - 1 else k + 1, true, .lit, .lit⟩))

/-- R163: whether a cluster cannot serve as partner. -/
def partnerBarred (s : State) (k : Nat) : Bool :=
  (sinkPixels k).any (fun p => [4, 5, 0xD].contains (pixelCode s p)) || s.lamp.twins.any (fun t => t.partner == k || t.sink == k)

/-- R163: the partner of a cluster. -/
def pickPartner (s : State) (k : Nat) : Option Nat :=
  let cx := k % 512
  let east := if cx % 64 = 63 then none else some (k + 1)
  let west := if cx % 64 = 0 then none else some (k - 1)
  match east with
  | some e => if partnerBarred s e then west.filter (fun w => !partnerBarred s w) else some e
  | none => west.filter (fun w => !partnerBarred s w)

/-- The tiles that hold the two clusters and the neighbours of their pixels. -/
def twinMarks (k p : Nat) : TileSet := (sinkPixels k ++ sinkPixels p).foldl (fun a x => a ||| failureTiles x) 0

/-- R166: a twin refused. Method 7 stands in its record (DESIGN CHOICE, log 38). -/
def refuseTwin (s : State) (k code : Nat) (partner : Option Nat) (tail : List Byte) : State :=
  let s1 := raise 49 (bytesLE 2 k ++ bytesLE 1 code ++ bytesLE 1 1) s
  let s2 := { s1 with lamp := { s1.lamp with refusedTwins := s1.lamp.refusedTwins.filter (· != k) ++ [k] } }
  faultRecord s2 4 code 7 k tail (bytesLE 3 (partner.getD 0xFFFFFF) ++ bytesLE 1 (twinCount s2 (sinkField k)))

/-- R122: the accounted sums taken anew where the twinned clusters changed from `old`: the back frame's drive tiles and the words that are lit.
A twin counts with m = 32 from its order on, in both frames (DESIGN CHOICE, log 203: the spec names no instant). -/
def accountTwins (old : List Nat) (s : State) : State :=
  let new := twinSinks s
  let tiles := ((old ++ new).filter (fun k => old.contains k != new.contains k)).map sinkTile |>.eraseDups
  tiles.foldl (fun st t =>
    let move (v : Vector (Nat × Nat) 32) (words : List Nat) := replaceAcc v t (tileAcc old t words) (tileAcc new t words)
    let back := halves (tileData st (driveNow st t))
    let front := halves (tileData st (driveFront st t))
    let p := st.pipe
    { st with pipe := { p with accBack := move p.accBack back, accFront := if lanternLit st then p.accFront else move p.accFront front } }) s

/-- R163, R166: a twin ordered for a confirmed sink, or refused. -/
def orderTwin (s : State) (k code : Nat) (tail : List Byte) : State :=
  match pickPartner s k with
  | none => refuseTwin s k code none tail
  | some p =>
    if s.reg Reg.diagTwinMax ≤ twinCount s (sinkField k) then refuseTwin s k code (some p) tail
    else
      let s1 := { s with lamp := { s.lamp with twins := s.lamp.twins ++ [⟨k, p, false, .waiting, .waiting⟩], refusedTwins := s.lamp.refusedTwins.filter (· != k) } }
      accountTwins (twinSinks s) (markInternal (writeTwinTables s1) (twinMarks k p))

/-- R167: the sink of a twin has failed: the twin goes, both clusters take code 0xD, and the fault list with them (R509), and none is ordered
anew. DESIGN CHOICE (log 207): a sink confirmed SINK-WEAK has failed as one confirmed SINK-DEAD has. -/
def endTwin (s : State) (t : Twin) : State :=
  let s1 := { s with lamp := { s.lamp with twins := s.lamp.twins.filter (· != t) } }
  let s1b := faultPut (faultPut s1 true t.sink 0xD 7) true t.partner 0xD 7
  let s2 := writeCluster (writeCluster s1b t.sink 0xD) t.partner 0xD
  let s3 := dueLantern (accountTwins (twinSinks s) (markInternal (writeTwinTables s2) (twinMarks t.sink t.partner)))
  raise 49 (bytesLE 2 t.partner ++ bytesLE 1 0xD ++ bytesLE 1 2) s3

/-- R165: a twin switched: its cluster's pixels take code 0x5 and E50 is raised; the stock fault policy records it. -/
def applyTwin (s : State) (t : Twin) : State :=
  let s1 := { s with lamp := { s.lamp with twins := s.lamp.twins.map (fun x => if x = t then { x with switched := true } else x) } }
  let s2 := (sinkPixels t.sink).foldl (fun st p =>
    if codeIsolated (pixelCode st p) then st else setFaultCode st (pixelTile p) (pixelPlace p) 5) s1
  let s3 := raise 50 (bytesLE 2 t.sink ++ bytesLE 2 t.partner) (dueLantern (markInternal s2 (twinMarks t.sink t.partner)))
  if firmwareRuns s3 3 then
    faultRecord s3 3 5 7 t.sink (noticeTail s3 (sinkField t.sink)) (bytesLE 3 t.partner ++ bytesLE 1 (twinCount s3 (sinkField t.sink)))
  else s3

/-! ### FAULT_NOTICE -/

/-- R163, R167: the response to a sink fault: it ends the twin whose partner's sink it is, else its cluster gets a twin unless it has one. -/
def onSinkFault (s : State) (k code : Nat) (tail : List Byte) : State :=
  match s.lamp.twins.find? (fun t => t.partner == k) with
  | some t => endTwin s t
  | none =>
    if (code = 0xD ∨ s.flag Reg.diagTwinWeak) ∧ !(s.lamp.twins.any (fun t => t.sink == k)) then orderTwin s k code tail else s

/-- What the stock fault policy does with a notice. -/
def handleNotice (s : State) (e : List Byte) : State :=
  let kind := field e 0 2
  let u := field e 8 3
  let code := field e 11 1
  let method := field e 12 1
  let tail := slice e 13 3
  let frame := slice e 16 4
  if kind = 0x0601 then faultRecord (faultPut s false u code method) 1 code method u tail frame
  else if kind = 0x0602 then
    onSinkFault (faultRecord (faultPut s true u code method) 2 code method u tail frame) u code tail
  else if kind = 0x0603 then
    let s1 := isolate (changeCode s u 0xF) u 0xF
    faultRecord (faultPut s1 false u 0xF 6) 1 0xF 6 u (noticeTail s1 (pixelField u)) (bytesLE 4 s1.scan.frameCount)
  else if kind = 0x0604 then markInternal s allTiles
  else s

/-- R161, R163: after a loss of notices the policy scans the fault map for codes that the Ledger's list does not hold, records them with
method 7, firmware (DESIGN CHOICE, log 38), and answers a sink fault as it answers its notice. -/
def scanFaultMap (s : State) : State :=
  if s.reg Reg.diagNoticeLost = s.lamp.lostSeen then s
  else
    let s0 := { s with lamp := { s.lamp with lostSeen := s.reg Reg.diagNoticeLost, mapRebuild := true } }
    (List.range 1048576).foldl (fun st p =>
      let c := pixelCode st p
      let now := bytesLE 4 st.scan.frameCount
      if (c = 3 ∨ c = 6 ∨ codeIsolated c) ∧ c ≠ 0xE ∧ listedCode st false p ≠ some c then
        faultRecord (faultPut st false p c 7) 1 c 7 p (noticeTail st (pixelField p)) now
      else if (c = 4 ∨ c = 0xD) ∧ listedCode st true (pixelSink p) ≠ some c then
        onSinkFault (faultRecord (faultPut st true (pixelSink p) c 7) 2 c 7 (pixelSink p) (noticeTail st (pixelField p)) now) (pixelSink p) c
          (noticeTail st (pixelField p))
      else st) s0

/-- FAULT_NOTICE (R132, R163, R166, R167, R169): while the stock fault policy runs, it takes the next notice from Q6; the space lets a
buffered notice follow. -/
def execFaultNotice (ecc : List EccFinding) (s : State) : Host.Outcome State Fault Refusal :=
  if firmwareRuns s 3 then
    match qTake (if (qNext s 6).isSome then eccFindAll s ecc else s) 6 with
    | (some e, s1) => .next (drainNotices s1.lamp.noticeBuf.length (scanFaultMap (handleNotice s1 e)))
    | (none, _) => .next s
  else .next s

/-! ### Boot (R153) and diag.clear (R170) -/

/-- R153: the restored code of a pixel written, and its isolation switch set with it. -/
def restorePixel (s : State) (p : Nat) : State :=
  let code := restoredCode s p
  let s1 := setFaultCode s (pixelTile p) (pixelPlace p) code
  if codeIsolated code then openSwitch s1 p else { s1 with latches := { s1.latches with isolated := s1.latches.isolated.filter (· != p) } }

/-- The pixels with FDEF in some tiles. -/
def factoryPixels (s : State) (t : TileSet) : List Nat := (s.mram.binning.filter (fun e => e.2 % 2 == 1 && t.getLsbD (pixelTile e.1))).map (·.1)

/-- R153: codes 0xE and the Ledger's faults restored into the fault map and the isolation switches, with the twins of the tables. -/
def restoreFaults (s : State) : State :=
  let s1 := { s with lamp := { s.lamp with twins := readTwinTables s, mapRebuild := true } }
  let listed := (s1.mram.ledger.faults.filter entrySound).flatMap (fun e => if bitAt e.2 31 then sinkPixels (e.2 % 2 ^ 24) else [e.2 % 2 ^ 24])
  (factoryPixels s1 allTiles ++ listed ++ s1.lamp.twins.flatMap (fun t => sinkPixels t.sink)).foldl restorePixel s1

/-- R170: a write of diag.clear that is refused: FDEF, or a pixel of a twinned cluster. -/
def clearRefused (s : State) (p : Nat) : Bool := bitAt (calWord s (pixelTile p) (pixelPlace p)) 1 || twinnedSink s (pixelSink p)

/-- R170: the fault of a pixel cleared. -/
def clearFault (s : State) (p : Nat) : State :=
  let old := pixelCode s p
  let s1 := changeCode s p 1
  let s2 := { s1 with latches := { s1.latches with isolated := s1.latches.isolated.filter (· != p),
                                                   isolateWait := s1.latches.isolateWait.filter (· != p),
                                                   isolateNext := s1.latches.isolateNext.filter (· != p) } }
  let s3 := markInternal (evPut s2 false p 0) (tileSet [pixelTile p])
  if firmwareRuns s3 3 then
    faultRecord (faultDrop s3 false p) 5 old 7 p (noticeTail s3 (pixelField p)) (bytesLE 4 s3.scan.frameCount)
  else s3

/-- R171: the evidence map cleared. -/
def clearEvidence (s : State) : State := (evUnits s).foldl (fun st u => evPut st u.1 u.2 0) s

end Sys2Proof.Machine
end

