-- ==== Sys2Proof/Machine/Beam.lean ====
section
/-!
DEFINITION. The Lantern beam controller and the darkening of halves (R26, R27, R302, R475, R476, R499 to R504), LOADSTEP (R481), and the
entry to LIT.
-/

namespace Sys2Proof.Machine

/-! ### The Lantern frames in MRAM -/

/-- The words of a tile of a Lantern frame. -/
def lanternTile (s : State) (f t : Nat) : List Byte := memRange (vget s.mram.lantern [] f) (512 * t) 512

/-- The check word stored with a tile of a Lantern frame. -/
def lanternCheck (s : State) (f t : Nat) : Nat := natLE (memRange (vget s.mram.lantern [] f) (2097152 + 4 * t) 4)

/-- Whether a tile of a Lantern frame passes its check. -/
def lanternTileOk (s : State) (f t : Nat) : Bool := lanternCheck s f t == crc32c (lanternTile s f t)

/-- Whether a Lantern frame is complete with every tile sound: its bit of `lantern.valid`. -/
def lanternValid (s : State) (f : Nat) : Bool := (List.range 4096).all (lanternTileOk s f)

/-- Bytes from an address as cells of a memory, none equal to 0. -/
def cellsFrom (a : Nat) (b : List Byte) : Memory := ((span a b.length).zip b).filter (fun c => c.2 != 0)

/-- R24, R284: a tile that the drive pipeline computes of the stock firmware's own picture, with the check word that it generates. The picture is
nowhere stated: its samples are free values (log 186). -/
def lanternDriven (s : State) (t : Nat) : List Byte :=
  let sample (p : Nat) : Nat := Config.freeNat (s.free + p) % 65536
  halfBytes (computeTile s t ((List.range 256).map (fun i => sample (tilePixelIndex t i))) (fun p => (sample p : Rat) / 65536)).words

/-- R42, R284: a Lantern frame rewritten from drive tiles that the pipeline has computed, each copied with its check word. -/
def recomputeFrame (f : Nat) (s : State) : State :=
  let tiles := (List.range 4096).map (lanternDriven s)
  let mem := cellsFrom 0 (tiles.flatMap id ++ tiles.flatMap (fun d => bytesLE 4 (crc32c d)))
  { s with mram := { s.mram with lantern := vset s.mram.lantern f mem, lanternDue := vset s.mram.lanternDue f false }, free := s.free + 1048576 }

/-- R101, R285: the mirror tiles read for a recomputation verified; one that fails is rewritten from MRAM, and the recomputation waits. -/
def verifyMirror (s : State) : Bool × State :=
  (List.range 4096).foldl (fun q t =>
    let (ok, s1) := verifyTile q.2 2 (.mirror t) []
    (q.1 && ok, if ok then s1 else markInternal (writeMirror s1 t) (tileSet [t]))) (true, s)

/-- R42: the stock firmware's rewrite of one Lantern frame that is due, in a frame in which the drive pipeline works and the Lantern beam uses neither (DESIGN CHOICE,
log 186: the specification gives no instant). -/
def lanternRecompute (s : State) : State :=
  let due (f : Nat) : Bool := vget s.mram.lanternDue false f
  if firmwareRuns s 3 && domainOn s 3 && domainOn s 4 && s.cal.mirrorReady && s.lantern.state == 0 && (due 0 || due 1) then
    let (ok, s1) := verifyMirror s
    if ok then recomputeFrame (if due 0 then 0 else 1) s1 else s1
  else s

/-- R26: whether the start lights the Lantern beam, VLED apart. -/
def lanternStarts (s : State) : Bool := s.flag Reg.lanternAutoOn && lanternValid s (s.reg Reg.lanternSelect)

/-! ### Entry to LIT and the halves (R467, R475, R476) -/

/-- R67, R72: the device enters LIT: frame.count and the counts of own scans start again; the first own scan begun in LIT has n = 0
(DESIGN CHOICE, log 182). -/
def enterLit (s : State) : State :=
  if s.power.device = 4 then s
  else
    let s1 := setDevice s 4
    { s1 with scan := { s1.scan with frameCount := 0,
                                     groups := Vector.ofFn (fun g => { grpOf s1 g.val with count := 3 }) } }

/-- R475: the halves that cannot be lit: those that `pwr.array_mask` clears or whose domain is not ON. -/
def darkHalves (s : State) : Nat :=
  let lit (h : Nat) : Bool := bitAt (s.reg Reg.pwrArrayMask) h && domainOn s (5 + h)
  b2n (!lit 0) + 2 * b2n (!lit 1)

/-- R475, R476: the halves to treat as dark from the next admission point: those that cannot be lit, and both in READY, in a
BOOT without the Lantern beam (R486), and on a request of READY or SLEEP. -/
def darkWant (s : State) : Nat :=
  let hold := match s.power.request with
    | some r => decide (r ≠ 2)
    | none => decide (s.power.device ≠ 4) && !lanternLit s
  -- R498: a lockout that keeps the array dark
  if hold || (s.flag Reg.bistLockout && s.reg Reg.lanternOnBistFail == 0) then 3 else darkHalves s

/-- The tiles of the halves of a mask. -/
def halfTiles (m : Nat) : TileSet :=
  (if bitAt m 0 then BitVec.ofNat 4096 (2 ^ 2048 - 1) else 0) ||| (if bitAt m 1 then ~~~ BitVec.ofNat 4096 (2 ^ 2048 - 1) else 0)

/-- A tile's back latches written with words, whatever its state. -/
def putBackTile (s : State) (t : Nat) (words : List Nat) : State :=
  (List.range 256).foldl (fun st i => latchPut st false (tilePixelIndex t i) (words.getD i 0)) s

/-- R475, R476, R486: at the admission point the halves that are to darken, or to light again, join the frame being prepared. While the
Lantern beam is lit, its controller writes the dark words. -/
def admitDark (s : State) : State :=
  let want := darkWant s
  let diff := want ^^^ s.power.darkBack
  if diff = 0 ∨ s.lantern.state = 1 ∨ (s.power.device = 2 ∧ !domainOn s 3) then s
  else
    let s1 := { s with power := { s.power with darkBack := want } }
    if lanternLit s1 && !s1.lantern.release then
      let s2 := (TileSet.toList (halfTiles (want &&& diff))).foldl (fun st t => putBackTile st t []) s1
      { s2 with lantern := { s2.lantern with reload := s2.lantern.reload ++ (TileSet.toList (halfTiles (diff - (want &&& diff)))).map (fun t => (t, 2)) } }
    else { s1 with pipe := { s1.pipe with loadDirty := s1.pipe.loadDirty ||| halfTiles diff } }

/-! ### LOADSTEP (R481) -/

/-- LOADSTEP raised; `rising` says that the load rises, so that V_T is boosted (R478), once a slot has been lit (R477). -/
def raiseLoadstep (s : State) (rising : Bool) : State :=
  if s.power.loadstep then s
  else
    let s1 := s.bump Reg.pwrLoadstepCount
    let boost := if rising then s1.power.vT + s1.reg Reg.pwrHdrmBoostMv else s1.power.vT
    let top := s1.reg Reg.pwrVledMaxMv
    noteSupply { s1 with power := { s1.power with loadstep := true, loadSwapped := false, boostHold := rising,
                                                  vT := if rising && s1.power.litSeen then Nat.min boost (Nat.max top s1.power.vT) else s1.power.vT } }

/-- R481: whether the swap at the next boundary is announced. -/
def loadstepDue (s : State) : Bool :=
  let d := absQ (backCurrent s - frontCurrent s) / 1000
  decide ((s.reg Reg.pwrLoadstepMa : Rat) ≤ d) || !backComplete s || s.lantern.state == 1 || s.lantern.release ||
    s.power.darkBack != s.power.darkFront

/-- LOADSTEP_RISE (R481): at t1 − lead. -/
def execLoadstepRise (s : State) : Host.Outcome State Fault Refusal :=
  if s.scan.running && !s.power.loadstep && loadstepDue s then
    let s1 := s.atLeast (nextBoundary s - s.reg Reg.pwrLoadstepLeadUs * 1000)
    .next (raiseLoadstep s1 (decide (frontCurrent s1 < backCurrent s1)))
  else .next s

/-- LOADSTEP_FALL (R481): one scan period after the swap that took place. -/
def execLoadstepFall (s : State) : Host.Outcome State Fault Refusal :=
  if s.power.loadstep && s.power.loadSwapped then
    let s1 := s.atLeast (s.scan.frameStart + scanNs s)
    .next { s1 with power := { s1.power with loadstep := false, loadSwapped := false }, lamp := { s1.lamp with loadstepFell := some s1.now } }
  else .next s

/-- A swap of the latches took place at this boundary. -/
def noteSwap (s : State) : State :=
  if s.power.loadstep then { s with power := { s.power with loadSwapped := true, boostScans := if s.power.boostHold then 4 else 0, boostHold := false } }
  else s

/-! ### Lighting the Lantern beam (R502) -/

/-- E97 and the Ledger's record of a lighting. -/
def lanternRecord (s : State) (byte1 : Nat) : State :=
  ledgerAppend s (bytesLE 1 0x32 ++ bytesLE 1 byte1 ++ bytesLE 6 0 ++ bytesLE 4 s.scan.frameCount ++ bytesLE 4 (opsec s)) 0

/-- The accounted sums of a Lantern frame by field, tiles that fail their check as dark. -/
def lanternAcc (s : State) (f : Nat) (bad : List Nat) : Vector (Nat × Nat) 32 :=
  (List.range 4096).foldl (fun v t =>
    if bad.contains t then v
    else
      let a := vget v (0, 0) (tileField t)
      let n := (halves (lanternTile s f t)).foldl (fun (acc : Nat × Nat) w => let c := accWord false w; (acc.1 + c.1, acc.2 + c.2)) a
      vset v (tileField t) n) (Vector.replicate 32 (0, 0))

/-- The tiles of a Lantern frame that fail their check. -/
def lanternBad (s : State) (f : Nat) : List Nat := (List.range 4096).filter (fun t => !lanternTileOk s f t)

/-- R504: a release is withdrawn (log 40); the commits accepted after it resume nothing. -/
def withdrawRelease (s : State) : State :=
  { s with lantern := { s.lantern with handback := false, resumeDue := false },
           commits := { s.commits with late := s.commits.late.map (fun c => { c with resume := false }) } }

/-- R502, R503, R498: the Lantern beam lit for a cause of E97, unless the shutdown latch is set or a lockout keeps the array dark. Already
lit, nothing further happens; while a release waits, causes 2, 3 and 5 withdraw it (DEDUCED, log 40: R504 refuses a
release while they hold). -/
def lightLantern (s : State) (cause : Nat) : State :=
  if s.therm.shutdown || (s.flag Reg.bistLockout && s.reg Reg.lanternOnBistFail == 0) || s.lantern.state == 2 then s
  else if s.lantern.state = 1 then (if [2, 3, 5].contains cause then withdrawRelease s else s)
  else if s.lantern.state = 3 then
    if [2, 3, 5].contains cause then withdrawRelease { s with lantern := { s.lantern with state := 2, release := false, copyDue := s.lantern.release || s.lantern.copyDue } }
    else s
  else
    let f := s.reg Reg.lanternSelect
    let s1 := { s with lantern := { s.lantern with state := 1, cause := cause, frame := f, loaded := false, copyDue := false, release := false,
                                                   handback := false, resumeDue := false, badTiles := 0, reload := [], acc := lanternAcc s f (lanternBad s f) } }
    let s2 := raiseLoadstep s1 (decide (frontCurrent s1 < backCurrent s1))
    -- at start-up E97 follows at the first swap, once CTL can log it (R468)
    if cause = 0 then s2 else lanternRecord (raise 97 (bytesLE 1 cause) s2) cause

/-- R285, R289, R302: the Lantern beam controller reads a tile of Lantern frame `f`, with unit code 6: whether it may use the tile. Its bytes pass snoop
point 5; `bad` says that both reads fail, `again` that only the first does. -/
def lanternRead (s : State) (f t : Nat) (bad again : Bool) : Bool × State :=
  let s1 := snoop s 5 0 (lanternTile s f t)
  if bad || !lanternTileOk s f t then (false, failTile s1 6 4 t 0) else (true, if again then s1.bump Reg.integRereadOk else s1)

/-- LANTERN_LOAD_DONE (R502 step 2, R468 step 4): the selected frame stands in the back latches, a tile that fails its check as dark. -/
def execLanternLoadDone (bad again : List Nat) (s : State) : Host.Outcome State Fault Refusal :=
  if s.lantern.state == 1 && !s.lantern.loaded && domainOn s 4 && domainOn s 7 && allSwapped s then
    let f := s.lantern.frame
    let fails := (List.range 4096).filter (fun t => bad.contains t || !lanternTileOk s f t)
    let s1 := (List.range 4096).foldl (fun st t =>
      let (ok, st1) := lanternRead st f t (bad.contains t) (again.contains t)
      if loadableTile st1 t then putBackTile st1 t (if ok then halves (lanternTile st f t) else []) else st1) s
    .next { s1 with lantern := { s1.lantern with loaded := true, badTiles := fails.length, acc := lanternAcc s1 f fails } }
  else .next s

/-- R468: whether VLED lets the start-up Lantern beam light: at the boot target within 14 ms, or through one whole scan. -/
def lanternMayLight (s : State) : Bool :=
  s.lantern.cause != 0 || s.power.vledEarly ||
  (match s.adc.vledMinPrev with
   | some v => decide ((s.reg Reg.pwrVledBootMv : Rat) / 1000 ≤ v)
   | none => false)

/-- R502 step 3: the swap that lights the Lantern beam; a device in READY is LIT by it. -/
def lanternSwap (s : State) : State :=
  let dark := darkHalves s
  let x := s.lantern
  let resumes := x.handback && x.resumeDue
  let s1 := { s with lantern := { x with state := if x.handback then 3 else 2, loaded := false, copyDue := true, handback := false, resumeDue := false,
                                         release := resumes },
                     power := { s.power with light := 1, darkBack := dark, darkFront := dark,
                                             request := if s.power.request = some 2 then none else s.power.request },
                     pipe := { s.pipe with accFront := x.acc, loadDirty := if resumes then allTiles else s.pipe.loadDirty,
                                           reload := if resumes then allTiles else s.pipe.reload } }
  let s2 := if s1.power.device = 3 then enterLit s1 else s1
  if s2.lantern.cause = 0 then lanternRecord (raise 97 [0] s2) 0 else s2

/-- R504: the swap that returns the array to host frames. -/
def releaseSwap (s : State) : State :=
  let s1 := { s with lantern := { s.lantern with state := 0, cause := 0xFF, copyDue := false, release := false, reload := [] },
                     power := { s.power with light := 2 } }
  lanternRecord (raise 101 [] s1) 0x80

/-- R502 step 4, R132: the front latches copied into the back latches, each word read back. -/
def copyAll (echo : List EchoFault) (s : State) : State :=
  echo.foldl (fun st e => echoFault 6 st (pixelTile e.pixel) e) ((List.range 4096).foldl copyFront s)

/-- R502 step 4, R302: after the last cluster's swap the controller copies the front latches into the back latches and reloads the tiles
of a mismatched rectangle from MRAM, in tile index order (R289). -/
def lanternUpkeep (again : List Nat) (echo : List EchoFault) (s : State) : State :=
  if lanternLit s && !s.lantern.release && allSwapped s then
    let s1 := if s.lantern.copyDue then { copyAll echo s with lantern := { s.lantern with copyDue := false } } else s
    let s2 := (TileSet.toList (tileSet (s1.lantern.reload.map (·.1)))).foldl (fun st t =>
      if loadableTile st t && !bitAt st.power.darkBack (tileField t / 16) then
        let (ok, st1) := lanternRead st st.lantern.frame t false (again.contains t)
        putBackTile st1 t (if ok then halves (lanternTile st1 st1.lantern.frame t) else [])
      else st) s1
    { s2 with lantern := { s2.lantern with reload := s2.lantern.reload.filterMap (fun r => if r.2 ≤ 1 then none else some (r.1, r.2 - 1)) } }
  else s

/-! ### Host supervision (R499 to R501) -/

/-- R499: host activity. -/
def hostActive (s : State) : State := { s with host := { s.host with since := s.host.since.map (fun _ => s.now), raised := false } }

/-- `host.silent_ms`. -/
def silentMs (s : State) : Nat := match s.host.since with
  | some t => (s.now - t) / 1000000
  | none => 0

/-- R501: an entry of the feed, of KIND 0x0F01, taken by the Lantern beam controller. -/
def feedEntry (s : State) (e : List Byte) : State :=
  let frame := field e 8 4
  let count := field e 12 4
  let follows := match s.host.feedLast with
    | some c => count == (c + 1) % 4294967296
    | none => true
  let recent := decide ((s.scan.frameCount + 4294967296 - frame) % 4294967296 ≤ 1)
  let ok := field e 0 2 == 0x0F01 && follows && recent
  { s with host := { s.host with feedLast := some count, feedMissed := if ok then 0 else s.host.feedMissed, feedBad := !ok } }

/-- R380: a stock engine other than the supervisor has failed and nothing replaces it, so that the supervisor stops its feed. -/
def stockFailed (s : State) : Bool :=
  let m := s.reg Reg.engFailedMask
  [1, 2, 3].any (fun n => bitAt m n && (m / 4096 != n || bitAt m 8))

/-- R501, R380: the supervisor's entry of a frame period, which the Lantern beam controller pops and acknowledges in one step (R277). -/
def supervisorFeed (s : State) : State :=
  if (runsAs s 0).any (fun e => decide ((vget s.engines (State.engineReset 0) e).image < 2)) && !stockFailed s && !qFull s 15 then
    let count := match s.host.feedLast with
      | some c => (c + 1) % 4294967296
      | none => 0
    match qTake (qPut s 15 (qEntry s 15 0x0F01 (bytesLE 4 s.scan.frameCount ++ bytesLE 4 count))) 15 with
    | (some e, s1) => feedEntry s1 e
    | (none, s1) => s1
  else s

/-- R501: whether the feed is valid. -/
def feedValid (s : State) : Bool := !s.host.feedBad && decide (s.host.feedMissed < s.reg Reg.lanternFeedFrames)

/-- HOST_TIMEOUT (R370, R500): the host supervision on W0, once per silence, in READY and LIT. -/
def execHostTimeout (s : State) : Host.Outcome State Fault Refusal :=
  match s.host.since with
  | some t =>
    if (s.power.device = 3 ∨ s.power.device = 4) ∧ s.host.raised = false ∧ firmwareRuns s 0 then
      let s1 := s.atLeast (t + s.reg Reg.hostTimeoutMs * 1000000)
      .next (lightLantern (raise 96 [] { s1 with host := { s1.host with raised := true } }) 1)
    else .next s
  | none => .next s

/-- FEED_LOSS (R501): the feed has failed, and still fails. -/
def execFeedLoss (s : State) : Host.Outcome State Fault Refusal :=
  if (s.power.device = 3 ∨ s.power.device = 4) ∧ feedValid s = false then .next (lightLantern s 2) else .next s

/-- A layer whose policy is LANTERN is stale (R504). -/
def lanternStale (s : State) : Bool :=
  (List.range 8).any (fun n => bitAt s.pipe.staleMask n && s.reg (Reg.layerStalePolicy n) == 2)

/-- R502: whether a beam that is being loaded has for its cause only a frame-count condition that no longer holds: the feed of R501, or the frames that a
layer was stale (R191). -/
def causeCeased (s : State) : Bool :=
  s.lantern.state == 1 && ((s.lantern.cause == 2 && feedValid s) || (s.lantern.cause == 3 && !lanternStale s))

/-- R502: such a beam does not start: the latches are loaded with host frames again (DESIGN CHOICE, log 202). -/
def dropLantern (s : State) : State :=
  if causeCeased s then
    { s with lantern := { s.lantern with state := 0, cause := 0xFF, loaded := false, copyDue := false, release := false, reload := [], handback := false,
                                         resumeDue := false },
             pipe := { s.pipe with loadDirty := allTiles, reload := allTiles } }
  else s

/-- R504: whether a release is refused. -/
def releaseRefused (s : State) : Bool := !feedValid s || lanternStale s || s.flag Reg.bistLockout

/-- R504: a release that is not refused waits for the next commit. -/
def releaseLantern (s : State) : State :=
  if s.lantern.state = 2 then { s with lantern := { s.lantern with state := 3, release := false } }
  else if s.lantern.state = 1 then { s with lantern := { s.lantern with handback := true } }
  else s

end Sys2Proof.Machine
end

