-- ==== Sys2Proof/Machine/Frames.lean ====
section
/-!
DEFINITION. The frame boundary and the global swap (R69 to R99, R120, R121, R127, R187 to R202, R271, R272), the swap of a stagger group,
TE_OUT, the commit window, the admission point, SYNC, and the end of a writeback.
-/

namespace Sys2Proof.Machine

/-! ### What a swap does to pixel store and configuration -/

/-- SEL of a tile's side record exchanged. -/
def flipSel (s : State) (r : TileRef) : State :=
  let v := sideState s r
  setSideState s r (setBit v 0 (!bitAt v 0))

/-- R198, R133: the selectors of the tiles composed and driven for the frame exchanged. -/
def exchangeTiles (s : State) : State :=
  let s1 := (TileSet.toList s.pipe.composed).foldl (fun st t => flipSel st (.composed t 0)) s
  (TileSet.toList s1.pipe.driven).foldl (fun st t => flipSel st (.drive t 0)) s1

/-- R272: a flipped tile of a surface: SEL exchanged, PEND gone. -/
def flipSurface (s : State) (p : Nat × Nat) : State :=
  match s.chans.live.find? (fun c => c.slot == p.1) with
  | some c =>
    let r := TileRef.surface c p.2 0
    let v := sideState s r
    setSideState s r (setBit (setBit v 0 (!bitAt v 0)) 1 false)
  | none => s

/-- R272: BACK_WRITTEN, OWNED and SETID cleared in one side record. -/
def clearSide (s : State) (p : Nat × Nat) : State :=
  match s.chans.live.find? (fun c => c.slot == p.1) with
  | some c => let r := TileRef.surface c p.2 0; setSideState s r (sideState s r % 4)
  | none => s

/-- R20: the block of 64 bytes that holds the side record of a tile of a surface: channel slot and number, four records to a block. -/
def sideBlock (s : State) (p : Nat × Nat) : Nat × Nat :=
  match s.chans.live.find? (fun c => c.slot == p.1) with
  | some c => (p.1, (TileRef.surface c p.2 0).side / 64)
  | none => p

/-- R272: the side records still to clear, block by block as far as C0 has tokens. -/
def clearBlocks : Nat → State → State
  | 0, s => s
  | n + 1, s =>
    match s.pipe.clears with
    | [] => s
    | p :: _ =>
      if tokensLeft s 0 = 0 then stallClass s 0
      else
        let b := sideBlock s p
        let now := s.pipe.clears.filter (fun q => sideBlock s q == b)
        let s1 := now.foldl clearSide (spend s 0 1)
        clearBlocks n { s1 with pipe := { s1.pipe with clears := s1.pipe.clears.filter (fun q => !now.contains q) } }

/-- R272: the side records still to clear. -/
def clearSides (s : State) : State := clearBlocks s.pipe.clears.length s

/-- The flips of the frame applied at the instant of the swap; the sets flipped are open no longer. -/
def applyFlips (s : State) : State :=
  let s1 := s.pipe.flips.eraseDups.foldl flipSurface s
  { s1 with pipe := { s1.pipe with clears := s1.pipe.clears ++ s1.pipe.flips.eraseDups, flips := [] },
            chans := { s1.chans with sets := s1.chans.sets.filter (fun x => !x.admitted) } }

/-- R94: the start of a relaxation of k_C: the distance that it covers in `scan.kc_relax_ms`. A change that a boundary itself makes is
fresh: its relaxation moves from the next scan boundary on (log 179). -/
def startRelax (fresh : Bool) (s : State) : State :=
  { s with scan := { s.scan with kCRelax := 1 - s.scan.kCWant, kCFresh := fresh } }

/-- R86: SYNC follows a change of `frame.sync_mode`. The boundary that applies LEADER drives no pulse yet, and a trim left from FOLLOWER goes
back to 0 in the steps of R88 (DESIGN CHOICE, log 182). -/
def setSyncMode (s : State) (old : Nat) : State :=
  let m := s.reg Reg.frameSyncMode
  if m = old then s
  else { s with scan := { s.scan with sync := { s.scan.sync with state := m, acquiring := s.now, lastEdge := s.now, ignored := 0, inBand := 0, leaderEdge := none,
                                                                  wantPpm := 0, pin := false } } }

/-- R92 to R97: the timing of the frame that becomes front, with E37 for a change that is spread; its byte b2 holds the low 8 bits of the steps left
(DESIGN CHOICE, log 201). -/
def applyTiming (tm : Nat × Nat × List Nat) (s : State) : State :=
  let n := frameScans s.reg tm.1 tm.2.2
  let changed := tm.1 != s.scan.periodUs || tm.2.1 != s.scan.sweepNs
  let d0 := duty (scanNs s : Rat) (s.scan.sweepNs : Rat)
  let d1 := duty (trimmedNs s tm.1 : Rat) (tm.2.1 : Rat)
  let going := tm.2.1 == s.scan.sweepNs && s.scan.spread == tm.1 :: tm.2.2
  let ratio := d0 / d1
  let want := s.scan.kCWant * ratio
  let large := decide ((s.reg Reg.lightSlewPct : Rat) / 100 < absQ (ratio - 1))
  let s1 := { s with scan := { s.scan with periodUs := tm.1, sweepNs := tm.2.1, sweepBand := coldestBand s, sweepSteps := stepsFor (coldestBand s) tm.2.1, scansThisFrame := n, spread := tm.2.2,
                                           kCWant := if changed then want else s.scan.kCWant,
                                           kCSlewing := s.scan.kCSlewing || (changed && large) },
                     lamp := { s.lamp with timingNew := s.lamp.timingNew || changed } }
  if !changed then s1
  else
    let s2 := startRelax true s1
    -- once for each spreading: at the first boundary of its plan
    if (!tm.2.2.isEmpty && !going) || large then
      raise 37 (bytesLE 2 tm.1 ++ bytesLE 1 tm.2.2.length) s2
    else s2

/-- The values of a list set. -/
def setValues (s : State) (l : NatMap) : State := l.foldl (fun st p => st.setReg p.1 p.2) s

/-- R191, R192: an admitted update of a layer applies: its values stand, and the layer is neither stale nor CLEARED. -/
def applyUpdate (s : State) (n : Nat) : State :=
  match vget s.commits.updates none n with
  | none => s
  | some u =>
    let s1 := setValues s u.values
    { s1 with commits := { s1.commits with updates := vset s1.commits.updates n none },
              pipe := { s1.pipe with stale := vset s1.pipe.stale n 0, staleMask := setBit s1.pipe.staleMask n false, cleared := vset s1.pipe.cleared n false } }

/-- R40, R41, R42: a changed orientation dirties all tiles, and rebuilds the Glaze cache of a span that is not empty; the stock firmware is to
recompute the Lantern frames. -/
def newOrientation (s : State) (old : Nat) : State :=
  let new := s.reg Reg.compOrientation
  if new = old then { s with pipe := { s.pipe with turning := false } }
  else
    let span := glazeSpan s (frameCfg s)
    let s1 := if span ≠ 0 then glazeRebuild s span else { s with pipe := { s.pipe with composeDirty := allTiles } }
    dueLantern { s1 with pipe := { s1.pipe with turning := true } }

/-- R278: the notices to modules pushed in their order, those to a full queue kept. -/
def postModuleHeld (s : State) : State :=
  s.kdp.moduleHeld.foldl (fun st p =>
    if qFull st p.1 || st.kdp.moduleHeld.any (fun x => x.1 == p.1) then { st with kdp := { st.kdp with moduleHeld := st.kdp.moduleHeld ++ [p] } }
    else qPut st p.1 (qEntry st p.1 0x0A10 p.2)) { s with kdp := { s.kdp with moduleHeld := [] } }

/-- R372: the entry of KIND 0x0A10 by which the dictionary service tells a module of a new value of its entry; other entries push none. -/
def moduleNotice (access : Access) (s : State) (key : Nat) : State :=
  match s.modules.find? (fun m => (rowIn m.rows key).isSome) with
  | some m =>
    if firmwareRuns s 2 then
      postModuleHeld { s with kdp := { s.kdp with moduleHeld := s.kdp.moduleHeld ++ [(m.engine + 6, bytesLE 2 (key / 256) ++ bytesLE 1 key ++ bytesLE 1 access.code)] } }
    else s
  | none => s

/-- R81: the pending commit applied, with E34. -/
def applyCommit (s : State) : State :=
  match s.commits.pending with
  | none => (List.range 8).foldl applyUpdate s
  | some c =>
    let s1 := (List.range 8).foldl applyUpdate (setValues s c.values)
    let s2 := { s1 with commits := { s1.commits with pending := none, deferred := false, appliedTag := c.tag } }
    let s3 := raise 34 (bytesLE 1 c.tag ++ bytesLE 3 0 ++ bytesLE 4 s2.scan.frameCount) s2
    (c.values.map (·.1)).foldl (moduleNotice .rc) s3

/-- R199, R201: a writeback still running is abandoned at a global swap, and the next begins. -/
def restartWriteback (s : State) : State :=
  let s1 := if s.pipe.writeback.isSome then s.bump Reg.compWbAborted else s
  let h := s1.reg Reg.compWbHandle
  let ok : Bool := match s1.channel h with
    | some c => c.type == 2 && decide (4096 ≤ c.size)
    | none => false
  { s1 with pipe := { s1.pipe with wbPaid := 0, writeback := if s1.reg Reg.compWbMode ≠ 0 ∧ ok then some (h, s1.reg Reg.compWbSource, s1.scan.frameCount) else none } }

/-- R160, R165: pixels and clusters of twins whose first frame computed with their code has now become the front. -/
def armSwitches (s : State) : State :=
  let computed (t : Nat) : Bool := s.pipe.driven.getLsbD t && !s.pipe.nextInternal.getLsbD t
  let ready := s.latches.isolateWait.filter (fun p => computed (pixelTile p))
  let side (k : Nat) (x : TwinSide) : TwinSide := if x = .waiting ∧ computed (sinkTile k) then .front else x
  { s with latches := { s.latches with isolateWait := s.latches.isolateWait.filter (fun p => !ready.contains p),
                                       isolateNext := s.latches.isolateNext ++ ready },
           lamp := { s.lamp with twins := s.lamp.twins.map (fun t =>
             { t with sinkSide := side t.sink t.sinkSide, partnerSide := side t.partner t.partnerSide }) } }

/-- The pipeline after a swap: R75's reloads, and the work held over for the frame now prepared. -/
def nextFrame (s : State) : State :=
  let p := s.pipe
  { s with pipe := { p with reload := p.loadedNew, loadedNew := 0, composed := 0, driven := 0, loadDirty := 0,
                            composeDirty := p.nextCompose, driveDirty := p.nextInternal, nextInternal := 0, nextCompose := 0 } }

/-- The global swap of composed and drive frames with the commit that targets it (R73, R81, R120, R198, R271). -/
def storeSwap (s : State) : State :=
  let tm := nextTiming s
  let mode := s.reg Reg.frameSyncMode
  let ori := s.reg Reg.compOrientation
  let bound := (List.range 8).filterMap (fun n => let h := s.reg (Reg.layerHandle n); if h = 0 then none else some h)
  let s1 := applyFlips (exchangeTiles (armSwitches s))
  let s2 := applyTiming tm (applyCommit s1)
  let s3 := nextFrame { s2 with refs := { s2.refs with rho := s2.refs.rhoNext }, pipe := { s2.pipe with prevBound := bound } }
  let s4 := newOrientation (setSyncMode s3 mode) ori
  let s5 := retime (restartWriteback s4)
  let due := ((List.range 16).map (fun r => b2n (s5.reg (Reg.rectMode r) % 2 == 1) * 2 ^ r)).sum
  { s5 with lamp := { s5.lamp with rectDue := due }, scan := { s5.scan with swapped := true } }

/-- R73: every stagger group exchanges its latches at the start of its next own scan. -/
def groupsDue (s : State) : State :=
  { s with scan := { s.scan with groups := Vector.ofFn (fun g => { grpOf s g.val with swapPending := true }) } }

/-- Whether the front drive frame commands light in a half that is powered and not dark (R467). -/
def commandsLight (s : State) : Bool :=
  (List.range 32).any (fun f => accounted s s.power.darkFront f && vget s.pipe.accFront (0, 0) f != (0, 0))

/-- R475, R476, R504, R467: what the host's swap does to the halves, the Lantern beam and the device state. -/
def hostSwap (s : State) : State :=
  let released := s.lantern.state == 3 && s.lantern.release
  let s1 := { s with pipe := { s.pipe with accFront := s.pipe.accBack },
                     power := { s.power with darkFront := s.power.darkBack, light := if s.power.darkBack = 3 then 0 else 2 } }
  if released then releaseSwap s1 else s1

/-- The swap of the dark words that the Lantern beam controller wrote (R475, R476): the Lantern beam ends when no half stays lit. -/
def beamDarkSwap (s : State) : State :=
  let s1 := { s with power := { s.power with darkFront := s.power.darkBack } }
  if s.power.darkFront = s.power.darkBack then s1
  else if s1.power.darkFront = 3 then
    { s1 with lantern := { s1.lantern with state := 0, cause := 0xFF, copyDue := false, release := false, reload := [] },
              power := { s1.power with light := 0 },
              pipe := { s1.pipe with loadDirty := allTiles, reload := 0 } }
  else { s1 with lantern := { s1.lantern with copyDue := true } }

/-- R467, R476: the state changes that wait for a swap. -/
def settleRequest (s : State) : State :=
  match s.power.request with
  | some 2 => if s.power.device = 3 ∧ commandsLight s then { enterLit s with power := { (enterLit s).power with request := none } } else s
  | some 1 => if s.power.darkFront = 3 then let s1 := enterReady s; { s1 with power := { s1.power with request := none } } else s
  | some _ =>
    if s.power.darkFront = 3 then
      let s1 := setDevice s 5
      { s1 with power := { s1.power with request := none }, bist := { s1.bist with entered := s1.now, window := false, running := false } }
    else s
  | none => s

/-! ### Stale layers (R190 to R192) -/

/-- One layer whose update misses this boundary: E64 and its policy. -/
def missLayer (s : State) (n : Nat) : State :=
  match vget s.commits.held none n with
  | none => s
  | some u =>
    let k := Nat.min 255 (vget s.pipe.stale 0 n + 1)
    let s1 := { s.bump Reg.compHeldCount with pipe := { s.pipe with stale := vset s.pipe.stale n k, staleMask := setBit s.pipe.staleMask n true } }
    let s2 := raise 64 (bytesLE 1 n ++ bytesLE 1 k ++ bytesLE 1 u.cause) s1
    if k < s2.reg (Reg.layerStaleLimit n) then s2
    else match s2.reg (Reg.layerStalePolicy n) with
      | 1 =>
        if vget s2.pipe.cleared false n then s2
        else
          let get := frameCfg s2
          let cfg := layerCfg s2 get n
          let shown := (drawn s2 get).any (fun l => l.1 == n)
          let span0 := glazeSpan s2 get
          let s3 := { s2 with pipe := { s2.pipe with cleared := vset s2.pipe.cleared n true } }
          let span1 := glazeSpan s3 get
          let s4 := if shown then { s3 with pipe := { s3.pipe with composeDirty := s3.pipe.composeDirty ||| footprintTiles (s3.reg Reg.compOrientation) cfg } } else s3
          if span1 ≠ span0 ∧ span1 ≠ 0 then glazeRebuild s4 span1 else s4
      | 2 => if k = s2.reg (Reg.layerStaleLimit n) then lightLantern s2 3 else s2
      | _ => s2

/-! ### FRAME_BOUNDARY -/

/-- What starts again with each frame: once-a-frame events, the window and the admission point, values that take effect at the boundary
(R83, R85, R278, R285, R393), the feed's count of boundaries (R501), the leader's pulse (R86). -/
def beginFrame (t1 : Nat) (s : State) : State :=
  let count := (s.scan.frameCount + 1) % 4294967296
  let counted := s.power.device = 3 ∨ s.power.device = 4
  let s1 := { s with
    scan := { s.scan with frameStart := t1, scanInFrame := 0, frameCount := count, windowClosed := false, admissionPassed := false, swapped := false
                          windowUs := s.reg Reg.commitWindowUs, teDelayUs := s.reg Reg.frameTeDelayUs
                          sync := { s.scan.sync with pin := s.reg Reg.frameSyncMode == 1 && s.power.vio } }
    pipe := { s.pipe with failRaised := [], satRaised := 0 }
    tolls := { s.tolls with raised := Vector.replicate 8 false }
    queues := s.queues.map (fun q => { q with overflowRaised := false })
    host := { s.host with feedMissed := if counted then s.host.feedMissed + 1 else s.host.feedMissed }
    kdp := { s.kdp with raised := 0 }
    lamp := { s.lamp with lightDue := if s.lamp.lightScan then (lightRects s).map (fun r => (r, rectTileList s r)) else []
                          lightScan := false } }
  supervisorFeed (raise 32 (bytesLE 8 t1) s1)

/-- Whether the swap takes place at this boundary (R13, R502). -/
def swapReady (s : State) : Bool :=
  backComplete s && allSwapped s && (s.lantern.state != 1 || lanternMayLight s)

/-- R82, R120: without a swap of the store frame the pending commit is deferred; the internal work that arose after the admission point joins the frame
still being prepared, which the next boundary swaps. -/
def deferCommit (s : State) : State :=
  { s with commits := { s.commits with deferred := s.commits.pending.isSome },
           pipe := { s.pipe with driveDirty := s.pipe.driveDirty ||| s.pipe.nextInternal, nextInternal := 0 } }

/-- R78, R79, R82: a late commit, which now targets the next boundary, joins the frame being prepared unless a deferred commit still stands. -/
def takeLate (s : State) : State :=
  match s.commits.pending, s.commits.late with
  | none, some c => joinCommit { s with commits := { s.commits with late := none } } c
  | _, _ => s

/-- The swap that this boundary allows; TE_OUT rises for each (R84). A timing change of a band or a step of a spread waits with a deferred swap, as part
of which R92 has it (DESIGN CHOICE, log 201). -/
def boundarySwap (s : State) : State :=
  if !swapReady s then deferCommit s
  else
    let s0 := groupsDue s
    let s1 := noteSwap { s0 with scan := { s0.scan with swapped := true } }
    let s2 :=
      if s1.lantern.state = 1 then
        let s3 := lanternSwap s1
        if storeComplete s3 then storeSwap s3 else deferCommit s3
      else if s1.lantern.state = 2 ∨ (s1.lantern.state = 3 ∧ !s1.lantern.release) then beamDarkSwap (storeSwap s1)
      else hostSwap (storeSwap s1)
    settleRequest s2

/-- What the scan that ends leaves for this one: the mean VLED, its lowest value and the lowest node voltage (R123, R468, R478). -/
def closeAdc (s : State) : State :=
  let a := s.adc
  let mean : Rat := if a.vledNow.2 = 0 then a.vledMean else ((a.vledNow.1 : Nat) : Rat) / (a.vledNow.2 : Rat) / 500
  { s with adc := { a with vledMean := mean, vledNow := (0, 0), vledMinPrev := a.vledMin, vledMin := none,
                           nodePrev := a.nodeNow, nodeNow := none } }

/-- The end of a scan: the averages of its ADC samples stand, and the Lamplighter judges its samples (R139, R169). -/
def endScan (s : State) : State := judgeScan (closeAdc s)

/-- The boundary t1 up to its swap: the scan that ends is judged, the new frame is numbered, and a changed timing is marked. -/
def atBoundary (s : State) : State :=
  let s0 := s.atLeast (nextBoundary s)
  retime (dropLantern (beginFrame (nextBoundary s) (if s.scan.scanInFrame = 0 then s0 else endScan s0)))

/-- What the boundary t1 does, its events in the order of its effects. -/
def frameBoundary (s : State) : State :=
  let s1 := atBoundary s
  let s2 := armTriggers 3 s1.scan.frameStart (clearSides (boundarySwap s1))
  -- the updates that miss this boundary, before those of a late commit join them (R191)
  let s3 := (List.range 8).foldl missLayer s2
  let s4 := admitHeldSets (takeLate s3)
  lanternRecompute (admission s4 (nextBoundary s4))

/-- FRAME_BOUNDARY (R384, R13, R69 to R75, R81, R82, R92 to R98, R120, R187 to R192, R198 to R201, R271, R272): the boundary t1 passes. -/
def execFrameBoundary (s : State) : Host.Outcome State Fault Refusal :=
  if s.scan.running then .next (inOrder frameBoundary s) else .next s

/-! ### CLUSTER_SWAP -/

/-- R165: the clusters of twins that have swapped onto the first frame computed with their twin; a twin switches with the later of the two. -/
def switchTwins (s : State) : State :=
  let side (k : Nat) (x : TwinSide) : TwinSide :=
    if x = .front ∧ !(grpOf s (groupOf ((k % 512) * 4) ((k / 512) * 4))).swapPending then .lit else x
  let twins := s.lamp.twins.map (fun t => { t with sinkSide := side t.sink t.sinkSide, partnerSide := side t.partner t.partnerSide })
  (twins.filter (fun t => !t.switched && t.sinkSide == .lit && t.partnerSide == .lit)).foldl applyTwin { s with lamp := { s.lamp with twins := twins } }

/-- R475: the halves whose drain waits for the last cluster's swap onto the dark frame. -/
def drainHalves (s : State) : State :=
  [0, 1].foldl (fun st h =>
    if bitAt st.power.drainAfter h && bitAt st.power.darkFront h then
      let d := domainOf st (5 + h)
      let st1 := { st with power := { st.power with drainAfter := setBit st.power.drainAfter h false } }
      if d.state = 2 then setDomain st1 (5 + h) { d with state := 3, want := false } else setDomain st1 (5 + h) { d with want := false }
    else st) s

/-- CLUSTER_SWAP (R73, R74, R160, R165, R302, R475, R502): the clusters of a stagger group exchange their latches at the start of their
first own scan after the boundary; the isolation switches that waited for it open. -/
def execClusterSwap (g : Fin 16) (again : List Nat) (echo : List EchoFault) (s : State) : Host.Outcome State Fault Refusal :=
  let x := grpOf s g
  if x.swapPending then
    let off := bits (s.reg Reg.scanStagger) (8 * g.val + 3) (8 * g.val)
    let s0 := s.atLeast (s.scan.frameStart + off * scanNs s / 16)
    let s1 := { s0 with scan := { s0.scan with groups := vset s0.scan.groups g { x with front := !x.front, swapPending := false } } }
    let s2 := (s1.latches.isolateNext.filter (fun p => pixelGroup p == g.val)).foldl openSwitch s1
    let s3 := switchTwins s2
    .next (if allSwapped s3 then retime (drainHalves (lanternUpkeep again echo s3)) else s3)
  else .next s

/-! ### TE_OUT, the commit window, the admission point -/

/-- TE_OUT_RISE (R84): TE_OUT rises after a boundary with a swap. -/
def execTeOutRise (s : State) : Host.Outcome State Fault Refusal :=
  if s.scan.running && s.scan.swapped && !s.scan.teOut && !s.scan.windowClosed then
    let s1 := s.atLeast (s.scan.frameStart + s.scan.teDelayUs * 1000)
    .next (raise 33 (bytesLE 4 s1.scan.frameCount) { s1 with scan := { s1.scan with teOut := true } })
  else .next s

/-- COMMIT_WINDOW_CLOSE (R78, R84): tW. -/
def execCommitWindowClose (s : State) : Host.Outcome State Fault Refusal :=
  if s.scan.running && !s.scan.windowClosed then
    let s1 := s.atLeast (nextBoundary s - s.scan.windowUs * 1000)
    .next { s1 with scan := { s1.scan with windowClosed := true, teOut := false } }
  else .next s

/-- ADMISSION_POINT (R120, R127, R475, R476): t1 − T_FRAME / 2. -/
def execAdmissionPoint (s : State) : Host.Outcome State Fault Refusal :=
  if s.scan.running && !s.scan.admissionPassed then
    let s1 := admitDark (residualUpdate (s.atLeast (nextBoundary s - frameNs s / 2)))
    .next { s1 with scan := { s1.scan with admissionPassed := true } }
  else .next s

/-! ### SYNC (R86 to R91) -/

/-- R88: the phase error of a follower's frame boundary at this instant in ns, along the shorter direction. -/
def phaseError (s : State) : Int :=
  let T : Int := frameNs s
  let e := ((s.scan.frameStart : Int) - (s.now : Int) - toInt 32 (s.reg Reg.frameSyncOffsetNs)) % T
  if T < 2 * e then e - T else e

/-- The state with SYNC replaced. -/
def setSync (s : State) (x : SyncUnit) : State := { s with scan := { s.scan with sync := x } }

/-- R88: the trim that a follower moves towards. The specification bounds the trim and its steps and gives its direction; the value
is free within them (log 41). -/
def wantTrim (s : State) (e : Int) : Int × State :=
  let (d, s1) := s.drawNat
  let t := s.scan.sync.trimPpm
  let mag : Int := (d % 40001 : Nat)
  (if e = 0 then t else if 0 < e then clampI (-20000) t (t - mag) else clampI t 20000 (t + mag), s1)

/-- R90: LOCKED left for LOST: the trim stays as it is. -/
def loseSync (x : SyncUnit) : SyncUnit := { x with state := 4, ignored := 0, inBand := 0, wantPpm := x.trimPpm }

/-- R87, R89: whether an edge follows the leader's last one by the programmed frame period to within 2 %. -/
def edgeInPeriod (s : State) : Bool :=
  let P := s.reg Reg.scanScansPerFrame * s.reg Reg.scanPeriodUs * 1000
  match s.scan.sync.leaderEdge with
  | some t => decide (((P : Int) - ((s.now - t : Nat) : Int)).natAbs * 50 ≤ s.now - t)
  | none => false

/-- SYNC_EDGE (R87 to R90, R485): a follower's SYNC input rises; an input that was stuck has been inactive before it rises again. -/
def execSyncEdge (s : State) : Host.Outcome State Fault Refusal :=
  let s := setInput s 3 { inputOf s 3 with stuck := false }
  let x := s.scan.sync
  if s.scan.running && s.reg Reg.frameSyncMode == 2 && s.power.vio then
    let e := phaseError s
    if x.state = 3 ∧ frameNs s < 10 * e.natAbs then
      if x.ignored + 1 < 3 then .next (setSync s { x with ignored := x.ignored + 1, leaderEdge := some s.now })
      else .next (raise 39 [0] (setSync s (loseSync { x with leaderEdge := some s.now })))
    else
      let (want, s1) := wantTrim s e
      let near := decide (e.natAbs ≤ 500)
      -- consecutive frames: a frame without its edge begins the count again, as does an edge off the programmed period
      let n := if !near then 0 else if edgeInPeriod s then x.inBand + 1 else 1
      let state := if x.state = 4 then 2 else x.state
      let y : SyncUnit := { x with state := state, phaseErr := e, wantPpm := want, ignored := 0, lastEdge := s1.now, leaderEdge := some s1.now,
                                   inBand := n, acquiring := if x.state = 4 then s1.now else x.acquiring }
      if state = 2 ∧ 4 ≤ n then .next (raise 40 (bytesLE 4 (ofInt 32 x.trimPpm)) (setSync s1 { y with state := 3 }))
      else .next (setSync s1 y)
  else .next s

/-- SYNC_EDGE_MISSING (R90): no edge within 1.5 T_FRAME of an expected edge. -/
def execSyncEdgeMissing (s : State) : Host.Outcome State Fault Refusal :=
  let x := s.scan.sync
  if s.scan.running && x.state == 3 then
    let s1 := s.atLeast (x.lastEdge + frameNs s + frameNs s * 3 / 2)
    .next (raise 39 [1] (setSync s1 (loseSync x)))
  else .next s

/-- SYNC_ACQUIRE_TIMEOUT (R90): 100 frames in ACQUIRING without lock; the count begins again, so that E39 comes after every further 100 (DESIGN
CHOICE, log 201). -/
def execSyncAcquireTimeout (s : State) : Host.Outcome State Fault Refusal :=
  let x := s.scan.sync
  if s.scan.running && x.state == 2 then
    let s1 := s.atLeast (x.acquiring + 100 * frameNs s)
    .next (raise 39 [2] (setSync s1 { x with acquiring := s1.now }))
  else .next s

/-- SYNC_PULSE_END (R86): 2 µs after the leader's frame boundary. -/
def execSyncPulseEnd (s : State) : Host.Outcome State Fault Refusal :=
  if s.scan.sync.pin then
    let s1 := s.atLeast (s.scan.frameStart + 2000)
    .next (setSync s1 { s1.scan.sync with pin := false })
  else .next s

/-! ### WRITEBACK_DONE (R199, R200) -/

/-- One tile copied with its check word, or with the complement of its CRC where it fails its check (R285). -/
def copyOut (drive : Bool) (c : Channel) (again : List Nat) (s : State) (t : Nat) : State :=
  let src := if drive then driveFront s t else composedFront s t
  let (ok, s1) := verifyTile s 4 src again
  let d := tileData s1 src
  let w := if ok then tileCheck s1 src else 4294967295 - crc32c d
  snoop (writeTile s1 (.capture c t) d w) 2 c.handle d

/-- R199, R22: up to `n` of the 65,536 accesses of a copy charged to C7, as far as it has tokens. -/
def payWriteback (n : Nat) (s : State) : State :=
  let want := Nat.min n (65536 - s.pipe.wbPaid)
  let (paid, s1) := pay s 7 want
  { s1 with pipe := { s1.pipe with wbPaid := s1.pipe.wbPaid + paid } }

/-- R199: the share of a scan in the copy that runs: the accesses spread over the scans of a frame (DESIGN CHOICE, log 104). -/
def writebackShare (s : State) : State :=
  if s.pipe.writeback.isSome && domainOn s 3 then payWriteback (ceilDiv 65536 s.scan.scansThisFrame) s else s

/-- WRITEBACK_DONE (R199, R200, R285, R289): the copy of the frame completes. -/
def execWritebackDone (o : TileObs) (s : State) : Host.Outcome State Fault Refusal :=
  match s.pipe.writeback with
  | none => .next s
  | some (h, src, frame) =>
    match s.channel h with
    | none => .next { s with pipe := { s.pipe with writeback := none } }
    | some c =>
      if domainOn s 3 then
        let s1 := payWriteback 65536 s
        if s1.pipe.wbPaid < 65536 then .next s1
        else
          let s2 := (List.range 4096).foldl (copyOut (src == 1) c o.transient) (eccFindAll s1 o.ecc)
          let s3 := postEntry s2 8 7 0x0801 (bytesLE 4 h ++ bytesLE 4 frame)
          let s4 := (s3.setReg Reg.compWbFrame frame)
          let s5 := if s4.reg Reg.compWbMode = 1 then s4.setReg Reg.compWbMode 0 else s4
          .next (raise 69 (bytesLE 4 h ++ bytesLE 4 frame) { s5 with pipe := { s5.pipe with writeback := none } })
      else .next s

end Sys2Proof.Machine
end

