-- ==== Sys2Proof/Machine/Checks.lean ====
section
/-!
DEFINITION. The rectangle value check and the light check (R293 to R302).
-/

namespace Sys2Proof.Machine

/-! ### The value check (R293 to R296) -/

/-- The check word of a tile as another reader receives it: 0 for a poisoned word (R255). -/
def readCheck (s : State) (r : TileRef) : Nat := if poisoned s (r.side + 4 * r.slot) 4 then 0 else tileCheck s r

/-- R294: the value of a rectangle over the front frame that it names. -/
def rectValue (s : State) (r : Nat) : Nat :=
  let drive := s.reg (Reg.rectFrame r) == 1
  crc32c ((rectTileList s r).flatMap (fun t => bytesLE 4 (readCheck s (if drive then driveFront s t else composedFront s t))))

/-- R295, R300: the action of a rectangle after a mismatch. -/
def rectAct (s : State) (r : Nat) : State := if s.reg (Reg.rectAction r) = 1 then lightLantern s 4 else s

/-- R295, R296: the comparison of a rectangle's value, or the learning of it. -/
def compareRect (s : State) (r v : Nat) : State :=
  let s1 := s.setReg (Reg.rectActual r) v
  if s1.lamp.learn.contains r then
    { s1.setReg (Reg.rectExpected r) v with lamp := { s1.lamp with learn := s1.lamp.learn.filter (· != r) } }
  else if v = s1.reg (Reg.rectExpected r) then s1.setReg Reg.integRectStatus (setBit (s1.reg Reg.integRectStatus) r false)
  else
    let s2 := (s1.bump (Reg.rectValueMismatches r))
    let s3 := s2.setReg Reg.integRectStatus (setBit (s2.reg Reg.integRectStatus) r true)
    rectAct (raise 112 (bytesLE 1 r ++ bytesLE 3 0 ++ bytesLE 4 v) s3) r

/-- RECT_VALUE_CHECK (R293 to R296): within one scan after a global swap, as C6 has tokens. -/
def execRectValueCheck (r : Fin 16) (ecc : List EccFinding) (s : State) : Host.Outcome State Fault Refusal :=
  if bitAt s.lamp.rectDue r && domainOn s 3 then
    let n := s.reg (Reg.rectTilesW r) * s.reg (Reg.rectTilesH r)
    let (ok, s1) := charge s 6 (.rect r) (ceilDiv n 4)
    if ok then
      let s2 := eccFindAll s1 ecc
      .next (compareRect { s2 with lamp := { s2.lamp with rectDue := setBit s2.lamp.rectDue r false } } r (rectValue s2 r))
    else .next s1
  else .next s

/-- R296: a rectangle that is to learn at its next comparison. -/
def learnRect (s : State) (r : Nat) : State :=
  { s with lamp := { s.lamp with learn := if s.lamp.learn.contains r then s.lamp.learn else s.lamp.learn ++ [r] } }

/-! ### The light check (R298 to R302) -/

/-- R119: every drive tile computed again as internal work. -/
def recomputeDrive (s : State) : State := markInternal s allTiles

/-- R300, R302: what follows E113. -/
def afterMismatch (s : State) (r : Nat) (tiles : List Nat) : State :=
  let s1 :=
    if lanternLit s then { s with lantern := { s.lantern with reload := s.lantern.reload.filter (fun q => !tiles.contains q.1) ++ tiles.map (fun t => (t, 2)) } }
    else if firmwareRuns s 3 then recomputeDrive s else s
  rectAct s1 r

/-- Whether the sampled own scans are over: each has reached its last position. -/
def lightSampled (s : State) : Bool :=
  (List.range 16).all (fun g => !bitAt s.lamp.lightGroups g || (grpOf s g).pos == some 15)

/-- LIGHT_CHECK (R299 to R302): once the sampled own scans of the frame are over, a rectangle's pixels are compared. -/
def execLightCheck (r : Fin 16) (s : State) : Host.Outcome State Fault Refusal :=
  match s.lamp.lightDue.lookup r.val with
  | none => .next s
  | some tiles =>
    if lightSampled s then
      let s1 := { s with lamp := { s.lamp with lightDue := s.lamp.lightDue.filter (fun d => d.1 != r.val) } }
      let bit (st : State) (b : Bool) : State := st.setReg Reg.integLightUnsampled (setBit (st.reg Reg.integLightUnsampled) r b)
      if s1.lamp.lightBad then .next (bit s1 true)
      else
        let s2 := bit s1 false
        let diff := (s2.lamp.conducted.filter (fun p => tiles.contains (pixelTile p))).eraseDups
        if diff.isEmpty then .next (s2.setReg Reg.integRectStatus (setBit (s2.reg Reg.integRectStatus) (16 + r.val) false))
        else
          let first := diff.foldl Nat.min 1048575
          let s3 := s2.bump (Reg.rectLightMismatches r)
          let s4 := s3.setReg Reg.integRectStatus (setBit (s3.reg Reg.integRectStatus) (16 + r.val) true)
          .next (afterMismatch (raise 113 (bytesLE 1 r ++ bytesLE 3 diff.length ++ bytesLE 3 first) s4) r tiles)
    else .next s

/-- The tiles of every light-checked rectangle, in tile index order (R289). -/
def lightTiles (s : State) : List Nat := TileSet.toList (tileSet ((lightRects s).flatMap (rectTileList s)))

/-- R299, R302: tiles read for the light check: from the Lantern frame in MRAM, or from the front drive slots. A tile that fails its check is compared as
dark; for a front drive slot the unit code of its E114 is not stated (DESIGN CHOICE, log 193). -/
def readLight (again : List Nat) : List Nat → State → State
  | [], s => s
  | t :: ts, s =>
    let (ws, s1) :=
      if lanternLit s then
        let (ok, st) := lanternRead s s.lantern.frame t false (again.contains t)
        (if ok then halves (lanternTile st st.lantern.frame t) else [], st)
      else
        let r := driveFront s t
        let (ok, st) := verifyTile s 9 r (if again.contains t then [r.base] else [])
        (if ok then halves (tileData st r) else [], st)
    readLight again ts { s1 with lamp := { s1.lamp with lightRead := s1.lamp.lightRead ++ [(t, ws)], lightTodo := s1.lamp.lightTodo.filter (· != t) } }

/-- R299, R302: the tiles that a scan may read of those still to do: an even share in tokens of C5, paid towards the tiles in order; from MRAM an even
share in tiles. -/
def lightShare (s : State) : List Nat × State :=
  let total := (lightTiles s).length
  let n := s.scan.scansThisFrame - 1
  if lanternLit s then (s.lamp.lightTodo.take (ceilDiv total n), s)
  else
    let (k, s1) := pay s 5 (Nat.min (ceilDiv (8 * total) n) (8 * s.lamp.lightTodo.length - s.lamp.lightPaid))
    let paid := s1.lamp.lightPaid + k
    (s1.lamp.lightTodo.take (paid / 8), { s1 with lamp := { s1.lamp with lightPaid := paid % 8 } })

/-- R299: the light check at the start of a scan: the reads of the scans before the last, and the sampled own scans of the last. -/
def lightScanStart (again : List Nat) (s : State) : State :=
  let i := s.scan.scanInFrame
  let n := s.scan.scansThisFrame
  if i < n then
    let (ts, s1) := lightShare (if i = 1 then { s with lamp := { s.lamp with lightTodo := lightTiles s, lightRead := [], lightPaid := 0 } } else s)
    readLight again ts s1
  else if (lightRects s).isEmpty then s
  else { s with lamp := { s.lamp with lightRef := s.lamp.lightRead, lightRead := [], conducted := [], lightBad := false, lightScan := true } }

end Sys2Proof.Machine
end

