-- ==== Sys2Proof/Machine/Adc.lean ====
section
/-!
DEFINITION. The measurement subsystem (chapter 13): converters, groups, result words, injected conversions, the rotating spare and slice
failure, captures; and what the supervisor takes from the system groups (R425, R453 group 0, R478 to R480, R483).
-/

namespace Sys2Proof.Machine

/-! ### Parts -/

/-- A converter. -/
def convOf (s : State) (k : Nat) : Converter := vget s.adc.convs ⟨none, 0, 0, 0, false, [], none⟩ k

/-- The state with a converter replaced. -/
def setConv (s : State) (k : Nat) (c : Converter) : State := { s with adc := { s.adc with convs := vset s.adc.convs k c } }

/-- A physical slice. -/
def sliceOf (s : State) (n : Nat) : Slice := vget s.adc.slices State.sliceReset n

/-- The state with a slice replaced. -/
def setSlice (s : State) (n : Nat) (x : Slice) : State := { s with adc := { s.adc with slices := vset s.adc.slices n x } }

/-- A group's run-time state. -/
def adcGroup (s : State) (g : Nat) : Group := vget s.adc.groups State.groupAdcReset g

/-- The state with a group's run-time state replaced. -/
def setAdcGroup (s : State) (g : Nat) (x : Group) : State := { s with adc := { s.adc with groups := vset s.adc.groups g x } }

/-- A group is enabled: the system groups G0 to G2 always, G4 to G7 by `adcg.enable`. -/
def groupOn (s : State) (g : Nat) : Bool := decide (g < 3) || (decide (4 ≤ g) && s.flag (Reg.adcgEnable g))

/-- The converters that a group of the user names. -/
def groupConvs (s : State) (g : Nat) : List Nat :=
  if s.reg (Reg.adcgMode g) = 1 then [2, 3] else (List.range 4).filter (fun k => bitAt (s.reg (Reg.adcgConverters g)) k)

/-- Whether an enabled PAIR group shifts the grid of AD3 (R415). -/
def pairEnabled (s : State) : Bool := [4, 5, 6, 7].any (fun g => groupOn s g && s.reg (Reg.adcgMode g) == 1)

/-- The scale factor K of a channel (R417). -/
def channelK (c : Nat) : Rat := if c = 0 ∨ c = 1 then 4 else if c = 5 then 8 else if c = 9 then 2 else 1

/-- R418: V_REF of a reference in volts. -/
def vRef (s : State) (ref : Nat) : Rat :=
  if ref = 0 then 2048 / 1000 else if ref = 1 then s.real (Reg.adcChValue 9) else s.real (Reg.adcChValue 0)

/-- R420: the settling time of a change of reference in ns. -/
def settleNs (old new : Nat) : Nat := if old = new then 0 else if old = 2 ∨ new = 2 then 5000 else 2000

/-! ### Triggers (R423 to R427) -/

/-- A conversion queued on a converter. -/
def pushPend (s : State) (k : Nat) (p : Pend) : State :=
  let c := convOf s k
  setConv s k { c with queue := c.queue ++ [p] }

/-- The conversions of one round of a group: converter, channel, index. -/
def groupRound (s : State) (g : Nat) : List (Nat × Nat × Nat) :=
  match g with
  | 0 => [(0, 0, 0), (0, 1, 1), (0, 5, 2), (0, 15, 3), (0, 3, 4)]
  | 1 => (List.range 4).flatMap (fun k => [(k, 13, 0), (k, 14, 1)]) ++ [(1, 6, 2), (1, 7, 3), (1, 8, 4), (1, 9, 5), (1, 12, 6)]
  | 2 => (List.range 16).map (fun i => (1, 11, i)) ++ (List.range 16).map (fun i => (1, 10, 16 + i))
  | 3 => []
  | _ =>
    let chan (i : Nat) : Nat := s.regByte (Reg.adcgChannels g) i
    let n := s.reg (Reg.adcgCount g)
    match s.reg (Reg.adcgMode g) with
    | 0 => (List.range n).map (fun i => ((groupConvs s g).headD 2, chan i, i))
    | 1 => (List.range n).map (fun i => (2 + i % 2, chan 0, i))
    | _ => ((groupConvs s g).zip (List.range 4)).map (fun p => (p.1, chan p.2, p.2))

/-- R427: the precedence of a group's conversions: 0 is kept for injected ones. -/
def groupPrec (s : State) (g : Nat) : Nat := if 4 ≤ g ∧ s.reg (Reg.adcgMode g) = 2 then 1 else 2 + g

/-- R426, R427: a trigger of an enabled group: its round is queued, or the trigger is dropped. -/
def triggerGroup (s : State) (g : Nat) : State :=
  let x := adcGroup s g
  if x.left ≠ 0 then setAdcGroup (s.bump Reg.adcTrigOverrun) g { x with overrun := true }
  else
    let round := (groupRound s g).filter (fun p => (convOf s p.1).slice.isSome)
    let s1 := setAdcGroup s g { x with left := round.length }
    round.foldl (fun st p => pushPend st p.1 ⟨groupPrec s g, g, p.2.1, p.2.2⟩) s1

/-- R424, R426: the period of a group that triggers by the clock: G0 every 2,000 ns, G1 every 1 ms, a PERIODIC group as it says. -/
def trigPeriod (s : State) (g : Nat) : Option Nat :=
  if g = 0 then some 2000 else if g = 1 then some 1000000
  else if 4 ≤ g ∧ s.reg (Reg.adcgTrigger g) = 1 then some (s.reg (Reg.adcgPeriodNs g)) else none

/-- GROUP_TRIGGER (R424, R426): the next trigger of a group arrives at its instant: of the clock, of a scan or of a frame. The background calibration
schedule, which triggers G2, has no instants of its own (log 209). -/
def execGroupTrigger (g : Fin 8) (s : State) : Host.Outcome State Fault Refusal :=
  if !domainOn s 7 || !groupOn s g then .next s
  else if g.val = 2 then .next (triggerGroup s g)
  else match (adcGroup s g).due with
    | [] => .next s
    | t :: rest =>
      let next := match trigPeriod s g with
        | some p => [t + p]
        | none => []
      .next (triggerGroup (setAdcGroup (s.atLeast t) g { adcGroup s g with due := rest ++ next }) g)

/-- R426: a SOFTWARE trigger. -/
def fireGroup (s : State) (g : Nat) : State :=
  if domainOn s 7 && groupOn s g && s.reg (Reg.adcgTrigger g) == 4 then triggerGroup s g else s

/-! ### Enabling a group (R419, R420, R439) -/

/-- The enabled groups of the user on a converter, one of them apart. -/
def groupsOn (s : State) (k g : Nat) : List Nat := [4, 5, 6, 7].filter (fun h => h != g && groupOn s h && (groupConvs s h).contains k)

/-- R439: whether enabling a group is refused. -/
def enableRefused (s : State) (g : Nat) : Bool :=
  let mode := s.reg (Reg.adcgMode g)
  let ref := s.reg (Reg.adcgRef g)
  let ks := groupConvs s g
  let step := if mode = 1 then 50 else 100
  let refBad := ks.any (fun k => (decide (k < 2) && ref != 0) || (groupsOn s k g).any (fun h => s.reg (Reg.adcgRef h) != ref))
  let modeBad := match mode with
    | 0 => ks.length != 1
    | 1 => false
    | _ => decide (ks.length < 2)
  let trigBad := decide (s.reg (Reg.adcgPeriodNs g) % step ≠ 0) || decide (s.reg (Reg.adcgDelayNs g) % step ≠ 0)
  let pairBad := (mode == 2 && ks.contains 3 && [4, 5, 6, 7].any (fun h => h != g && groupOn s h && s.reg (Reg.adcgMode h) == 1)) ||
    (mode == 1 && [4, 5, 6, 7].any (fun h => h != g && groupOn s h && s.reg (Reg.adcgMode h) == 2 && (groupConvs s h).contains 3))
  refBad || modeBad || trigBad || pairBad || (mode != 1 && decide (8 < s.reg (Reg.adcgCount g)))

/-- R419, R420: a converter takes the reference of the first group enabled on it. -/
def takeRef (s : State) (k ref : Nat) : State :=
  let c := convOf s k
  if c.ref = ref then s else setConv s k { c with ref := ref, settleEnd := s.now + settleNs c.ref ref }

/-- R426, R438: a group enabled or disabled. -/
def setGroupEnable (s : State) (g : Nat) (on : Bool) : State :=
  if on then
    let s1 := (groupConvs s g).foldl (fun st k => takeRef st k (st.reg (Reg.adcgRef g))) s
    let hold := ((groupConvs s1 g).map (fun k => (convOf s1 k).settleEnd)).foldl Nat.max 0
    -- R426: the first PERIODIC trigger comes `adcg.delay_ns` after the grid point of the enabling (DEDUCED, log 209)
    let step := if s1.reg (Reg.adcgMode g) = 1 then 50 else 100
    let due := if s1.reg (Reg.adcgTrigger g) = 1 then [ceilDiv s1.now step * step + s1.reg (Reg.adcgDelayNs g)] else []
    let x : Group := { State.groupAdcReset with
      holdUntil := if s1.flag (Reg.adcgWaitSettle g) then hold else 0, due := due
      -- R437: a group on a converter that has no slice
      lost := (groupConvs s1 g).any (fun k => (convOf s1 k).slice.isNone) }
    (setAdcGroup s1 g x).setReg (Reg.adcgEnable g) 1
  else
    let s1 := (List.range 4).foldl (fun st k => let c := convOf st k; setConv st k { c with queue := c.queue.filter (fun p => p.group != g) }) s
    (setAdcGroup s1 g { adcGroup s1 g with left := 0, due := [] }).setReg (Reg.adcgEnable g) 0

/-- R419, R439, R470: the groups that the entries loaded at a start enable, enabled as by writes in ascending order; one that would be refused stays
disabled (DESIGN CHOICE, log 209). -/
def startGroups (s : State) : State :=
  let on := [4, 5, 6, 7].filter (groupOn s)
  let s1 := [4, 5, 6, 7].foldl (fun st g => setGroupEnable st g false) s
  on.foldl (fun st g => if enableRefused st g then st else setGroupEnable st g true) s1

/-- R424, R431, R437: what ANA begins with: the system groups' triggers, the groups enabled, and step 1 for the spare. -/
def startAna (s : State) : State :=
  let arm (st : State) (g : Nat) : State := setAdcGroup st g { adcGroup st g with due := [st.now] }
  let s1 := startGroups (arm (arm s 0) 1)
  { s1 with adc := { s1.adc with rotateAt := s1.now, spareReady := false, calBegan := s1.adc.spare.map (fun _ => s1.now) } }

/-! ### Injected conversions (R429, R430) -/

/-- A request becomes pending, or is dropped and counted. -/
def injectRequest (s : State) : State :=
  if s.adc.injState = 1 ∨ s.adc.injState = 2 then s.bump Reg.adcInjLost
  else
    let cfg := s.reg Reg.adcInjConfig
    let n := bits cfg 9 8 + 1
    let k := 2 + bits cfg 7 7
    let s1 := { s with adc := { s.adc with injState := 1, injLeft := n } }
    (List.range n).foldl (fun st i => pushPend st k ⟨0, 8, bits cfg (14 + 5 * i) (10 + 5 * i), i⟩) s1

/-- Whether an injected conversion is pending or running on a converter. -/
def injecting (s : State) (k : Nat) : Bool :=
  let c := convOf s k
  c.queue.any (fun p => p.group == 8) || (match c.running with | some r => r.group == 8 | none => false)

/-! ### The rotating spare and slice failure (R431 to R437) -/

/-- R434: the spare takes over the target converter; the slice relieved becomes the spare and begins step 1. -/
def handOver (s : State) : State :=
  let k := s.adc.target
  let c := convOf s k
  match s.adc.spare with
  | some n =>
    let s1 := setConv s k { c with slice := some n }
    let s2 := setSlice s1 n { sliceOf s1 n with strikes := 0 }
    { s2.bump Reg.adcHandovers with
      adc := { s2.adc with spare := c.slice, target := (k + 1) % 4, rotating := false, handover := false, spareReady := false, spareRef := c.ref,
                           calBegan := some s2.now } }
  | none => s

/-- R427, R437: a converter stops and its groups show LOST; the conversion that runs completes. -/
def loseConverter (s : State) (k : Nat) : State :=
  let c := convOf s k
  let s1 := setConv s k { c with slice := none, queue := [] }
  (List.range 8).foldl (fun st g =>
    let uses := if g < 4 then (groupRound st g).any (fun p => p.1 == k) else (groupConvs st g).contains k
    if groupOn st g && uses then
      let x := adcGroup st g
      setAdcGroup st g { x with lost := true, left := x.left - (c.queue.filter (fun p => p.group == g)).length }
    else st) s1

/-- R437: a converter whose slice has failed with no spare left: AD0 and AD1 take a slice from AD3 and then AD2; another one stops. -/
def coverConverter (s : State) (k : Nat) : State :=
  let donor := if k < 2 then [3, 2].find? (fun d => match (convOf s d).slice with | some m => !(sliceOf s m).failed | none => false) else none
  match donor with
  | some d => setConv (loseConverter s d) k { convOf s k with slice := (convOf s d).slice }
  | none => loseConverter s k

/-- R436, R437: the converter that waited for a spare that does not come. -/
def coverInvalid (s : State) : State :=
  [0, 1, 2, 3].foldl (fun st k => if (convOf st k).invalid then coverConverter (setConv st k { convOf st k with invalid := false }) k else st) s

/-- R437: the spare fails: E11 with 0xFF, and the rotation stops. -/
def spareFails (s : State) (n : Nat) : State :=
  let s1 := setSlice s n { sliceOf s n with failed := true }
  let s2 := { s1 with adc := { s1.adc with spare := none, noSpare := true, rotating := false, handover := false, calBegan := none } }
  raise 11 (bytesLE 1 n ++ bytesLE 1 0xFF) s2

/-- R436, R437: a slice fails: one in service, or the spare by a conversion that it began in service. A spare that another converter waits for is no
spare left. -/
def serviceFails (s : State) (n : Nat) : State :=
  let s1 := setSlice s n { sliceOf s n with failed := true }
  match (List.range 4).find? (fun k => (convOf s1 k).slice == some n) with
  | none => if s1.adc.spare = some n then spareFails s1 n else s1
  | some k =>
    match if (List.range 4).any (fun j => (convOf s1 j).invalid) then none else s1.adc.spare with
    | some sp =>
      let s2 := { s1 with adc := { s1.adc with rotating := false, handover := false } }
      if s2.adc.spareReady then
        let s3 := setConv s2 k { convOf s2 k with slice := some sp }
        raise 11 (bytesLE 1 n ++ bytesLE 1 sp) { s3 with adc := { s3.adc with spare := none, noSpare := true, calBegan := none } }
      else raise 11 (bytesLE 1 n ++ bytesLE 1 sp) (setConv s2 k { convOf s2 k with invalid := true })
    | none => coverConverter s1 k

/-- R431 steps 1 to 4, R453 group 2: the spare calibrated; both halves out of range, or the gain, make it fail. -/
def calibrateSpare (s : State) (n : Nat) (c : RotationObs) : Bool × State :=
  let out (o : Int) : Bool := decide (256 < o.natAbs)
  let drop (st : State) (h : Nat) (o : Int) : State :=
    let y := sliceOf st n
    if out o && !bitAt y.halfDropped h then
      raise 12 (bytesLE 1 2 ++ bytesLE 1 (2 * n + h)) (setSlice st n { y with halfDropped := setBit y.halfDropped h true })
    else st
  let s1 := drop (drop s 0 c.offset0) 1 c.offset1
  let d := (sliceOf s1 n).halfDropped
  let half := if bitAt d 0 then 1 else if bitAt d 1 then 0 else if c.offset1.natAbs < c.offset0.natAbs then 1 else 0
  let off := if half = 1 then c.offset1 else c.offset0
  if d % 4 = 3 ∨ 20000 < c.gain.natAbs then (false, s1)
  else
    let paired := decide (2 ≤ s1.adc.target) && pairEnabled s1
    let s2 := setSlice s1 n { sliceOf s1 n with offset := off, gain := c.gain, half := half, recover := 0,
                                                timing := if paired then c.timing else (sliceOf s1 n).timing }
    (true, (s2.setReg (Reg.adcSliceOffset n) (ofInt 16 off)).setReg (Reg.adcSliceGain n) (ofInt 32 c.gain))

/-- R431 steps 1 to 4, R433: the time that the calibration of the spare `n` takes: the settling of its reference, both series of conversions, and the
timing trim where the target is in a PAIR group. -/
def calNs (s : State) : Nat :=
  settleNs s.adc.spareRef (convOf s s.adc.target).ref + 51200 + (if 2 ≤ s.adc.target ∧ pairEnabled s then 6400 else 0)

/-- R433: the calibration of a slice waits for the injected conversion that still runs on it. -/
def calFrom (s : State) (n t : Nat) : Nat :=
  (List.range 4).foldl (fun m k => match (convOf s k).running with
    | some r => if r.group = 8 ∧ r.slice = n then Nat.max m (r.start + 100) else m
    | none => m) t

/-- R431 steps 1 to 4, R435, R436: the spare completes them, or fails; a converter that waits for it is taken over. -/
def spareSteps (s : State) (n : Nat) (c : RotationObs) : State :=
  let s0 := { s with adc := { s.adc with calBegan := none, spareRef := (convOf s s.adc.target).ref } }
  let (ok, s1) := calibrateSpare s0 n c
  if !ok then coverInvalid (spareFails s1 n)
  else
    match (List.range 4).find? (fun k => (convOf s1 k).invalid) with
    | some k =>
      let s2 := setConv s1 k { convOf s1 k with slice := some n, invalid := false }
      { s2 with adc := { s2.adc with spare := none, noSpare := true, rotating := false, spareReady := false } }
    | none => { s1 with adc := { s1.adc with spareReady := true } }

/-- SPARE_ROTATION (R431, R434 to R436): the spare completes steps 1 to 4, which a slice just relieved begins at once; a spare that has completed them
starts its shadow of the next converter, `adc.rotate_ms` after the shadow before it (DEDUCED, log 199). -/
def execSpareRotation (c : RotationObs) (s : State) : Host.Outcome State Fault Refusal :=
  match s.adc.spare with
  | some n =>
    if !domainOn s 7 || s.adc.rotating then .next s
    else if s.adc.spareReady && s.adc.calBegan.isNone then
      let s1 := s.atLeast (s.adc.rotateAt + s.reg Reg.adcRotateMs * 1000000)
      .next { s1 with adc := { s1.adc with rotating := true, rotateAt := s1.now, points := 0, pairs := 0, pairSum := 0, pairWorst := 0 } }
    else .next (inOrder (fun st => spareSteps st n c) (s.atLeast (calFrom s n (s.adc.calBegan.getD s.now) + calNs s)))
  | none => .next s

/-- R432, R435: a shadow that has come to nothing: the spare stays spare, and a new rotation begins after the next `adc.rotate_ms`. -/
def retryRotation (s : State) : State :=
  { s with adc := { s.adc with rotating := false, handover := false, calBegan := some (s.adc.rotateAt + s.reg Reg.adcRotateMs * 1000000) } }

/-- SPARE_HANDOVER (R431 steps 5 and 6, R432 to R435): 64 usable pairs stand: the handover is accepted and takes place at a grid point, or the spare
fails the test. -/
def execSpareHandover (s : State) : Host.Outcome State Fault Refusal :=
  match s.adc.spare with
  | some n =>
    if s.adc.rotating && !s.adc.handover && decide (64 ≤ s.adc.pairs) then
      if s.adc.pairSum.natAbs ≤ 64 ∧ s.adc.pairWorst ≤ 4 then .next { s with adc := { s.adc with handover := true } }
      else
        let x := sliceOf s n
        let s1 := setSlice (retryRotation s) n { x with strikes := x.strikes + 1 }
        .next (if 2 ≤ x.strikes + 1 then spareFails s1 n else s1)
    else .next s
  | none => .next s

/-- SHADOW_ABANDON (R432, R435): 4,096 grid points have passed without 64 usable pairs. No test has failed in this rotation. -/
def execShadowAbandon (s : State) : Host.Outcome State Fault Refusal :=
  match s.adc.spare with
  | some n =>
    if s.adc.rotating && decide (4096 ≤ s.adc.points) && decide (s.adc.pairs < 64) then
      .next (setSlice (retryRotation s) n { sliceOf s n with strikes := 0 })
    else .next s
  | none => .next s

/-- R432, R433: a sample pair of the shadow: usable, with its difference, or discarded. -/
def shadowPair (s : State) (usable : Bool) (d : Int) : State :=
  if !s.adc.rotating || decide (64 ≤ s.adc.pairs) then s
  else if usable then
    { s with adc := { s.adc with pairs := s.adc.pairs + 1, pairSum := s.adc.pairSum + d, pairWorst := Nat.max s.adc.pairWorst d.natAbs } }
  else s.bump Reg.adcShadowDiscards

/-! ### The grid (R415, R427, R428) -/

/-- R423: whether a SIMULTANEOUS group's round may start at a grid point: every converter of it is free and has no injected conversion and no round
of another such group before it. -/
def togetherReady (s : State) (g t : Nat) : Bool :=
  (groupConvs s g).all (fun k =>
    let c := convOf s k
    let first := c.queue.find? (fun p => p.prec == 1 && decide ((adcGroup s p.group).holdUntil ≤ t))
    c.slice.isNone || (c.running.isNone && first.any (fun p => p.group == g) && !c.queue.any (fun p => p.group == 8)))

/-- R415: the next grid point: of AD0 to AD3 every 100 ns; while a PAIR group is enabled, those of AD3 lie between. -/
def nextGrid (s : State) : Nat :=
  let step := if pairEnabled s then 50 else 100
  let t := ceilDiv s.now step * step
  match s.adc.lastGrid with
  | some g => if t ≤ g then (g / step + 1) * step else t
  | none => t

/-- R415: whether an instant is a grid point of a converter. -/
def gridOf (s : State) (k t : Nat) : Bool := t % 100 == (if k = 3 ∧ pairEnabled s then 50 else 0)

/-- Whether a conversion begun before still runs on a slice. -/
def sliceBusy (s : State) (n t : Nat) : Bool :=
  (List.range 4).any (fun k => match (convOf s k).running with
    | some r => r.slice == n && decide (t < r.start + 100)
    | none => false)

/-- R428: whether an input clamp conducts, or has less than 1 µs before. -/
def clamped (s : State) (t : Nat) : Bool := s.adc.clampPins != 0 || decide (t < s.adc.clampEnd)

/-- R428: a conversion started on a slice: whether it carries RECOVER. -/
def beginOn (s : State) (n t : Nat) : Bool × State :=
  let x := sliceOf s n
  (decide (0 < x.recover) || clamped s t, setSlice s n { x with recover := x.recover - 1 })

/-- The pending conversion that a converter starts: the highest precedence, first in, first out. -/
def choosePend (s : State) (k t : Nat) : Option Pend :=
  let ok (p : Pend) : Bool := decide (p.group = 8) || (decide ((adcGroup s p.group).holdUntil ≤ t) && (p.prec != 1 || togetherReady s p.group t))
  ((convOf s k).queue.filter ok).foldl (fun best p => match best with
    | none => some p
    | some b => if p.prec < b.prec then some p else best) none

/-- One converter at its grid point: the conversion chosen at the start of the grid point begins. -/
def startConv (t : Nat) (s : State) (q : Nat × Pend) : State :=
  let k := q.1
  let p := q.2
  let c := convOf s k
  match c.slice with
  | none => s
  | some n =>
    -- R421: the first conversion with EXT after its fault counts as a change of reference
    let fresh := c.ref == 1 && s.adc.extChanged
    let settleEnd := if fresh then t + 2000 else c.settleEnd
    let (rec, s0) := beginOn s n t
    -- R431 step 5: the spare converts the target's input
    let (shadow, s1) : Option (Nat × Bool) × State := match (if s0.adc.rotating && s0.adc.target == k then s0.adc.spare else none) with
      | some m => let (rm, st) := beginOn s0 m t; (some (m, rm), st)
      | none => (none, s0)
    let run : Running := ⟨p.group, p.chan, p.idx, n, rec, decide (t < settleEnd), t, shadow⟩
    let s2 := setConv s1 k { c with queue := c.queue.erase p, running := some run, settleEnd := settleEnd }
    { s2 with adc := { s2.adc with extChanged := s2.adc.extChanged && !fresh, injState := if p.group = 8 then 2 else s2.adc.injState } }

/-- R428: a code outside the range. -/
def outOfRange (raw : Int) : Bool := decide (raw < 0) || decide (4095 < raw)

/-- R428: an OVR conversion of a slice: the next two started on it carry RECOVER. -/
def noteOvr (s : State) (n : Nat) (raw : Int) : State := if outOfRange raw then setSlice s n { sliceOf s n with recover := 2 } else s

/-- R431, R432: at a grid point of the target converter at which it has no conversion, both slices convert channel 14. -/
def zeroPair (z : ZeroObs) (t : Nat) (s : State) : State :=
  let k := s.adc.target
  let c := convOf s k
  match s.adc.spare, c.slice with
  | some m, some n =>
    let (r0, s0) := beginOn s n t
    let (r1, s1) := beginOn s0 m t
    let bad := r0 || r1 || outOfRange z.target || outOfRange z.spare || decide (t < c.settleEnd) || c.invalid || (c.ref == 1 && s.adc.extFault)
    shadowPair (noteOvr (noteOvr s1 n z.target) m z.spare) (!bad) (z.spare - z.target)
  | _, _ => s

/-- R431 to R433: what a grid point of the target does in a rotation: the handover where it is accepted and no injected conversion is pending or
runs on the target; else it counts for the shadow. -/
def shadowPoint (t : Nat) (s : State) : State :=
  if !s.adc.rotating || !gridOf s s.adc.target t then s
  else if s.adc.handover then (if injecting s s.adc.target then s else handOver s)
  else { s with adc := { s.adc with points := s.adc.points + 1 } }

/-- ADC_GRID_POINT (R415, R427, R431 to R434): at the next grid point each converter whose grid point it is, and that is free, starts its pending
conversion of highest precedence. -/
def execAdcGridPoint (z : ZeroObs) (s : State) : Host.Outcome State Fault Refusal :=
  if domainOn s 7 then
    let t := nextGrid s
    let s0 := s.atLeast t
    let s1 := shadowPoint t { s0 with adc := { s0.adc with lastGrid := some t } }
    let picks := (List.range 4).filterMap (fun k =>
      let c := convOf s1 k
      if gridOf s1 k t && c.running.isNone && (match c.slice with | some n => !sliceBusy s1 n t | none => false) then
        (choosePend s1 k t).map (fun p => (k, p))
      else none)
    let s2 := picks.foldl (startConv t) s1
    let k := s2.adc.target
    .next (if s2.adc.rotating && !s2.adc.handover && gridOf s2 k t && (convOf s2 k).running.isNone then zeroPair z t s2 else s2)
  else .next s

/-! ### What the supervisor takes from the system groups -/

/-- R478, R479: a NODE_MIN conversion in volts. -/
def takeNode (s : State) (v vled : Rat) (clean : Bool) : State :=
  let low := decide (v < 1 / 4)
  let high := decide (3 / 10 ≤ v)
  let p := s.power
  let n := if low then p.lowNodes + 1 else 0
  let h := if high then p.highNodes + 1 else 0
  let s1 := { s with power := { p with lowNodes := n, highNodes := h },
                     adc := { s.adc with nodeNow := if clean then (match s.adc.nodeNow with
                       | some m => some (if v < m then v else m)
                       | none => some v) else s.adc.nodeNow } }
  if !p.headroomLow && 5 ≤ n then
    -- N of R478: the lowest conversion of the previous scan
    raise 1 (bytesLE 2 (roundQ (vled * 1000)).toNat ++ bytesLE 2 (roundQ ((vled - s.adc.nodePrev.getD v) * 1000)).toNat)
      (noteSupply { s1 with power := { s1.power with headroomLow := true } })
  else if p.headroomLow && 50 ≤ h then { s1 with power := { s1.power with headroomLow := false } } else s1

/-- R425, R468, R480: a VLED conversion in volts. -/
def takeVled (s : State) (code : Nat) (v : Rat) (clean : Bool) : State :=
  let a := s.adc
  let a1 := if clean then { a with vledNow := (a.vledNow.1 + code, a.vledNow.2 + 1),
                                   vledMin := match a.vledMin with | some m => some (if v < m then v else m) | none => some v } else a
  let early := s.power.vledEarly ||
    (decide ((s.reg Reg.pwrVledBootMv : Rat) / 1000 ≤ v) && decide (s.now ≤ s.power.tStart + 14000000))
  let d := s.power.dip
  let lim : Rat := (s.reg Reg.pwrVledDipMv : Rat) / 1000
  if d.active then
    let near := if absQ (v - d.ref) ≤ 1 / 10 then d.near + 1 else 0
    { s with adc := a1, power := { s.power with vledEarly := early, dip := { d with near := near, active := decide (near < 25), below := 0 } } }
  else
    let ref := if d.below = 0 then a.vledMean else d.ref
    if ref - v > lim then
      let n := d.below + 1
      let first := if d.below = 0 then s.now else d.first
      let lowest := if d.below = 0 ∨ v < d.lowest then v else d.lowest
      let s1 := { s with adc := a1, power := { s.power with vledEarly := early, dip := ⟨decide (3 ≤ n), n, first, lowest, ref, 0⟩ } }
      if 3 ≤ n then
        raise 2 (bytesLE 2 (roundQ (lowest * 1000)).toNat ++ bytesLE 2 (Nat.min 65535 ((s.now - first) / 1000))) (noteSupply s1)
      else s1
    else { s with adc := a1, power := { s.power with vledEarly := early, dip := { d with below := 0 } } }

/-- R483: a VBAT_SNS conversion in volts at the pin. -/
def takeVbat (s : State) (pin : Rat) : State :=
  let v := pin * s.real Reg.pwrVbatRatio * 1000
  let warn : Rat := (s.reg Reg.pwrVbatWarnMv : Rat)
  let past := s.power.vbat.filter (fun p => decide (s.now ≤ p.1 + 500000))
  let fall := match past with
    | p :: _ => p.2 - v
    | [] => 0
  let start := decide (v < warn) || decide ((s.reg Reg.pwrVbatSlopeMvMs : Rat) / 2 < fall)
  let good := if warn + 500 ≤ v then (match s.power.vbatGood with | some t => some t | none => some s.now) else none
  let s1 := { s with power := { s.power with vbat := past ++ [(s.now, v)], vbatGood := good } }
  if start && !s1.power.anticipating then
    let budget := Nat.min (s1.reg Reg.lightBudgetMw) (s1.reg Reg.pwrVbatBudgetMw)
    raise 9 (bytesLE 2 (roundQ (pin * 1000)).toNat ++ bytesLE 2 budget) { s1 with power := { s1.power with anticipating := true, vbatGood := if warn + 500 ≤ v then some s.now else none } }
  else s1

/-- ANTICIPATION_END (R483): V_BAT has stayed high for `pwr.vbat_hold_ms`. -/
def execAnticipationEnd (s : State) : Host.Outcome State Fault Refusal :=
  match s.power.vbatGood with
  | some t =>
    if s.power.anticipating then
      let s1 := s.atLeast (t + s.reg Reg.pwrVbatHoldMs * 1000000)
      .next { s1 with power := { s1.power with anticipating := false } }
    else .next s
  | none => .next s

/-- R435: a G1 check of channel 13 or 14 on a slice. -/
def checkSlice (s : State) (k n chan code : Nat) : State :=
  let ref := (convOf s k).ref
  let v := vRef s ref
  let want : Rat := if chan = 13 ∨ v = 0 then 0 else 1024 / 1000 * 4096 / v
  let tol : Rat := if ref = 2 then 12 else 8
  let bad := decide (tol < absQ ((code : Rat) - want))
  let x := sliceOf s n
  let c := if bad then (if chan = 13 then x.check13 else x.check14) + 1 else 0
  let s1 := setSlice s n (if chan = 13 then { x with check13 := c } else { x with check14 := c })
  if 2 ≤ c ∧ !x.failed then serviceFails s1 n else s1

/-- R453 group 0, R454: the three bandgap codes after the last of a round stands. -/
def checkBandgap (s : State) : State :=
  let code (i : Nat) : Nat := vget s.cal.bgCode 0 i
  let live := [0, 1, 2].filter (fun i => !bitAt s.cal.bgDropped i)
  let dist (a b : Nat) : Nat := if a < b then b - a else a - b
  match live with
  | [_, _, _] =>
    let mid := ([0, 1, 2].mergeSort (fun a b => decide (code a ≤ code b))).getD 1 0
    let m := code mid
    let s1 := [0, 1, 2].foldl (fun st i =>
      let n := if 6 < dist (code i) m then vget st.cal.bgDiffer 0 i + 1 else 0
      { st with cal := { st.cal with bgDiffer := vset st.cal.bgDiffer i n } }) s
    match [0, 1, 2].find? (fun i => decide (4 ≤ vget s1.cal.bgDiffer 0 i)) with
    | none => { s1 with cal := { s1.cal with bgPick := mid } }
    | some i =>
      let s2 := { s1 with cal := { s1.cal with bgDropped := setBit s1.cal.bgDropped i true, bgPick := mid, bgDiffer := Vector.replicate 3 0 } }
      -- R420: a move of the INT reference
      let s3 := if s.cal.bgPick = i then
          (List.range 4).foldl (fun st k => let c := convOf st k; if c.ref = 0 then setConv st k { c with settleEnd := st.now + 2000 } else st) s2
        else s2
      raise 12 (bytesLE 1 0 ++ bytesLE 1 i) s3
  | [a, b] =>
    let n := if 6 < dist (code a) (code b) then s.cal.bgPair + 1 else 0
    let s1 := { s with cal := { s.cal with bgPair := n } }
    if n = 4 then raise 12 (bytesLE 1 0 ++ bytesLE 1 0xFF) { s1 with cal := { s1.cal with degraded := true } } else s1
  | _ => s

/-- R421: the EXT reference check of channel 9, in volts at the pin. -/
def checkExt (s : State) (v : Rat) : State :=
  let bad := decide (v < 1) || decide (5 / 2 < v)
  { s with adc := { s.adc with extFault := bad, extChanged := s.adc.extChanged || (s.adc.extFault && !bad) } }

/-- What a result of a system group does. -/
def systemResult (s : State) (k : Nat) (r : Running) (code : Nat) (v : Rat) (valid clean : Bool) : State :=
  if r.group = 0 ∧ valid then
    match r.chan with
    | 1 => takeVled s code v clean
    | 15 => takeNode s v (s.real (Reg.adcChValue 1)) clean
    | 3 => takeVbat s v
    | _ => s
  else if r.group = 1 then
    match r.chan with
    | 13 => checkSlice s k r.slice 13 code
    | 14 => checkSlice s k r.slice 14 code
    | 9 => checkExt s v
    | 6 => { s with cal := { s.cal with bgCode := vset s.cal.bgCode 0 code } }
    | 7 => { s with cal := { s.cal with bgCode := vset s.cal.bgCode 1 code } }
    | 8 => checkBandgap { s with cal := { s.cal with bgCode := vset s.cal.bgCode 2 code } }
    | _ => s
  else s

/-! ### Captures (R438) -/

/-- The channel into which a group captures. -/
def captureChannel (s : State) (g : Nat) : Option Channel :=
  (s.usable (s.reg (Reg.adcgCapHandle g))).bind (fun c => if c.type = 3 then some c else none)

/-- The buffered words of a group written while C6 has tokens: one token for each 64-byte block begun. -/
def drainCapture : Nat → Nat → State → State
  | 0, _, s => s
  | n + 1, g, s =>
    let x := adcGroup s g
    match x.buffer, captureChannel s g with
    | w :: rest, some c =>
      if s.reg (Reg.adcgCapWords g) ≤ x.words ∨ c.size < 4 * (x.words + 1) then s
      else
        let (ok, s1) := if x.words % 16 = 0 then (if tokensLeft s 6 = 0 then (false, stallClass s 6) else (true, spend s 6 1)) else (true, s)
        if ok then
          let s2 := chanWrite s1 c (4 * x.words) (bytesLE 4 w)
          drainCapture n g (setAdcGroup s2 g { x with words := x.words + 1, buffer := rest,
                                                      done := decide (s.reg (Reg.adcgCapWords g) ≤ x.words + 1) })
        else s1
    | _, _ => s

/-- A result word of a user's group captured. -/
def capture (s : State) (g w : Nat) : State :=
  match captureChannel s g with
  | none => s
  | some c =>
    let x := adcGroup s g
    let room := Nat.min (s.reg (Reg.adcgCapWords g)) (c.size / 4)
    if room ≤ x.words + x.buffer.length then s
    else if 256 ≤ x.buffer.length then setAdcGroup s g { x with captureOverrun := true }
    else drainCapture 1 g (setAdcGroup s g { x with buffer := x.buffer ++ [w] })

/-- Every group's buffer drained, at the start of a Toll period. -/
def drainCaptures (s : State) : State := [4, 5, 6, 7].foldl (fun st g => drainCapture 256 g st) s

/-! ### ADC_CONVERSION_DONE -/

/-- R422: the result word. -/
def resultWord (valid ovr recover settling inj : Bool) (slice chan seq code : Nat) : Nat :=
  b2n valid * 2 ^ 31 + b2n ovr * 2 ^ 30 + b2n recover * 2 ^ 29 + b2n settling * 2 ^ 28 + b2n inj * 2 ^ 27 + slice * 2 ^ 24 +
  chan * 2 ^ 19 + (seq % 16) * 2 ^ 12 + code

/-- ADC_CONVERSION_DONE (R422, R428, R430 to R432, R436, R438): the conversion that runs on a converter completes; `raw` is the code before it is
clamped to the range, and `spare` that of the slice that shadows it. -/
def execAdcConversionDone (k : Fin 4) (raw spare : Int) (s : State) : Host.Outcome State Fault Refusal :=
  let c := convOf s k
  match c.running with
  | none => .next s
  | some r =>
    let s0 := s.atLeast (r.start + 100)
    let ovr := outOfRange raw
    let code := (clampI 0 4095 raw).toNat
    let valid := !c.invalid && !(c.ref == 1 && s0.adc.extFault)
    let inj := r.group == 8
    let w := resultWord valid ovr r.recover r.settling inj r.slice r.chan c.seq code
    let v : Rat := (code : Rat) * vRef s0 c.ref / 4096 * channelK r.chan
    let s1 := setConv s0 k { c with running := none, seq := (c.seq + 1) % 16 }
    let s1a := noteOvr s1 r.slice raw
    let s2 := match r.shadow with
      | some (m, rm) =>
        shadowPair (noteOvr s1a m spare) (valid && !ovr && !r.recover && !r.settling && !rm && !outOfRange spare) (spare - raw)
      | none => s1a
    let s3 := s2.setReg (Reg.adcChResult r.chan) w
    let s4 := if valid then s3.setReg (Reg.adcChValue r.chan) (ratToF32 v) else s3
    if inj then
      let s5 := s4.setReg (Reg.adcInjResult r.idx) w
      let left := s5.adc.injLeft - 1
      .next { s5 with adc := { s5.adc with injLeft := left, injState := if left = 0 then 3 else s5.adc.injState } }
    else
      let x := adcGroup s4 r.group
      let s5 := setAdcGroup s4 r.group { x with left := x.left - 1 }
      .next (if 4 ≤ r.group then capture s5 r.group w
        else systemResult s5 k r code v valid (valid && !ovr && !r.recover))

/-- ADC_INJ_REQUEST by a hardware source (R429): the source must be enabled in `adc.inj_config`. -/
def hardwareInject (s : State) (bit : Nat) : State :=
  if domainOn s 7 && bitAt (s.reg Reg.adcInjConfig) bit then injectRequest s else s

/-! ### Input clamps (R428) -/

/-- AIN_CLAMP (R428): the clamp of an AIN pin starts or stops conducting. -/
def execAinClamp (pin : Fin 8) (on : Bool) (s : State) : Host.Outcome State Fault Refusal :=
  if bitAt s.adc.clampPins pin == on then .next s
  else .next { s with adc := { s.adc with clampPins := setBit s.adc.clampPins pin on, clampFlag := true,
                                          clampEnd := if on then s.adc.clampEnd else s.now + 1000 } }

/-- AIN_CLAMP_HOLD_END (R428): 1 ms after the clamp stopped conducting. -/
def execAinClampHoldEnd (s : State) : Host.Outcome State Fault Refusal :=
  if s.adc.clampFlag && s.adc.clampPins == 0 then
    let s1 := s.atLeast (s.adc.clampEnd - 1000 + 1000000)
    .next { s1 with adc := { s1.adc with clampFlag := false } }
  else .next s

/-- `adc.status`. -/
def adcStatusWord (s : State) : Nat :=
  16 * b2n (s.adc.rotating || s.adc.calBegan.any (fun t => decide (t ≤ s.now))) + 32 * b2n s.adc.clampFlag + 64 * b2n s.adc.extFault + 128 * b2n s.adc.noSpare +
  256 * ((List.range 5).map (fun n => b2n (sliceOf s n).failed * 2 ^ n)).sum

/-- `adcg.state`. -/
def adcgStateByte (s : State) (g : Nat) : Nat :=
  let x := adcGroup s g
  b2n (x.left != 0) + 2 * b2n x.done + 4 * b2n x.overrun + 8 * b2n x.captureOverrun + 16 * b2n x.lost

end Sys2Proof.Machine
end

