-- ==== Sys2Proof/Machine/Calib.lean ====
section
/-!
DEFINITION. Calibration data and background trim (chapter 14): the sink measurement, the field reference trim, the redundant
reference sinks, aging learning, the trim map and the calibration mirror.
-/

namespace Sys2Proof.Machine

/-! ### Per-sink trim (R446 to R449) -/

/-- The sink at a place of a field's cursor, ascending sink index. -/
def fieldSink (f c : Nat) : Nat := ((f / 8) * 32 + c / 64) * 512 + (f % 8) * 64 + c % 64

/-- Trim code of a sink in a map of codes. -/
def trimCode (m : NatMap) (k : Nat) : Nat := mapGet (fun _ => 16) m k

/-- R447: the result of a measurement in thousandths of the reference sink: 1 DEAD, 2 WEAK, 3 LOW, 4 OK, 5 HIGH. -/
def sinkResult (s : State) (permille : Nat) : Nat :=
  if permille < 100 then 1 else if permille < 10 * s.reg Reg.diagSinkWeakPct then 2 else if permille < 997 then 3
  else if permille ≤ 1003 then 4 else 5

/-- R447: a field has used an interval. -/
def tookSink (s : State) (f : Nat) : State := { s with cal := { s.cal with sinkLast := vset s.cal.sinkLast f s.now } }

/-- R449: whether a measurement of a field is discarded now. -/
def measureBad (s : State) (f : Nat) : Bool :=
  supplyMask s != 0 || s.refs.codeChanged.getLsbD f || s.refs.codeChangedPrev.getLsbD f || s.lamp.bandFields.getLsbD f

/-- R148, R165: a result passed to the Lamplighter as a background trim sample, but for the idle sink of a twin. -/
def trimSample (s : State) (k res : Nat) : State :=
  if idleSink s k || !sampledField s (sinkField k) then s
  else
    let x : Sample := ⟨true, k, [0xD, 4], if res = 1 then 0xD else if res = 2 then 4 else 0, 5⟩
    if x.vote = 0 ∧ evGet s true k = 0 then s else { s with lamp := { s.lamp with samples := s.lamp.samples ++ [x] } }

/-- R140, R447: a priority measurement made: the priority ends after a sound result, or when its measurements are made. -/
def endPriority (s : State) (k left res : Nat) : State :=
  let rest := s.lamp.flagged.filter (fun q => q.1 != k)
  { s with lamp := { s.lamp with flagged := if res ≤ 2 ∧ 1 < left then (k, left - 1) :: rest else rest } }

/-- R448: the trim code of a sink after a pass that gave it a result; two passes with the same LOW or HIGH move it. -/
def stepTrim (s : State) (f k res : Nat) : State :=
  let c := s.cal
  let last := mapGet (fun _ => 0) c.lastResult k
  let code := trimCode c.trimNext k
  let put (v : Nat) (x : Cal) : Cal := { x with trimNext := mapPut (fun _ => 16) k v x.trimNext, trimChanged := true }
  let limit (x : Cal) : Cal := { x with limitNow := vset x.limitNow f (vget x.limitNow 0 f + 1) }
  let c1 := { c with lastResult := mapPut (fun _ => 0) k res c.lastResult }
  let c2 := if last ≠ res then c1
    else if res = 3 then (if code < 31 then put (code + 1) c1 else limit c1)
    else if res = 5 then (if 0 < code then put (code - 1) c1 else limit c1)
    else c1
  { s with cal := c2 }

/-- R447, R449: the cursor of a field moved on; at the end of a pass its length and its sinks at a limit stand. -/
def nextSink (s : State) (f : Nat) : State :=
  let c := s.cal
  let n := vget c.cursor 0 f + 1
  if n < 2048 then { s with cal := { c with cursor := vset c.cursor f n } }
  else
    let ms := (s.now - vget c.passStart 0 f) / 1000000
    let c1 := { c with cursor := vset c.cursor f 0, passStart := vset c.passStart f s.now, passMs := vset c.passMs f ms
                       limitLast := vset c.limitLast f (vget c.limitNow 0 f), limitNow := vset c.limitNow f 0 }
    let s1 := { s with cal := c1 }
    (s1.setReg Reg.calSinkPassMs (c1.passMs.toList.foldl Nat.max 0)).setReg Reg.calTrimLimit (c1.limitLast.toList.sum)

/-- SINK_MEASUREMENT (R446 to R449): its interval has run: field `f` measures a flagged sink, or the sink under its cursor. -/
def execSinkMeasurement (f : Fin 32) (permille : Nat) (s0 : State) : Host.Outcome State Fault Refusal :=
  if s0.scan.running && fieldPowered s0 f then
    let s := tookSink (s0.atLeast (vget s0.cal.sinkLast 0 f + s0.reg Reg.calSinkIntervalUs * 1000)) f
    if measureBad s f then .next (noteSupply (s.bump Reg.calDiscards))
    else
      let res := sinkResult s permille
      match s.lamp.flagged.find? (fun q => sinkField q.1 == f.val) with
      | some (k, left) => .next (endPriority (trimSample s k res) k left res)
      | none =>
        let k := fieldSink f (vget s.cal.cursor 0 f)
        .next (nextSink (stepTrim (trimSample s k res) f k res) f)
  else .next s0

/-- R448: the stock firmware writes the changed codes to the trim map. -/
def saveTrim (s : State) : State :=
  { s with mram := { s.mram with trim := s.cal.trimNext.foldl (fun m e => mapEntry trimWord m e.1 e.2) [], trimSaved := some (litTime s) }
           cal := { s.cal with trimChanged := false } }

/-- TRIM_MAP_SAVE (R448): 10 minutes of LIT have passed since the last write. -/
def execTrimMapSave (s : State) : Host.Outcome State Fault Refusal :=
  if firmwareRuns s 3 && s.cal.trimChanged && decide (s.power.device = 4) then
    let left := match s.mram.trimSaved with
      | some t => t + 600000000000 - litTime s
      | none => 0
    .next (saveTrim (s.atLeast (s.now + left)))
  else .next s

/-! ### Field reference trim (R449 to R453) -/

/-- R453 group 4: both reference sinks of a field compared; the fourth trim in a row with more than 2 % between them drops the
one farther from the current that the channel 11 voltage gives. -/
def checkRefSinks (s : State) (f sink0 sink1 dac : Nat) : State :=
  let d (a b : Nat) : Nat := if a < b then b - a else a - b
  let gone (e : Nat) : Bool := s.cal.refDropped.getLsbD (2 * f + e)
  if gone 0 || gone 1 then s
  else
    let n := if 2 * Nat.max sink0 sink1 < 100 * d sink0 sink1 then vget s.cal.refDiffer 0 f + 1 else 0
    let s1 := { s with cal := { s.cal with refDiffer := vset s.cal.refDiffer f n } }
    if n < 4 then s1
    else
      let e := if d sink0 dac < d sink1 dac then 1 else 0
      raise 12 (bytesLE 1 4 ++ bytesLE 1 (2 * f + e))
        { s1 with cal := { s1.cal with refDropped := bvPut s1.cal.refDropped (2 * f + e) true,
                                       refPick := bvPut s1.cal.refPick f (e == 0), refDiffer := vset s1.cal.refDiffer f 0 } }

/-- R450, R451, R453: `cal.fref_gain` of a field after a trim with the reference sink `pick`; held at a limit, the field's reference sinks are checked
at once. The gain is moved by a quarter of the gain error of the current measured, at most 0.2 %, within
0.97 to 1.03. The error is I_measured / I_REF − 1, since the code already divides by the gain (DEDUCED, log 42). -/
def trimGain (s : State) (f : Nat) (pick : Bool) (o : FrefObs) : State :=
  let nA := if pick then o.sink1 else o.sink0
  let g : Rat := (nA : Rat) / 1000 / vget s.refs.iref 120 f
  let old := s.real (Reg.calFrefGain f)
  let new := old + clampQ (-2 / 1000) (2 / 1000) ((g - 1) / 4)
  let held := decide (new < 97 / 100) || decide (103 / 100 < new)
  let s1 := s.setReg (Reg.calFrefGain f) (ratToF32 (clampQ (97 / 100) (103 / 100) new))
  let s2 := s1.setReg Reg.calFrefLimit (setBit (s1.reg Reg.calFrefLimit) f held)
  let s3 := { s2 with refs := { s2.refs with gainWant := vset s2.refs.gainWant f (s2.real (Reg.calFrefGain f)) } }
  if held then checkRefSinks s3 f o.sink02 o.sink12 o.dac2 else s3

/-- FIELD_REF_TRIM (R449 to R453): `cal.fref_period_ms` has run: the reference DAC of one field is trimmed with the sink picked before this trim's
check, or the measurement is discarded and repeated at the next turn (log 208), or a field whose code is below 146 waits for its next turn. -/
def execFieldRefTrim (o : FrefObs) (s0 : State) : Host.Outcome State Fault Refusal :=
  if s0.scan.running && domainOn s0 7 then
    let s1 := s0.atLeast (s0.cal.frefLast + s0.reg Reg.calFrefPeriodMs * 1000000)
    let s := { s1 with cal := { s1.cal with frefLast := s1.now } }
    let f := s.cal.frefNext
    let next (st : State) : State := { st with cal := { st.cal with frefNext := (f + 1) % 32 } }
    if !fieldPowered s f || decide (vget s.refs.code 0 f < 146) then .next (next s)
    else if o.bad || measureBad s f then .next (noteSupply (s.bump Reg.calDiscards))
    else .next (next (trimGain (checkRefSinks s f o.sink0 o.sink1 o.dac) f (s.cal.refPick.getLsbD f) o))
  else .next s0

/-! ### Aging learning (R457, R458) -/

/-- R440: VF_OFS of a pixel in mV. -/
def vfOfs (s : State) (p : Nat) : Int := toInt 6 (bits (binWord s p) 9 4)

/-- R457: the target AGE of a notice's class, median, temperature in eighths of a degree and band. -/
def ageTarget (s : State) (p a : Nat) (mv t : Int) (band : Nat) : Nat :=
  let cv : Rat := (s.int 16 Reg.calVfTempco : Rat) / 100
  let expect : Rat := ((vfOfs s p + 2775 + 50 * (bits (binWord s p) 12 10 : Int) + (vfWindow s band a).1 : Int) : Rat) +
    cv * ((t : Rat) / 8 - bandTemp band)
  (clampI 0 255 (roundQ (512 * (s.reg Reg.calAgeSlope : Rat) / 1000000 * ((mv : Rat) - expect)))).toNat

/-- AGE of a pixel in its calibration word. -/
def mirrorAge (s : State) (p : Nat) : Nat := bits (calWord s (pixelTile p) (pixelPlace p)) 19 12

/-- R103, R282, R458: AGE of a pixel raised by 1, in the aging map and in its calibration word, with the tile's check word and its internal work. A
mirror tile that fails its check is rewritten from MRAM, as R285 has it for unit code 2. After an import with CLEAR_AGE each counts from its own value
(DESIGN CHOICE, log 208). -/
def raiseAge (s : State) (p : Nat) : State :=
  let t := pixelTile p
  let s1 := { s with mram := { s.mram with aging := mapEntry agingWord s.mram.aging p (Nat.min 255 (ageOf s p + 1)) } }
  if tileCheck s1 (.mirror t) ≠ crc32c (tileData s1 (.mirror t)) then markInternal (writeMirror s1 t) (tileSet [t])
  else
    let w := calWord s1 t (pixelPlace p)
    let s2 := storeBytes s1 (mirrorBase + t * 1024 + 4 * pixelPlace p) (bytesLE 4 (w + 4096))
    markInternal (checkMirror s2 t) (tileSet [t])

/-- A Q7 notice processed. -/
def takeAging (s : State) (e : List Byte) : State :=
  let p := field e 8 3
  let age := ageTarget s p (field e 11 1) (toInt 16 (field e 12 2)) (toInt 16 (field e 14 2)) (field e 16 1)
  if s.flag Reg.calAgingEnable && decide (mirrorAge s p < age) then dueForAging ((raiseAge s p).bump Reg.calAgeUpdates) else s

/-- AGING_NOTICE (R254, R457, R458): the stock firmware takes the next notice from Q7. -/
def execAgingNotice (ecc : List EccFinding) (s : State) : Host.Outcome State Fault Refusal :=
  if firmwareRuns s 3 then
    match qTake (if (qNext s 7).isSome then eccFindAll s ecc else s) 7 with
    | (some e, s1) => .next (if field e 0 2 = 0x0701 then takeAging s1 e else s1)
    | (none, _) => .next s
  else .next s

/-! ### The calibration mirror (R442 to R445) -/

/-- R445: damaged map words rewritten with the value of loss. -/
def loseWords (m : NatMap) (words : List Nat) : NatMap := m.filter (fun e => !words.contains e.1)

/-- R445: a copy of the field records, with its CRC-32C, rewritten from the other where it fails. -/
def mendRecords (s : State) (o : MirrorObs) : State :=
  let bad0 := o.record0 || !recordSound s 0
  let bad1 := o.record1 || !recordSound s 1
  let copy (k : Nat) : State := { s with
    cal := { s.cal with recordLost := false }
    mram := { s.mram with records := vset s.mram.records k (recordCopy s (1 - k)),
                          recordCheck := vset s.mram.recordCheck k (crc32c (recordBytes (recordCopy s (1 - k)))) } }
  if bad0 && bad1 then { s with cal := { s.cal with recordLost := true } }
  else if bad0 then copy 0
  else if bad1 then copy 1
  else { s with cal := { s.cal with recordLost := false } }

/-- R450, R453, R455: what a start takes from the field records: the reference gains, which enter the references at once only where the sequencer does
not run (R16, R452), and the picks of the reference sinks, of which a dropped one stays dropped. -/
def takeRecords (s : State) : State :=
  let r := fieldRecords s
  let s1 := ((List.range 32).foldl (fun st f => st.setReg (Reg.calFrefGain f) (vget r State.fieldRecordReset f).dacGain) s).setReg Reg.calFrefLimit 0
  let gains : Vector Rat 32 := Vector.ofFn (fun f => s1.real (Reg.calFrefGain f.val))
  let pick (f : Nat) : Bool :=
    let e := (vget r State.fieldRecordReset f).refPick % 2
    (if s1.cal.refDropped.getLsbD (2 * f + e) && !s1.cal.refDropped.getLsbD (2 * f + 1 - e) then 1 - e else e) == 1
  { s1 with refs := { s1.refs with gain := if s1.scan.running then s1.refs.gain else gains, gainWant := gains }
            cal := { s1.cal with refPick := (List.range 32).foldl (fun b f => bvPut b f (pick f)) 0 } }

/-- R445, R446: what a start takes from the trim map; the codes take effect at the next scan boundary. -/
def loadTrim (s : State) : State :=
  let codes := mapEntries 16 (loseWords s.mram.trim (badWords s.mram.trim))
  { s with cal := { s.cal with trim := if s.scan.running then s.cal.trim else codes, trimNext := codes, trimChanged := false } }

/-- R444: the binning tiles that fail their check: those whose stored check word does not match, and those found damaged. -/
def badTiles (s : State) (o : MirrorObs) : List Nat :=
  let listed := (s.mram.binCheck.map (·.1) ++ s.mram.binning.map (fun e => pixelTile e.1)).eraseDups
  ((o.tiles ++ listed.filter (fun t => !binSound s t)).filter (· < 4096)).eraseDups

/-- MIRROR_BUILD_DONE (R442 to R445): the calibration loader has built every tile of the mirror. -/
def execMirrorBuildDone (o : MirrorObs) (s : State) : Host.Outcome State Fault Refusal :=
  if firmwareRuns s 3 && domainOn s 3 && !s.cal.mirrorReady then
    let s1 := mendRecords s o
    let aging := (o.aging ++ badWords s.mram.aging).eraseDups
    let trim := (o.trim ++ badWords s.mram.trim).eraseDups
    let tiles := badTiles s o
    let kept (m : NatMap) : NatMap := m.filter (fun e => !trim.contains (e.1 / 7))
    let s2 := { s1 with mram := { s1.mram with aging := loseWords s1.mram.aging aging, trim := loseWords s1.mram.trim trim },
                        cal := { s1.cal with fallback := tileSet tiles, trimNext := kept s1.cal.trimNext,
                                             trim := if s1.scan.running then s1.cal.trim else kept s1.cal.trim } }
    let s3 := s2.setReg Reg.calMapWordsLost ((s2.reg Reg.calMapWordsLost + aging.length + trim.length) % 4294967296)
    let s4a := s3.setReg Reg.calBinFallbackTiles tiles.length
    let s4 := if o.record0 || o.record1 || s.cal.recordLost then takeRecords s4a else s4a
    let s5 := (o.again.filter (fun t => decide (t < 4096) && !tiles.contains t)).foldl (fun st _ => st.bump Reg.integRereadOk)
      (tiles.foldl (fun st t => tileFail st 8 (.mirror t)) s4)
    let s6 := (List.range 4096).foldl writeMirror s5
    -- R153, R444: the fallback tiles are known only now
    let s7 := (factoryPixels s6 (s.cal.fallback ^^^ s6.cal.fallback)).foldl restorePixel s6
    .next { s7 with cal := { s7.cal with mirrorReady := true } }
  else .next s

/-- `cal.status`. -/
def calStatusWord (s : State) : Nat :=
  b2n s.cal.mirrorReady + 2 * b2n (s.cal.fallback != 0) + 4 * b2n (decide (s.cal.imp.state = 3)) +
  8 * b2n (decide (s.cal.imp.state = 4)) + 16 * b2n s.cal.degraded + 32 * b2n s.cal.recordLost

/-- `cal.sink_trim` of a field: its 2,048 trim codes. -/
def trimBytes (s : State) (f : Nat) : List Byte := (List.range 2048).map (fun c => BitVec.ofNat 8 (trimCode s.cal.trim (fieldSink f c)))

/-- `cal.bg_pick`. -/
def bgPickByte (s : State) : Nat := s.cal.bgPick + 16 * s.cal.bgDropped

end Sys2Proof.Machine
end

