-- ==== Sys2Proof/Machine/Scan.lean ====
section
/-!
DEFINITION. The global scan boundary (R63) with all that happens there: the judgement of the scan that ends, the Toll period
(R391 to R395), the scrubber (R256), the follower's trim (R88, R91), headroom tracking (R478) and the references.
-/

namespace Sys2Proof.Machine

/-- The engines at the start of a budget period: no token used, and those that waited for it go on (R22, R394). -/
def resumePeriod (s : State) : State :=
  { s with engines := s.engines.map (fun x => { x with c7Used := 0, stall := if x.stall = .period then .none else x.stall }) }

/-- R395: the share of the period that ends during which every class held tokens and no request waited at a bank, in 1/256ths: all of it is 256; none
of it with a class whose budget is 0; not all of it where a class has spent its tokens or a request has stalled. How long a request waited at a bank
comes with the scan's observations (log 168). -/
def periodSlack (s : State) (seen : Nat) : Nat :=
  if (List.range 8).any (fun c => tokensLeft s c == 0 && vget s.tolls.used 0 c == 0) then 0
  else if (List.range 8).any (fun c => tokensLeft s c == 0 || vget s.tolls.stalls 0 c != 0) then Nat.min seen 255
  else Nat.min seen 256

/-- R391, R393, R395: a Toll period ends and the next begins with its budgets. -/
def tollPeriod (slack : Nat) (s : State) : State :=
  let used := s.tolls.used
  let s1 := (List.range 8).foldl (fun st c => st.setReg (Reg.tollUsed c) (vget used 0 c)) s
  let hist := (periodSlack s slack :: s1.tolls.slack).take 16
  let s2 := s1.setReg Reg.tollSlack (Nat.min 255 (hist.sum / hist.length))
  resumePeriod { s2 with
    tolls := { s2.tolls with left := Vector.ofFn (fun c => s2.reg (Reg.tollBudget c.val)), used := Vector.replicate 8 0,
                             stalls := Vector.replicate 8 0, slack := hist }
    power := { s2.power with tollPeriods := s2.power.tollPeriods + 1 } }

/-- A row repair begins (R257). -/
def beginRepair (s : State) (row : Nat) : State :=
  if s.store.repairing.contains row then s else { s with store := { s.store with repairing := s.store.repairing ++ [row] } }

/-- R257: a row with a corrected error in this pass; repaired when the pass before had one too. -/
def noteRow (s : State) (row : Nat) : State :=
  let s1 := if s.store.rowsNow.contains row then s else { s with store := { s.store with rowsNow := s.store.rowsNow ++ [row] } }
  if s1.store.rowsLast.contains row then beginRepair s1 row else s1

/-- R256: the scrubber's share of this scan, as far as C6 serves it: one token reads one block of 64 bytes; after the last block the pass is
complete. -/
def scrub (o : ScanObs) (s : State) : State :=
  if !domainOn s 3 then s
  else
    let (n, s1) := pay s 6 (s.reg Reg.storeScrubTokens)
    if n = 0 then s1
    else
      let s2 := (o.ecc.filter (fun x => !x.fatal)).foldl (fun st x => noteRow st (x.addr / 2048)) (eccFindAll s1 o.ecc)
      let pos := s2.store.scrubPos + n
      if pos < 786432 then { s2 with store := { s2.store with scrubPos := pos } }
      else
        let s3 := s2.setReg Reg.storeScrubPassMs (((s2.now - s2.store.scrubStart) / 1000000) % 4294967296)
        { s3 with store := { s3.store with scrubPos := pos - 786432, scrubStart := s3.now, rowsLast := s3.store.rowsNow, rowsNow := [] } }

/-- R88, R91: a follower's trim moves by at most 500 ppm, and k_C follows the duty. -/
def trimScan (s : State) : State :=
  let x := s.scan.sync
  if x.trimPpm = x.wantPpm then s
  else
    let t := x.trimPpm + clampI (-500) 500 (x.wantPpm - x.trimPpm)
    let s1 := { s with scan := { s.scan with sync := { x with trimPpm := t } } }
    let d0 := duty (scanNs s : Rat) (s.scan.sweepNs : Rat)
    let d1 := duty (scanNs s1 : Rat) (s.scan.sweepNs : Rat)
    { s1 with scan := { s1.scan with kCWant := s1.scan.kCWant * (if d1 = 0 then 1 else d0 / d1) } }

/-- R477, R478: the VLED target of this scan. -/
def headroom (s : State) : State :=
  let p := s.power
  let hold := decide (0 < p.boostScans) || (p.loadstep && p.boostHold)
  let s0 := { s with power := { p with boostScans := p.boostScans - 1 } }
  if !p.litSeen then { s0 with power := { s0.power with vT := s.reg Reg.pwrVledBootMv, hdrmLimit := false } }
  else match s.adc.nodePrev with
    | none => s0
    | some v =>
      let n : Rat := v * 1000
      let h : Rat := (s.reg Reg.pwrHdrmTargetMv : Rat)
      let want : Int := if n < h - 50 then (p.vT : Int) + roundQ (h - n) else if h + 50 < n ∧ !hold then (p.vT : Int) - 10 else p.vT
      let lo : Int := (s.reg Reg.pwrVledMinMv : Nat)
      let hi : Int := (s.reg Reg.pwrVledMaxMv : Nat)
      let t := clampI lo hi want
      { s0 with power := { s0.power with vT := t.toNat, hdrmLimit := decide (t = hi) && decide (n < h - 50) } }

/-- R157, R171: what the Lamplighter takes over at the first scan of a frame. -/
def frameLamp (s : State) : State :=
  if s.scan.scanInFrame ≠ 0 then s
  else
    let on := s.flag Reg.diagEnable
    let s1 := if s.lamp.enabled && !on then clearEvidence s else s
    { s1 with lamp := { s1.lamp with enabled := on, suppressRaised := false } }

/-- The next scan numbered and begun at an instant (R63, R134). MAP_REBUILD shows work that is done in one command until the next scan
boundary (DESIGN CHOICE, log 206). -/
def numberScan (t : Nat) (s : State) : State :=
  { s with scan := { s.scan with scanStart := t, slot := 0, scanInFrame := s.scan.scanInFrame + 1, scanCount := s.scan.scanCount + 1 }
           store := { s.store with eccRaised := false }
           lamp := { s.lamp with afterTiming := s.lamp.timingNew, timingNew := false, mapRebuild := false } }

/-- The entries of a queue that the stock firmware takes, up to a number. -/
def takeAll : Nat → Nat → State → State
  | 0, _, s => s
  | n + 1, q, s => match qTake s q with
    | (some _, s1) => takeAll n q s1
    | (none, _) => s

/-- R278, R280, R370: once a scan the stock firmware takes what stands on Q5, Q8 and Q9 (log 45: its uses of those notices are not
stated further). -/
def takeNotices (s : State) : State :=
  let s1 := if firmwareRuns s 3 then takeAll (qCount s 5) 5 s else s
  if firmwareRuns s1 2 then takeAll (qCount s1 9) 9 (takeAll (qCount s1 8) 8 s1) else s1

/-- R446: trim codes that changed take effect. -/
def takeTrim (s : State) : State := { s with cal := { s.cal with trim := s.cal.trimNext } }

/-- R16, R22, R63, R88, R134, R155, R254, R256, R299, R391 to R395, R446, R478: the next scan of the frame begins, on the sequencer's side. -/
def beginScan (o : ScanObs) (s : State) : State :=
    let t := if s.scan.scanInFrame = 0 then s.scan.frameStart else s.scan.scanStart + scanNs s
    let s1 := s.atLeast t
    -- the frame boundary has ended the last scan of the frame before
    let s2 := if s1.scan.scanInFrame = 0 then s1 else endScan s1
    let s3 := armTriggers 2 t (numberScan t (frameLamp s2))
    let s4 := tollPeriod o.slack s3
    let s5 := retime (takeTrim (trimScan s4))
    lightScanStart o.again (beginLampScan (headroom (updateRefs s5)))

/-- R23: what waits for tokens, class by class in the fixed order, and within a class in turn (log 200). -/
def servePeriod (o : ScanObs) (landing : State → State) (s : State) : State :=
  let s1 := landing (clearSides ([4, 3, 5, 0].foldl payOwed s))
  let s2 := drainCaptures (scrub o ([1, 2, 6].foldl payOwed s1))
  takeNotices (writebackShare (payOwed s2 7))

end Sys2Proof.Machine
end

