-- ==== Sys2Proof/Machine/Channels.lean ====
section
/-!
DEFINITION. Channels and queues (chapter 08): creation, destruction and the deferred free, row repair, the resizing of a ring, and the
writes of the Assayers (chapter 09).
-/

namespace Sys2Proof.Machine

/-! ### Creation (R258 to R263) -/

/-- R258, R261: whether a descriptor's fields lie in their ranges. -/
def descriptorOk (d : List Byte) : Bool :=
  let type := field d 0 1
  let fmt := field d 1 1
  let w := field d 4 2
  let h := field d 6 2
  let size := field d 8 4
  let plain := decide (fmt = 0 ∧ w = 0 ∧ h = 0)
  decide (field d 2 2 = 0) && (match type with
    | 1 => decide (fmt ≤ 5 ∧ 16 ≤ w ∧ w ≤ 4096 ∧ w % 16 = 0 ∧ 16 ≤ h ∧ h ≤ 2048 ∧ h % 16 = 0 ∧ size = 0)
    | 2 => plain && decide (1 ≤ size ∧ size ≤ 8192)
    | 3 => plain && decide (4096 ≤ size ∧ size ≤ 8388608 ∧ size % 4096 = 0)
    | 4 => plain && decide (4096 ≤ size ∧ size ≤ 8388608 ∧ size % 4096 = 0)
    | _ => false : Bool)

/-- The pages taken from the free runs, lowest first, and the runs left (DESIGN CHOICE, log 43: which free pages a channel gets is
not stated). -/
def takePages : Nat → List (Nat × Nat) → List (Nat × Nat) × List (Nat × Nat)
  | _, [] => ([], [])
  | n, (a, k) :: t =>
    if n = 0 then ([], (a, k) :: t)
    else if n < k then ([(a, n)], (a + n, k - n) :: t)
    else let r := takePages (n - k) t; ((a, k) :: r.1, r.2)

/-- A run put back among the free runs, joined with its neighbours. -/
def givePages (a n : Nat) : List (Nat × Nat) → List (Nat × Nat)
  | [] => [(a, n)]
  | (b, k) :: t =>
    if a + n < b then (a, n) :: (b, k) :: t
    else if a + n = b then (a, n + k) :: t
    else if b + k = a then givePages b (k + n) t
    else (b, k) :: givePages a n t

/-- `chan.free_pages`. -/
def freePages (s : State) : Nat := (s.chans.free.map (·.2)).sum

/-- Whether a physical address lies in some runs of pages. -/
def inRuns (runs : List (Nat × Nat)) (a : Nat) : Bool := runs.any (fun r => decide (r.1 ≤ a / 4096) && decide (a / 4096 < r.1 + r.2))

/-- The pages of some runs without the content that their channel had: they read as free pages; a poisoned word stays so until it is written (R255). -/
def clearPages (runs : List (Nat × Nat)) (s : State) : State := { s with store := { s.store with mem := s.store.mem.filter (fun c => !inRuns runs c.1) } }

/-- The pages of some runs as their channel's creation leaves them: filled anew, no word poisoned (R262). -/
def wipePages (runs : List (Nat × Nat)) (s : State) : State :=
  let s1 := clearPages runs s
  { s1 with store := { s1.store with poison := s1.store.poison.filter (fun w => !inRuns runs w) } }

/-- R261, R263: the result code of a create, the new channel, and the state with it in place. -/
def placeChannel (s : State) (d : List Byte) (fill : Byte) (owner : Option Nat) : Nat × Option Channel × State :=
  let type := field d 0 1
  let c0 : Channel := ⟨0, 0, type, field d 1 1, field d 4 2, field d 6 2, field d 8 4, [], false, false, fill, owner⟩
  if !descriptorOk d then (3, none, s)
  else match s.chans.slots with
    | [] => (1, none, s)
    | slot :: rest =>
      let n := c0.pages
      if freePages s < n then (2, none, s)
      else
        let g0 := mapGet (fun _ => 0) s.mram.gens slot
        let g := if g0 = 65535 then 1 else g0 + 1
        let (runs, free) := takePages n s.chans.free
        let c := { c0 with slot := slot, gen := g, runs := runs }
        let s1 := wipePages runs { s with
          chans := { s.chans with live := s.chans.live ++ [c], free := free, slots := rest }
          mram := { s.mram with gens := mapPut (fun _ => 0) slot g s.mram.gens } }
        (0, some c, s1)

/-- R261 to R263: a create whose end nobody waits for: the result code, the new handle, and the state with its fill under way (log 44). -/
def createChannel (s : State) (d : List Byte) (fill : Byte) (owner : Option Nat) : Nat × Nat × State :=
  match placeChannel s d fill owner with
  | (n, some c, s1) => (n, c.handle, owe 7 (ceilDiv c.bytes 64) none s1)
  | (n, none, s1) => (n, 0, s1)

/-! ### Destruction and the deferred free (R266 to R268) -/

/-- Whether a map of staged values binds a handle to a layer slot. -/
def bindsHandle (h : Nat) (m : NatMap) : Bool := m.any (fun p => p.2 == h && (List.range 8).any (fun n => Reg.layerHandle n == p.1))

/-- Whether a layer update binds a handle. -/
def updateBinds (h : Nat) (u : Option LayerUpdate) : Bool := match u with
  | some x => bindsHandle h x.values
  | none => false

/-- Whether a commit binds a handle. -/
def commitBinds (h : Nat) (c : Option Commit) : Bool := match c with
  | some x => bindsHandle h x.values
  | none => false

/-- R266: whether the tile writes of a staged region of a channel have begun. -/
def landing (s : State) (h : Nat) : Bool := s.chans.staging.any (fun st => decide (0 < st.paid) && field st.packet 8 4 == h)

/-- R267: whether a channel is referenced. -/
def referenced (s : State) (h : Nat) : Bool :=
  (List.range 8).any (fun n => s.reg (Reg.layerHandle n) == h) || s.pipe.prevBound.contains h ||
  commitBinds h s.commits.pending || commitBinds h s.commits.late ||
  (List.range 8).any (fun n => updateBinds h (vget s.commits.updates none n) || updateBinds h (vget s.commits.held none n)) ||
  (match s.pipe.writeback with | some w => w.1 == h | none => false) ||
  (match s.lanes.readJob with | some j => field j.packet 8 4 == h | none => false) ||
  (List.range 9).any (fun e => (vget s.engines (State.engineReset e) e).moves.any (fun m => m.refused == 0 && (field m.descriptor 0 4 == h || field m.descriptor 8 4 == h)))

/-- A channel's pages and slot freed, and what still waited for the next swap in that slot forgotten (R272). -/
def freeChannel (s : State) (c : Channel) : State :=
  let s1 := clearPages c.runs s
  let others (l : List (Nat × Nat)) : List (Nat × Nat) := l.filter (fun p => p.1 != c.slot)
  { s1 with pipe := { s1.pipe with flips := others s1.pipe.flips, clears := others s1.pipe.clears }
            chans := { s1.chans with live := s1.chans.live.filter (fun x => x.slot != c.slot),
                                     free := c.runs.foldl (fun f r => givePages r.1 r.2 f) s1.chans.free,
                                     slots := s1.chans.slots ++ [c.slot] } }

/-- The named sets that a snapshot holds: pending, late, admitted for the next boundary, or held (R266). -/
def snapshotSets (s : State) : List (Nat × Nat) :=
  let ofC (c : Option Commit) : List (Nat × Nat) := match c with | some x => x.sets | none => []
  let ofU (u : Option LayerUpdate) : List (Nat × Nat) := match u with | some x => x.sets | none => []
  ofC s.commits.pending ++ ofC s.commits.late ++ s.commits.updates.toList.flatMap ofU ++ s.commits.held.toList.flatMap ofU

/-- R266: the open sets and the landed regions of a channel discarded, but for the complete sets of a snapshot (log 175). -/
def discardSets (s : State) (slot : Nat) : State :=
  let keep := snapshotSets s
  { s with chans := { s.chans with sets := s.chans.sets.filter (fun x => x.slot != slot || x.admitted || (x.complete && (x.held || keep.contains (x.slot, x.set)))),
                                   loose := s.chans.loose.filter (fun p => p.1 != slot) } }

/-- R264, R266 to R268: a destroy: whether it is accepted. A stale handle is reported. -/
def destroyChannel (s : State) (h : Nat) : Bool × State :=
  match s.channel h with
  | none => (false, staleHandle s h 2)
  | some c =>
    if c.destroyed || h == s.reg Reg.diagMapHandle || h == s.reg Reg.diagEvidenceHandle then (false, s)
    else
      let wait := referenced s h
      let s1 := { s with chans := { s.chans with live := s.chans.live.map (fun x => if x.slot = c.slot then { x with destroyed := true, waiting := wait } else x) } }
      let s2 := discardSets s1 c.slot
      (true, if wait || landing s h then s2 else freeChannel s2 c)

/-- DEFERRED_FREE (R267): the last reference of a destroyed channel has ended. -/
def execDeferredFree (slot : Fin 256) (s : State) : Host.Outcome State Fault Refusal :=
  match s.chans.live.find? (fun c => c.slot == slot.val) with
  | some c =>
    if c.waiting && !referenced s c.handle && !landing s c.handle then
      .next (raise 67 (bytesLE 4 c.handle ++ bytesLE 2 c.pages) (freeChannel s c))
    else .next s
  | none => .next s

/-- `chan.deferred`. -/
def deferredCount (s : State) : Nat := s.chans.live.countP (·.waiting)

/-! ### Row repair (R257) -/

/-- Bank of a row (R250): two rows to a page, pages over the banks in turn. -/
def rowBank (row : Nat) : Nat := (row / 2) % 32

/-- Spare rows used in a bank. -/
def sparesUsed (s : State) (bank : Nat) : Nat := s.store.remap.countP (fun r => rowBank r.1 == bank)

/-- `store.spare_rows_min`. -/
def spareRowsMin (s : State) : Nat := 32 - ((List.range 32).map (sparesUsed s)).foldl Nat.max 0

/-- ROW_REPAIR_DONE (R257): the copy of a row to a spare row of its bank completes; without a spare row left, none is made. -/
def execRowRepairDone (row : Nat) (s : State) : Host.Outcome State Fault Refusal :=
  if s.store.repairing.contains row && domainOn s 3 then
    let n := sparesUsed s (rowBank row)
    let done (st : State) : State := { st with store := { st.store with repairing := st.store.repairing.filter (· != row) } }
    if 32 ≤ n then .next (done s)
    else
      let (ok, s1) := charge s 6 (.repair row) 64
      if !ok then .next s1
      else
        let s2 := done s1
        .next ({ s2 with store := { s2.store with remap := s2.store.remap ++ [(row, n)] } }.setReg Reg.storeRowsRepaired ((s2.reg Reg.storeRowsRepaired + 1) % 65536))
  else .next s

/-! ### Queues (R279) -/

/-- R279: whether a size is one that a ring may take. -/
def ringSize (n : Nat) : Bool := [32, 64, 128, 256, 512, 1024, 2048].contains n

/-- R279: whether a write of `queue.entries` is refused: an entry or a lease stands. -/
def ringBusy (s : State) (q : Nat) : Bool := qCount s q != 0 || !(qCtl s q).lessees.isEmpty

/-! ### Assayers (R291, R292) -/

/-- R292: `assay.value` set; the bits above the width of the CRC read 0. -/
def setAssayValue (s : State) (a v : Nat) : State := s.setReg (Reg.assayValue a) (v % 2 ^ (crcAlg (bits (s.reg (Reg.assayConfig a)) 3 2)).width)

/-- R291: `assay.init` loaded. -/
def resetAssay (s : State) (a : Nat) : State := (setAssayValue s a (s.reg (Reg.assayInit a))).setReg (Reg.assayCount a) 0

/-- R292: whether a write of an entry of an Assayer is refused: RUN is 1 and the write does not clear it. -/
def assayRefused (s : State) (a sub v : Nat) : Bool :=
  bitAt (s.reg (Reg.assayConfig a)) 1 && (if sub = 1 then bitAt v 1 else decide (sub ≤ 6))

end Sys2Proof.Machine
end

