-- ==== Sys2Proof/Machine/Lanes.lean ====
section
/-!
DEFINITION. The Skorlink link (chapter 07, R203 to R228, R242 to R248): training of the lanes, Lull sets, link packets with their
acknowledgement and replay, credits, the loss of a lane and its rejoining.
-/

namespace Sys2Proof.Machine

/-- The state with a lane replaced. -/
def setLane (s : State) (k : Nat) (x : Lane) : State := { s with lanes := { s.lanes with lanes := vset s.lanes.lanes k x } }

/-- A lane of the state. -/
def laneAt (s : State) (k : Nat) : Lane := laneOf s.lanes k

/-- `lane.enable_mask` of a lane, while LNK is on. -/
def laneEnabled (s : State) (k : Nat) : Bool := domainOn s 2 && bitAt (s.reg Reg.laneEnableMask) k

/-- The rung at which a lane trains: the link rung once it is fixed, else the top of the ladder (R212, R213). -/
def startRung (s : State) : Nat := if s.lanes.rate = 0xFF then s.reg Reg.laneRateMax else s.lanes.rate

/-- Symbols 1 to 14 of a training sequence. -/
def trainBody (ts : TrainSeq) : List Byte :=
  bytesLE 1 (if ts.b then 0x3A else 0xA3) ++ bytesLE 1 ts.lane ++ bytesLE 1 ts.link ++ bytesLE 1 ts.rung ++ bytesLE 1 ts.flags ++ bytesLE 1 ts.emi ++
    bytesLE 1 ts.preset ++ bytesLE 1 ts.lcnt ++ bytesLE 6 ts.resv

/-- R211: the training sequence that a lane sends: TS-B from stage 4 on, once the partner shows HEARD and ADAPT_DONE; FLAGS holds HEARD,
ADAPT_DONE and REJOIN. -/
def sentSequence (x : Lane) (k : Nat) : List Byte :=
  let b := trainBody ⟨decide (3 ≤ x.state) && x.partnerDone, k, x.linkId, x.rung, b2n x.commaLock + 2 * b2n x.adaptDone + 4 * b2n x.rejoining,
    x.emi, x.presetAsk, x.lcntTx, 0, 0, false⟩
  b ++ bytesLE 1 (crc8 b)

/-- R211, R249: a lane in a state before stage 2 at a rung; it takes its entries over, and in stage 1 it sends TS-A. -/
def stageOne (s : State) (k state rung : Nat) : State :=
  let x := { State.laneReset with
    state := state, rung := rung, rungStart := s.now, linkId := s.reg Reg.laneLinkId
    emiMin := s.reg Reg.laneEmiMin, emiDrop := s.reg Reg.laneEmiDrop, minLanes := s.reg Reg.laneMinLanes }
  setLane s k (if state = 1 then { x with sentTs := sentSequence x k } else x)

/-- R211: a lane at stage 1 where it is enabled. -/
def startLane (s : State) (k : Nat) : State := stageOne s k (if laneEnabled s k then 1 else 0) (startRung s)

/-- What the transmitter of a lane puts on the line besides IDL (log 6). -/
def emitWire (s : State) (k : Nat) (l : List LaneSymbol) : State := { s with lanes := { s.lanes with wire := s.lanes.wire ++ [(k, l)] } }

/-- R221: the 8 bytes of a control packet. -/
def controlPacket (ctype pool lane value : Nat) : List Byte :=
  let h := bytesLE 1 ctype ++ bytesLE 1 (128 * pool + lane) ++ bytesLE 2 value ++ bytesLE 2 0
  h ++ bytesLE 2 (crc16 h)

/-- A control packet put on a lane's line. -/
def sendControl (s : State) (k ctype pool lane value : Nat) : State := emitWire s k (framed .soc (controlPacket ctype pool lane value))

/-- R221: whether a received control packet of a type passes its CRC-16. -/
def controlOk (ctype : Nat) (b : List Byte) : Bool :=
  b.length == 8 && field b 0 1 == ctype && field b 6 2 == crc16 (b.take 6)

/-- R227: the credits granted for a pool since link-up, announced on an active lane. -/
def sendCredit (s : State) (ctl : Bool) : State :=
  match activeLanes s.lanes with
  | k :: _ => sendControl s k 3 (b2n ctl) k ((if ctl then s.lanes.hostCtl else s.lanes.hostBulk) % 65536)
  | [] => s

/-- R227: credits returned to the host. -/
def returnCredits (s : State) (ctl : Bool) (n : Nat) : State :=
  if n = 0 ∨ s.lanes.linkState ≠ 2 then s
  else
    let l := s.lanes
    sendCredit { s with lanes := if ctl then { l with hostCtl := l.hostCtl + n } else { l with hostBulk := l.hostBulk + n } } ctl

/-! ### Link up and down (R215, R227, R247) -/

/-- `lane.active_mask`. -/
def activeMask (s : State) : Nat := ((activeLanes s.lanes).map (fun k => 2 ^ k)).sum

/-- R215, R227: the link comes up once its wait has ended and enough lanes are aligned. -/
def tryLinkUp (s : State) : State :=
  if s.lanes.linkState ≠ 2 && s.lanes.waited && decide (s.lanes.minLanes ≤ (activeLanes s.lanes).length) then
    let s1 := { s with lanes := { s.lanes with linkState := 2, absent := false, hostBulk := 1024, hostCtl := 32, lastLane := 3 } }
    let s2 := raise 85 (bytesLE 1 (activeMask s1) ++ bytesLE 1 s1.lanes.rate) s1
    sendCredit (sendCredit s2 false) true
  else s

/-- What may be sent now is sent, and the responses that waited for its buffers follow. -/
def pumpHeld (s : State) : State := releaseAll (pumpAll s) 3

/-- R247: the link is down: E86, everything in flight is discarded and all enabled lanes start again. -/
def linkDown (s : State) : State :=
  let l := s.lanes
  let s1 := { s with
    lanes := { l with linkState := 0, rate := 0xFF, firstIdentity := none, linkId := 0, waited := false, noLockSince := s.now, locked := false,
                      txSseq := 0, rxSseq := 0, ahead := [], bulkPart := [], ctlPart := [], bulkCount := 0, ctlCount := 0,
                      delivered := l.delivered.map (fun p => { p with credits := 0 }), readJob := l.readJob.map (fun j => { j with credits := 0 }), txWait := [], resend := [],
                      grantBulk := 0, usedBulk := 0, grantCtl := 0, usedCtl := 0, hostBulk := 0, hostCtl := 0, wire := [] }
    kdp := { s.kdp with transports := vset s.kdp.transports 3 { transOf s 3 with txHeld := [] } }
    chans := { s.chans with staging := s.chans.staging.map (fun r => { r with credits := 0 }) } }
  let s2 := (List.range 4).foldl startLane s1
  raise 86 [] s2

/-! ### Losing a lane (R224, R242 to R244) -/

/-- SSEQ, FLAGS and payload of a packet kept for resending. -/
def retryParts (r : Retry) : Nat × Nat × List Byte := (field r.bytes 2 2, field r.bytes 6 1, slice r.bytes 8 (field r.bytes 4 2))

/-- Whether a direction of a lane is in the stripe. -/
def inStripe (x : Lane) : Bool := x.state == 5 || x.txJoined || x.rxJoined

/-- Whether a lane's receiver is in the stripe (R245). -/
def rxActive (s : State) (k : Nat) : Bool := (laneAt s k).state == 5 || (laneAt s k).rxJoined

/-- R243, R247: a lane leaves the stripe for a cause of R242, carried by E80 to E83 (R390); for none of them it leaves quietly (R246). -/
def loseLane (cause : Option Nat) (s : State) (k : Nat) : State :=
  let x := laneAt s k
  if !inStripe x then s
  else
    let again := x.retry.map retryParts
    let s0 := s.bump (Reg.laneLostCount k)
    let s1 := startLane { s0 with lanes := { s0.lanes with resend := s0.lanes.resend ++ again } } k
    let s2 := match cause with
      | some c => raise (80 + k) (bytesLE 1 c) s1
      | none => s1
    match activeLanes s2.lanes with
    | [] => linkDown s2
    | ks =>
      let s3 := ks.foldl (fun st j => sendControl st j 4 0 k ((x.rxLseq + 4095) % 4096)) s2
      pumpAll (s3.setReg (Reg.laneReplayCount k) ((s3.reg (Reg.laneReplayCount k) + again.length) % 4294967296))

/-- R212: the time of some symbols at a rung in ns, rounded up: a symbol lasts ten bits of 6.25, 5.0, 3.125, 2.5 or 1.25 Gb/s. -/
def symbolsNs (rung n : Nat) : Nat := ceilDiv (n * [8, 10, 16, 20, 40].getD rung 40) 5

/-- R207, R208, R242: code and disparity errors received on a lane; more than 8 within 1,024 symbols lose it. Errors of one command fall
within its instant (DESIGN CHOICE, log 189). -/
def noteErrors (n : Nat) (s : State) (k : Nat) : State :=
  if n = 0 then s
  else
    let x := laneAt s k
    let recent := x.errAt.filter (fun t => decide (s.now < t + symbolsNs x.rung 1024)) ++ List.replicate n s.now
    let s1 := setLane s k { x with errAt := recent.drop (recent.length - 9) }
    let s2 := s1.setReg (Reg.laneCodeErrors k) ((s1.reg (Reg.laneCodeErrors k) + n) % 4294967296)
    if 8 < recent.length ∧ x.state = 5 then loseLane (some 1) s2 k else s2

/-- R224: a lane whose retries are exhausted: E88 and its loss. -/
def exhausted (s : State) (k : Nat) (r : Retry) : State := loseLane (some 5) (raise 88 (bytesLE 1 k ++ bytesLE 2 r.lseq) s) k

/-- R219: the loss of a lane whose EMI has been low since `t`. -/
def dropLow (s : State) (k t : Nat) : State := loseLane (some 4) (s.atLeast (t + 1000000)) k

/-- LANE_LOST (R242, R243): the condition with the number `cause` of R242's list comes true on lane `k`: no signal energy, nine code errors
at once, no Lull set within 2,048 symbols, the elastic buffer at its end, or, where they hold, a low EMI and exhausted retries. -/
def execLaneLost (k : Fin 4) (cause : Fin 6) (s : State) : Host.Outcome State Fault Refusal :=
  let x := laneAt s k
  if x.state = 5 then
    .next (match cause.val with
      | 1 => noteErrors 9 s k
      | 2 => loseLane (some 2) (s.atLeast (x.lullAt + symbolsNs x.rung 2048)) k
      | 4 => (match x.emiLow with
        | some t => dropLow s k t
        | none => s)
      | 5 => (match x.retry.find? (fun r => decide (4 ≤ r.resent)) with
        | some r => exhausted s k r
        | none => s)
      | c => loseLane (some c) s k)
  else .next s

/-- R223, R224: every unacknowledged packet of a lane resent from the one at a place in its buffer; the fifth resend of a packet is not
made: the retries are exhausted. -/
def resendFrom (s : State) (k i : Nat) : State :=
  let x := laneAt s k
  match (x.retry.drop i).find? (fun r => decide (4 ≤ r.resent)) with
  | some r => exhausted s k r
  | none =>
    let n := (x.retry.drop i).length
    let again := (x.retry.drop i).map (fun r => { r with resent := r.resent + 1, sentAt := s.now })
    let s1 := again.foldl (fun st r => emitWire st k (framed .sol r.bytes)) (setLane s k { x with retry := x.retry.take i ++ again })
    s1.setReg (Reg.laneReplayCount k) ((s1.reg (Reg.laneReplayCount k) + n) % 4294967296)

/-- REPLAY_TIMEOUT (R223, R224): 16 µs without ACK or NAK for the oldest packet. -/
def execReplayTimeout (k : Fin 4) (s : State) : Host.Outcome State Fault Refusal :=
  let x := laneAt s k
  match x.retry with
  | r :: _ => if inStripe x then .next (resendFrom (s.atLeast (r.sentAt + 16000)) k 0) else .next s
  | [] => .next s

/-- LANE_EMI_DROP (R219, R242): the EMI has stayed below `lane.emi_drop` for 1 ms. -/
def execLaneEmiDrop (k : Fin 4) (s : State) : Host.Outcome State Fault Refusal :=
  let x := laneAt s k
  match x.emiLow with
  | some t => if x.state = 5 then .next (dropLow s k t) else .next s
  | none => .next s

/-! ### Training (R211 to R216, R453 group 3) -/

/-- R453 group 3: a termination network in tenths of an ohm checked; outside 100 Ω ±10 % it is dropped. -/
def checkNetwork (k e tenths : Nat) (s : State) : State :=
  if (tenths < 900 ∨ 1100 < tenths) ∧ !bitAt s.cal.termDropped (2 * k + e) then
    raise 12 (bytesLE 1 3 ++ bytesLE 1 (2 * k + e)) { s with cal := { s.cal with termDropped := setBit s.cal.termDropped (2 * k + e) true } }
  else s

/-- R453 group 3: the network nearer 100 Ω is picked, of those not dropped. -/
def pickNetwork (s : State) (k net0 net1 : Nat) : State :=
  let off (n : Nat) : Nat := ((n : Int) - 1000).natAbs
  let one := if bitAt s.cal.termDropped (2 * k) then true else if bitAt s.cal.termDropped (2 * k + 1) then false else decide (off net1 < off net0)
  { s with cal := { s.cal with termPick := setBit s.cal.termPick k one } }

/-- LANE_BIT_LOCK (R211 stage 1, R453, R454): the termination networks are measured and the clock recovery locks; a lane with both networks
dropped stays in SEARCH. -/
def execLaneBitLock (k : Fin 4) (net0 net1 : Nat) (s : State) : Host.Outcome State Fault Refusal :=
  let x := laneAt s k
  if x.state = 1 ∧ !x.bitLock then
    let s1 := checkNetwork k 1 net1 (checkNetwork k 0 net0 s)
    if bits s1.cal.termDropped (2 * k + 1) (2 * k) = 3 then .next s1
    else .next (setLane (pickNetwork s1 k net0 net1) k { x with bitLock := true, tsSeen := 0 })
  else .next s

/-- R212, R213: the lanes still training move to the rung that the first identity fixed. -/
def followRate (s : State) (k : Nat) : State :=
  let x := laneAt s k
  if 1 ≤ x.state ∧ x.state ≤ 3 ∧ x.rung ≠ s.lanes.rate then startLane s k else s

/-- R213, R215, R245: a lane completes identity: it waits to be aligned, or to rejoin a link that is up. -/
def completeIdentity (s : State) (k : Nat) (x : Lane) : State :=
  let y := { x with state := 4, tsSeen := 0, tsbSent := 0, rejoining := s.lanes.linkState == 2 }
  match s.lanes.firstIdentity with
  | some _ => setLane s k y
  | none =>
    let s1 := setLane { s with lanes := { s.lanes with firstIdentity := some s.now, linkId := x.partnerLink, minLanes := x.minLanes, rate := x.rung } } k y
    (List.range 4).foldl followRate s1

/-- R216: a lane whose partner's LINK differs stops: E90 at each entry. -/
def miswire (s : State) (k : Nat) (x : Lane) : State :=
  raise 90 (bytesLE 1 k ++ bytesLE 1 x.partnerLink) (setLane s k { x with state := 6 })

/-- R211 stage 4: one received sequence in IDENTIFY. DESIGN CHOICE (log 46): the lane sends one sequence for each it receives. -/
def identify (s : State) (k : Nat) (x : Lane) (b : Bool) : State :=
  if s.lanes.firstIdentity.isSome && x.partnerLink != s.lanes.linkId then miswire s k x
  else
    let y := { x with tsSeen := if b then x.tsSeen + 1 else 0, tsbSent := if x.partnerDone then x.tsbSent + 1 else x.tsbSent }
    if 8 ≤ y.tsSeen ∧ 16 ≤ y.tsbSent then completeIdentity s k y else setLane s k y

/-- R211: what a received sequence tells of the partner: LANE, LINK, EMI and its progress. A partner that shows in TS-A an EMI below
`lane.emi_min` is asked for one preset more each 1 ms while the lane's own EMI is not below it (DEDUCED, log 190). -/
def heard (x : Lane) (ts : TrainSeq) (now : Nat) : Lane :=
  let more := !ts.b && decide (ts.emi < x.emiMin) && decide (x.emiMin ≤ x.emi) && decide (x.presetAsk < 7) && decide (x.askAt + 1000000 ≤ now)
  { x with partnerLane := ts.lane, partnerLink := ts.link, partnerEmi := ts.emi,
           partnerDone := x.partnerDone || (bitAt ts.flags 0 && bitAt ts.flags 1),
           presetAsk := if more then x.presetAsk + 1 else x.presetAsk, askAt := if more then now else x.askAt }

/-- R211, R216, R245: what a sequence at the rung of the lane does in the stage that the lane is in. -/
def trainLane (s : State) (k : Nat) (ts : TrainSeq) : State :=
  let x := laneAt s k
  let y := heard x ts s.now
  match x.state with
  | 1 =>
    if !x.bitLock then s
    else if ts.inverted ≠ x.inverted then setLane s k { x with inverted := ts.inverted, tsSeen := 0 }
    else if x.tsSeen + 1 < 4 then setLane s k { y with tsSeen := x.tsSeen + 1 }
    else setLane { s with lanes := { s.lanes with locked := true } } k { y with state := 2, commaLock := true, tsSeen := 0, preset := ts.preset % 8, askAt := s.now }
  | 2 => setLane s k { y with preset := ts.preset % 8 }
  | 3 => identify s k y ts.b
  | 4 =>
    let good := ts.b && bitAt ts.flags 2
    if x.rejoining then setLane s k { y with tsSeen := if good then x.tsSeen + 1 else 0, tsbSent := x.tsbSent + 1 } else setLane s k y
  | 6 => if ts.link = x.partnerLink then s else identify s k { y with state := 3, tsSeen := 0, tsbSent := 0 } ts.b
  | _ => s

/-- TRAINING_SEQUENCE (R211, R212, R216, R245): a sequence whose TCHK passes, at the rung of the lane; the lane sends its own (log 46). -/
def execTrainingSequence (k : Fin 4) (ts : TrainSeq) (s : State) : Host.Outcome State Fault Refusal :=
  if ts.rung ≠ (laneAt s k).rung ∨ crc8 (trainBody ts) ≠ ts.tchk then .next s
  else
    let s1 := trainLane s k ts
    let x := laneAt s1 k
    .next (if x.state = 0 ∨ x.state = 5 then s1 else setLane s1 k { x with sentTs := sentSequence x k })

/-- R217: the eye margin index. -/
def emiOf (h v : Nat) : Nat := Nat.min (Nat.min h v) 255

/-- R218: DFE taps within their limits. -/
def dfeTaps (l : List Int) : List Int :=
  (List.range 3).map (fun i => let m : Int := ([80, 40, 20] : List Int).getD i 0; clampI (-m) m (l.getD i 0))

/-- R211: the CTLE setting of 0 to 15 dB with the highest EMI, and that EMI; of equal ones the lowest (DESIGN CHOICE, log 190). -/
def bestCtle (l : List (Nat × Nat)) : Nat × Nat :=
  let emis := (l.take 16).map (fun e => emiOf e.1 e.2)
  ((List.range emis.length).foldl (fun a i => if a.2 < emis.getD i 0 then (i, emis.getD i 0) else a) (0, emis.headD 0))

/-- LANE_ADAPT_DONE (R211 stage 3): the sweep and the training complete; an EMI of `lane.emi_min` ends the stage. -/
def execLaneAdaptDone (k : Fin 4) (a : AdaptObs) (s : State) : Host.Outcome State Fault Refusal :=
  let x := laneAt s k
  if x.state = 2 then
    let best := bestCtle a.sweep
    let y := { x with ctleDb := best.1, dfe := dfeTaps a.dfe, emi := best.2 }
    .next (setLane s k (if x.emiMin ≤ y.emi then { y with state := 3, adaptDone := true, tsSeen := 0, tsbSent := 0 } else y))
  else .next s

/-- LANE_DESKEW_DONE (R211 stage 5, R215): the lane is aligned and carries packets once the link is up. -/
def execLaneDeskewDone (k : Fin 4) (s : State) : Host.Outcome State Fault Refusal :=
  let x := laneAt s k
  if x.state = 4 ∧ !x.rejoining then .next (tryLinkUp (setLane s k { x with state := 5, txLseq := 0, rxLseq := 0, nakSent := false, retry := [] }))
  else .next s

/-- RUNG_TIMEOUT (R212, R213): 50 ms at a rung without identity: the next rung of the ladder. -/
def execRungTimeout (k : Fin 4) (s : State) : Host.Outcome State Fault Refusal :=
  let x := laneAt s k
  if 1 ≤ x.state ∧ x.state ≤ 3 ∧ s.lanes.rate = 0xFF then
    let s1 := s.atLeast (x.rungStart + 50000000)
    let next := if x.rung = 4 then s1.reg Reg.laneRateMax else x.rung + 1
    .next (stageOne s1 k 1 next)
  else .next s

/-- LINK_UP_WAIT_END (R215): 10 ms after the first identity, every lane that has completed identity is aligned. -/
def execLinkUpWaitEnd (s : State) : Host.Outcome State Fault Refusal :=
  match s.lanes.firstIdentity with
  | some t =>
    if s.lanes.linkState ≠ 2 ∧ !s.lanes.waited then
      let s1 := s.atLeast (t + 10000000)
      let align (st : State) (k : Nat) : State :=
        let x := laneAt st k
        if x.state = 4 then setLane st k { x with state := 5, txLseq := 0, rxLseq := 0, nakSent := false, retry := [] } else st
      let s2 := (List.range 4).foldl align s1
      .next (tryLinkUp { s2 with lanes := { s2.lanes with waited := true } })
    else .next s
  | none => .next s

/-- EMI_UPDATE (R217 to R219): the eye monitor's value, from stage 3 on; the DFE of an active lane adapts. -/
def execEmiUpdate (k : Fin 4) (eye : EyeObs) (s : State) : Host.Outcome State Fault Refusal :=
  let x := laneAt s k
  if 2 ≤ x.state then
    let emi := emiOf eye.h eye.v
    let low := decide (x.state = 5) && decide (emi < x.emiDrop)
    .next (setLane s k { x with emi := emi, dfe := if x.state = 5 then dfeTaps eye.dfe else x.dfe,
                                emiLow := if low then (match x.emiLow with | some t => some t | none => some s.now) else none })
  else .next s

/-! ### Lull sets (R209, R210, R245) -/

/-- R209: the symbols of a Lull set, with ROJ for the first LUL of a lane that joins (R245). -/
def lullSet (roj : Bool) (n : Nat) : List LaneSymbol := [.ctl .hsp, .ctl (if roj then .roj else .lul), .ctl .lul, .data (BitVec.ofNat 8 n)]

/-- R245: whether the lane's transmitter joins the stripe at the next common Lull set. -/
def joins (s : State) (k : Nat) : Bool :=
  let x := laneAt s k
  s.lanes.linkState == 2 && x.state == 4 && x.rejoining && !x.txJoined && decide (16 ≤ x.tsbSent) && decide (8 ≤ x.tsSeen)

/-- R245: a lane of which both directions have joined: ACTIVE, with E84. -/
def finishRejoin (s : State) (k : Nat) : State :=
  let x := laneAt s k
  if x.txJoined && x.rxJoined then
    raise 84 (bytesLE 1 k) (setLane s k { x with state := 5, rejoining := false, txJoined := false, rxJoined := false })
  else s

/-- R209, R245: the Lull set of one lane. -/
def sendLull (n : Nat) (s : State) (k : Nat) : State :=
  let x := laneAt s k
  let roj := joins s k
  let s1 := emitWire (setLane s k (if roj then { x with lcntTx := n, txJoined := true, txLseq := 0, retry := [] } else { x with lcntTx := n })) k (lullSet roj n)
  if roj then finishRejoin s1 k else s1

/-- LULL_SET_SEND (R209, R245): a Lull set begins on every lane with comma lock, with one LCNT. -/
def execLullSetSend (s : State) : Host.Outcome State Fault Refusal :=
  let ks := (List.range 4).filter (fun k => (laneAt s k).commaLock)
  if ks.isEmpty then .next s
  else
    let n := (s.lanes.lcnt + 1) % 256
    let joined := ks.any (joins s)
    let s1 := ks.foldl (sendLull n) { s with lanes := { s.lanes with lcnt := n } }
    .next (if joined then pumpHeld s1 else s1)

/-- R210: the fill of the elastic buffer after a Lull set. -/
def elasticFill (fill : Int) : Nat :=
  if fill ≤ 0 then 0 else if 16 ≤ fill then 16 else if 10 < fill then (fill - 1).toNat else if fill < 6 then (fill + 1).toNat else fill.toNat

/-- R209, R210: a Lull set received: an LCNT out of order is a code error; the buffer deletes or inserts one LUL, and at fill 0 or 16 the lane
is lost. -/
def takeLull (k : Nat) (o : LullObs) (s : State) : State :=
  let x := laneAt s k
  let n := o.lcnt % 256
  let fill := (x.elastic : Int) + o.drift
  let wrong := match x.lcntRx with
    | some m => n != (m + 1) % 256
    | none => false
  let s1 := noteErrors (b2n wrong) (setLane s k { x with lcntRx := some n, lullAt := s.now, elastic := elasticFill fill }) k
  if x.state = 5 ∧ (fill ≤ 0 ∨ 16 ≤ fill) then loseLane (some 3) s1 k else s1

/-- LULL_SET_RECEIVED (R209, R210). -/
def execLullSetReceived (k : Fin 4) (lull : LullObs) (s : State) : Host.Outcome State Fault Refusal :=
  .next (if (laneAt s k).commaLock then takeLull k lull s else s)

/-- LANE_REJOIN (R245): the partner's ROJ arrives in a Lull set: the lane's receiver is in the stripe. -/
def execLaneRejoin (k : Fin 4) (lull : LullObs) (s : State) : Host.Outcome State Fault Refusal :=
  let x := laneAt s k
  if x.state = 4 ∧ x.rejoining ∧ !x.rxJoined ∧ s.lanes.linkState = 2 then
    let s1 := takeLull k lull s
    .next (pumpHeld (finishRejoin (setLane s1 k { laneAt s1 k with rxJoined := true, rxLseq := 0, nakSent := false }) k))
  else .next s

/-! ### Symbols received (R207 to R209) -/

/-- R209: a symbol stream without its Lull sets; `lull` says that a Lull set's LCNT is still to come. -/
def stripLull : Bool → List LaneSymbol → List LaneSymbol
  | _, [] => []
  | lull, x :: t => match x with
    | .ctl .hsp => stripLull true t
    | .ctl .lul => stripLull lull t
    | .ctl .roj => stripLull lull t
    | .data b => if lull then stripLull false t else .data b :: stripLull false t
    | y => y :: stripLull false t

/-- A packet as its symbols bring it: its bytes, the code and disparity errors in it, whether it is framed and free of corruption, and whether
VOID ends it. -/
structure Received where
  bytes : List Byte
  errors : Nat
  sound : Bool
  nullified : Bool
  deriving DecidableEq, Repr

/-- R207, R208, R222: a packet that begins with `start`. -/
def receive (start : CtlSymbol) (l : List LaneSymbol) : Received :=
  let p := stripLull false l
  let body := (p.drop 1).dropLast
  { bytes := body.filterMap (fun x => match x with | .data b => some b | _ => none)
    errors := p.countP (fun x => x == .error || x == .ctl .other)
    sound := p.head? == some (.ctl start) && p.getLast? == some (.ctl .eop) && body.all (fun x => match x with | .data _ => true | _ => false)
    nullified := p.getLast? == some (.ctl .void) }

/-! ### Link packets (R220 to R226) -/

/-- R229: the greatest LENGTH of a transaction packet's type from the host, and whether it belongs to the control pool. -/
def packetLimit : Nat → Option (Nat × Bool)
  | 1 => some (65564, false)
  | 2 => some (20, false)
  | 3 => some (20, false)
  | 4 => some (2060, true)
  | 5 => some (24, false)
  | _ => none

/-- R230: a packet of an undefined TYPE, in the wrong pool or too long. -/
def packetUnknown (ctl : Bool) (p : List Byte) : Bool :=
  match packetLimit (field p 0 1) with
  | some (n, pool) => pool != ctl || decide (n < p.length)
  | none => true

/-- R280: the entry of Q1 for a STATUS on its way to the lane transmitter, which pops and acknowledges it in one step (R277). It has KIND 0x0101
and the first 12 bytes of the body (DESIGN CHOICE, log 191). -/
def passQ1 (s : State) (body : List Byte) : State :=
  if s.lanes.linkState ≠ 2 then s else (qTake (qPut s 1 (qEntry s 1 0x0101 body)) 1).2

/-- R241, R280: a STATUS for a packet, through Q1. -/
def sendStatus (s : State) (p : List Byte) (handle status detail : Nat) : State :=
  let body := bytesLE 4 handle ++ bytesLE 2 (field p 2 2) ++ bytesLE 1 (field p 0 1) ++ bytesLE 1 status ++ bytesLE 4 detail
  linkSend (passQ1 s body) true (transaction 0x81 0 (field p 2 2) body)

/-- R241: the HANDLE of a packet whose TYPE has one, 0 for another (DEDUCED, log 172). -/
def packetHandle (p : List Byte) : Nat := if [1, 2, 3, 5].contains (field p 0 1) then field p 8 4 else 0

/-- R229: TCRC of a packet. -/
def tcrcOk (p : List Byte) : Bool :=
  decide (12 ≤ p.length) && field p (p.length - 4) 4 == crc32c (p.take (p.length - 4))

/-- R229, R233, R238: a packet whose TCRC fails: E89 for a REGION, counted for another, and STATUS 0x01. -/
def tcrcFails (s : State) (p : List Byte) : State :=
  sendStatus (if field p 0 1 = 1 then raise 89 (bytesLE 4 (field p 8 4) ++ bytesLE 2 (field p 2 2)) s else s.bump Reg.laneTpCheckFail) p (packetHandle p) 1 0

/-- R229, R230: a packet of an undefined TYPE, in the wrong pool or too long, whose TCRC has been verified: STATUS 0x0C; the credits return. -/
def discardPacket (s : State) (ctl : Bool) (n : Nat) (p : List Byte) : State :=
  returnCredits (if tcrcOk p then sendStatus s p (packetHandle p) 0xC 0 else tcrcFails s p) ctl n

/-- A completed transaction packet handed to its unit. One that R230 discards needs no command: it is discarded in its turn. -/
def deliverPacket (s : State) (ctl : Bool) (n : Nat) (p : List Byte) : State :=
  { s with lanes := { s.lanes with delivered := s.lanes.delivered ++ [⟨ctl, n, p, if packetUnknown ctl p then some ⟨[], []⟩ else none⟩] } }

/-- R226: one link packet's payload joins the transaction packet of its pool. -/
def takePayload (s : State) (flags : Nat) (payload : List Byte) : State :=
  let ctl := bitAt flags 2
  let l := s.lanes
  let part := (if bitAt flags 0 then [] else if ctl then l.ctlPart else l.bulkPart) ++ payload
  let n := (if bitAt flags 0 then 0 else if ctl then l.ctlCount else l.bulkCount) + 1
  let put (st : State) (b : List Byte) (c : Nat) : State :=
    { st with lanes := if ctl then { st.lanes with ctlPart := b, ctlCount := c } else { st.lanes with bulkPart := b, bulkCount := c } }
  if bitAt flags 1 then deliverPacket (put s [] 0) ctl n part else put s part n

/-- R225: packets delivered in SSEQ order. -/
def drainAhead : Nat → State → State
  | 0, s => s
  | n + 1, s =>
    match s.lanes.ahead.find? (fun p => p.1 == s.lanes.rxSseq) with
    | none => s
    | some p =>
      let l := { s.lanes with ahead := s.lanes.ahead.filter (fun q => q.1 != p.1), rxSseq := (s.lanes.rxSseq + 1) % 65536 }
      drainAhead n (takePayload { s with lanes := l } p.2.1 p.2.2)

/-- R220, R225: whether a link packet is whole: its LEN, its LCRC and an SSEQ within reach. DEDUCED (log 48): an SSEQ in the half of the
number circle behind the one expected has been delivered. -/
def packetSound (s : State) (b : List Byte) : Bool :=
  let n := field b 4 2
  let ahead := (field b 2 2 + 65536 - s.lanes.rxSseq) % 65536
  b.length == n + 12 && decide (4 ≤ n) && decide (n ≤ 512) && n % 4 == 0 && field b (n + 8) 4 == crc32c (b.take (n + 8)) &&
    (decide (ahead < 512) || decide (32768 ≤ ahead))

/-- R222, R225: a link packet free of corruption on a lane, delivered in SSEQ order. -/
def takeLinkPacket (k : Nat) (bytes : List Byte) (s : State) : State :=
  let x := laneAt s k
  let s1 := sendControl (setLane s k { x with rxLseq := (x.rxLseq + 1) % 4096, nakSent := false }) k 1 0 k (field bytes 0 2 % 4096)
  let sseq := field bytes 2 2
  let ahead := (sseq + 65536 - s1.lanes.rxSseq) % 65536
  if 512 ≤ ahead ∨ s1.lanes.ahead.any (fun p => p.1 == sseq) then s1
  else
    let s2 := { s1 with lanes := { s1.lanes with ahead := s1.lanes.ahead ++ [(sseq, field bytes 6 1, slice bytes 8 (field bytes 4 2))] } }
    drainAhead s2.lanes.ahead.length s2

/-! ### Control packets (R221, R223, R228, R244) -/

/-- R223: the packets of a lane acknowledged up to an LSEQ that stands in its buffer. -/
def ackUpTo (x : Lane) (lseq : Nat) : Lane :=
  match x.retry.findIdx? (fun r => r.lseq == lseq) with
  | some i => { x with retry := x.retry.drop (i + 1) }
  | none => x

/-- R208, R221: a control packet of a type that arrives whole on a lane of the stripe takes effect. -/
def onControl (k ctype : Nat) (symbols : List LaneSymbol) (s : State) (act : List Byte → State → State) : State :=
  if rxActive s k then
    let r := receive .soc symbols
    let s1 := noteErrors r.errors s k
    if r.sound && controlOk ctype r.bytes && rxActive s1 k then act r.bytes s1 else s1
  else s

/-- ACK (R223): acknowledged packets leave the retry buffer. -/
def execAck (k : Fin 4) (symbols : List LaneSymbol) (s : State) : Host.Outcome State Fault Refusal :=
  .next (onControl k 1 symbols s (fun b s1 =>
    if field b 1 1 % 4 = k.val then pumpHeld (setLane s1 k (ackUpTo (laneAt s1 k) (field b 2 2 % 4096))) else s1))

/-- NAK (R223, R224): the lane resends from the LSEQ named. -/
def execNak (k : Fin 4) (symbols : List LaneSymbol) (s : State) : Host.Outcome State Fault Refusal :=
  .next (onControl k 2 symbols s (fun b s1 =>
    match (laneAt s1 k).retry.findIdx? (fun r => r.lseq == field b 2 2 % 4096) with
    | some i => if field b 1 1 % 4 = k.val then resendFrom s1 k i else s1
    | none => s1))

/-- CREDIT (R228): the host grants credits of a pool. -/
def execCredit (k : Fin 4) (symbols : List LaneSymbol) (s : State) : Host.Outcome State Fault Refusal :=
  .next (onControl k 3 symbols s (fun b s1 =>
    if s1.lanes.linkState = 2 then
      let v := field b 2 2
      let l := s1.lanes
      pumpHeld { s1 with lanes := if bitAt (field b 1 1) 7 then { l with grantCtl := v } else { l with grantBulk := v } }
    else s1))

/-- DROP (R221, R243, R244): the host has lost a lane; what it received in order is acknowledged, and the lane leaves the stripe here too
(DEDUCED, log 49; E80 to E83 then carry cause 0). -/
def execDrop (k : Fin 4) (symbols : List LaneSymbol) (s : State) : Host.Outcome State Fault Refusal :=
  .next (onControl k 4 symbols s (fun b s1 =>
    let j := field b 1 1 % 4
    if j = k.val then s1 else loseLane (some 0) (setLane s1 j (ackUpTo (laneAt s1 j) (field b 2 2 % 4096))) j))

/-- PARTNER_ABSENT (R248): no enabled lane has reached comma lock in 200 ms. -/
def execPartnerAbsent (s : State) : Host.Outcome State Fault Refusal :=
  if domainOn s 2 && s.lanes.linkState != 2 && !s.lanes.absent && !s.lanes.locked then
    let s1 := s.atLeast (s.lanes.noLockSince + 200000000)
    .next (raise 87 [] { s1 with lanes := { s1.lanes with absent := true } })
  else .next s

/-- R246: the lanes after a write of `lane.enable_mask`, which the register file already holds. -/
def applyLaneMask (s : State) (old : Nat) : State :=
  (List.range 4).foldl (fun st k =>
    let new := bitAt (st.reg Reg.laneEnableMask) k
    if bitAt old k = new ∨ !domainOn st 2 then st
    else if new then startLane st k
    else if inStripe (laneAt st k) then loseLane none st k
    else startLane st k) s

/-- `lane.link_state`: UP, TRAINING while a lane has comma lock, else DOWN (DESIGN CHOICE, log 50). -/
def linkStateByte (s : State) : Nat :=
  if s.lanes.linkState = 2 then 2 else if (List.range 4).any (fun k => (laneAt s k).commaLock) then 1 else 0

/-- LNK powered: the enabled lanes start (R211, R248). -/
def lanesOn (s : State) : State :=
  (List.range 4).foldl startLane { s with lanes := { State.lanesReset with noLockSince := s.now } }

/-- LNK removed: E86 when the link was up, and the lanes at idle (R472). -/
def lanesOff (s : State) : State :=
  let s1 := if s.lanes.linkState = 2 then linkDown s else s
  { s1 with lanes := { State.lanesReset with delivered := s1.lanes.delivered, readJob := s1.lanes.readJob } }

end Sys2Proof.Machine
end

