-- ==== Sys2Proof/Machine/Ingest.lean ====
section
/-!
DEFINITION. What the ingest unit does with transaction packets (chapter 07, R231 to R235, R239): regions with their refusals and the writing of
their tiles, set closes, and the reading of tiles back.
-/

namespace Sys2Proof.Machine

/-- R233, R264: what a handle names for a packet of the lanes: the channel, or the state after its refusal. -/
def laneChannel (s : State) (p : List Byte) (h : Nat) : Option Channel × State :=
  match s.usable h with
  | some c => (some c, s)
  | none => (none, sendStatus (staleHandle s h 0) p h 4 0)

/-! ### REGION (R231 to R234) -/

/-- Bits per pixel of a format (R176). -/
def formatBits : Nat → Nat
  | 0 => 8 | 4 => 1 | 5 => 4 | _ => 16

/-- The fields of a REGION. -/
structure RegionFields where
  handle : Nat
  x : Nat
  y : Nat
  w : Nat
  h : Nat
  set : Nat
  tag : Nat
  report : Bool
  deriving DecidableEq, Repr

/-- R231: the fields of a REGION packet. -/
def regionFields (p : List Byte) : RegionFields :=
  ⟨field p 8 4, field p 12 2, field p 14 2, field p 16 2, field p 18 2, field p 20 1, field p 2 2, bitAt (field p 1 1) 0⟩

/-- Bytes of a row, and of the payload without its pad. -/
def rowBytes (fmt w : Nat) : Nat := ceilDiv (w * formatBits fmt) 8

/-- The tiles that a rectangle of a surface meets, ascending. -/
def regionTiles (c : Channel) (r : RegionFields) : List Nat :=
  let tw := c.width / 16
  let rows := span (r.y / 16) ((r.y + r.h - 1) / 16 + 1 - r.y / 16)
  let cols := span (r.x / 16) ((r.x + r.w - 1) / 16 + 1 - r.x / 16)
  rows.flatMap (fun ty => cols.map (fun tx => ty * tw + tx))

/-- R272, R392: whether a tile's flip, or the clearing of its record after a flip, is still to come. -/
def tileWaits (s : State) (c : Channel) (i : Nat) : Bool :=
  bitAt (sideState s (.surface c i 0)) 1 || s.pipe.clears.contains (c.slot, i)

/-- R185: whether a tile is written by another open set of its surface. -/
def tileTaken (s : State) (c : Channel) (set i : Nat) : Bool :=
  let v := sideState s (.surface c i 0)
  !tileWaits s c i && bitAt v 3 && bits v 15 8 != set

/-- The open named sets of a surface. -/
def openSets (s : State) (slot : Nat) : List NamedSet := s.chans.sets.filter (fun x => x.slot == slot)

/-- R185: whether the set would be a ninth open one. -/
def ninthSet (s : State) (slot set : Nat) : Bool := set != 0 && (openSet s slot set).isNone && decide (8 ≤ (openSets s slot).length)

/-- R233: the refusal of a region whose handle is sound: STATUS and DETAIL. -/
def regionRefusal (s : State) (c : Channel) (p : List Byte) : Option (Nat × Nat) :=
  let r := regionFields p
  let n := rowBytes c.format r.w * r.h
  if c.type ≠ 1 then some (5, c.type)
  else if c.width < r.x + r.w ∨ c.height < r.y + r.h then some (6, 0)
  else if r.w = 0 ∨ r.h = 0 ∨ (c.format = 4 ∧ (r.x % 8 ≠ 0 ∨ r.w % 8 ≠ 0)) ∨ (c.format = 5 ∧ (r.x % 2 ≠ 0 ∨ r.w % 2 ≠ 0)) ∨
      field p 4 4 ≠ p.length ∨ p.length ≠ 28 + ceilDiv n 4 * 4 then some (7, 0)
  else
    let full := match (if r.set = 0 then none else openSet s c.slot r.set) with
      | some x => (match x.closed with
        | some k => if x.tags.length = k ∧ !x.tags.contains r.tag then some (0xB, k) else none
        | none => none)
      | none => none
    match full with
    | some f => some f
    | none =>
      if ninthSet s c.slot r.set then some (2, 0)
      else ((regionTiles c r).find? (tileTaken s c r.set)).map (fun i => (3, i))

/-! ### REGION_LANDED (R232, R186) -/

/-- Bits of a byte string as a number, `w` of them from bit `o`. -/
def bitField (l : List Byte) (o w : Nat) : Nat := bits (field l (o / 8) 3) (o % 8 + w - 1) (o % 8)

/-- A tile's bytes with the samples of a region that fall into it. -/
def overlayTile (fmt : Nat) (c : Channel) (r : RegionFields) (payload : List Byte) (i : Nat) (old : List Byte) : List Byte :=
  let b := formatBits fmt
  let tx := (i % (c.width / 16)) * 16
  let ty := (i / (c.width / 16)) * 16
  let row := rowBytes fmt r.w
  let sample (q : Nat) : Nat :=
    let x := tx + q % 16
    let y := ty + q / 16
    if r.x ≤ x ∧ x < r.x + r.w ∧ r.y ≤ y ∧ y < r.y + r.h then bitField payload ((y - r.y) * row * 8 + (x - r.x) * b) b
    else bitField old (q * b) b
  if b = 16 then (List.range 256).flatMap (fun q => bytesLE 2 (sample q))
  else if b = 8 then (List.range 256).map (fun q => BitVec.ofNat 8 (sample q))
  else (List.range (32 * b)).map (fun j => BitVec.ofNat 8 (((List.range (8 / b)).map (fun k => sample (j * (8 / b) + k) * 2 ^ (b * k))).sum))

/-- R7, R176: the bytes of a tile as they are stored: `resv` of an L12 sample is ignored and reads 0. -/
def storedSamples (fmt : Nat) (b : List Byte) : List Byte :=
  if fmt = 1 then (b.zip (List.range b.length)).map (fun q => if q.2 % 2 = 1 then q.1 &&& 0x0F else q.1) else b

/-- Whether a region covers the whole of a tile. -/
def coversTile (c : Channel) (r : RegionFields) (i : Nat) : Bool :=
  let tx := (i % (c.width / 16)) * 16
  let ty := (i / (c.width / 16)) * 16
  decide (r.x ≤ tx ∧ tx + 16 ≤ r.x + r.w ∧ r.y ≤ ty ∧ ty + 16 ≤ r.y + r.h)

/-- R186, R232, R285: one tile of a region written into its back slot; answers the number of zero-filled tiles so far. -/
def landTile (c : Channel) (r : RegionFields) (payload : List Byte) (tr : List Nat) (q : Nat × State) (i : Nat) : Nat × State :=
  let s := q.2
  let v := sideState s (.surface c i 0)
  let sel := v % 2
  let back := TileRef.surface c i (1 - sel)
  let front := TileRef.surface c i sel
  let whole := coversTile c r i
  let (blank, old, s1) :=
    if whole then (0, [], s)
    else
      -- the slot that holds the tile's newest content; one that fails its check fills with zeros (R255, R285)
      let src := if bitAt v 2 then back else front
      let (ok, s2) := verifyTile s 0 src tr
      if ok then (0, tileData s2 src, s2) else (1, List.replicate back.size 0, s2)
  let d := storedSamples c.format (overlayTile c.format c r payload i old)
  let s3 := writeTile s1 back d (crc32c d)
  (q.1 + blank, setSideState s3 back (bits v 1 0 + 12 + r.set * 256))

/-- R391: tokens of C0 that a region takes: one for each block of 64 bytes written, its side record, and the reads of a fill. -/
def regionTokens (c : Channel) (r : RegionFields) : Nat :=
  ((regionTiles c r).map (fun i => ceilDiv (formatBytes c.format) 64 * (if coversTile c r i then 1 else 2) + 1)).sum

/-- R183, R184, R234: a landed region counted in its set, loose or named. -/
def countRegion (s : State) (c : Channel) (r : RegionFields) : State :=
  let tiles := regionTiles c r
  if c.destroyed then s
  else if r.set = 0 then
    let new := (tiles.map (fun i => (c.slot, i))).filter (fun p => !s.chans.loose.contains p)
    { s with chans := { s.chans with loose := s.chans.loose ++ new } }
  else match openSet s c.slot r.set with
    | some x =>
      let y := { x with tags := if x.tags.contains r.tag then x.tags else x.tags ++ [r.tag],
                        tiles := x.tiles ++ tiles.filter (fun i => !x.tiles.contains i) }
      { s with chans := { s.chans with sets := s.chans.sets.map (fun z => if z.slot == c.slot && z.set == r.set then y else z) } }
    | none => { s with chans := { s.chans with sets := s.chans.sets ++ [⟨c.slot, r.set, [r.tag], none, tiles, false, false⟩] } }

/-- R232: what follows the last tile's write: the set, the snoop, the notice, STATUS, and the credits. -/
def finishRegion (s : State) (c : Channel) (st : StagedRegion) (zeros : Nat) : State :=
  let r := regionFields st.packet
  let payload := slice st.packet 24 (rowBytes c.format r.w * r.h)
  let s1 := snoop (countRegion s c r) 1 r.handle payload
  let s2 := owe 0 1 none (qPut s1 9 (qEntry s1 9 0x0901 (bytesLE 4 r.handle ++ bytesLE 1 r.set ++ bytesLE 1 0 ++ bytesLE 2 r.x ++ bytesLE 2 r.y ++
    bytesLE 2 r.w ++ bytesLE 2 r.h ++ bytesLE 2 r.tag)))
  let s3 := if r.report then sendStatus s2 st.packet r.handle 0 zeros else s2
  let s4 := { s3 with chans := { s3.chans with staging := [] } }
  -- R266: the channel was destroyed while the region was being written
  returnCredits (if c.destroyed && !c.waiting then freeChannel s4 c else s4) false st.credits

/-! ### SET_CLOSE (R235) -/

/-- R235: the refusal of a SET_CLOSE on a channel, or the state with its close record. -/
def closeSet (s : State) (c : Channel) (set count : Nat) : Nat × State :=
  if c.type ≠ 1 then (5, s)
  else if set = 0 ∨ count = 0 then (7, s)
  else if ninthSet s c.slot set then (2, s)
  else match openSet s c.slot set with
    | some x =>
      let differs := match x.closed with
        | some k => k != count
        | none => false
      if differs || decide (count < x.tags.length) then (0xB, s)
      else (0, { s with chans := { s.chans with sets := s.chans.sets.map (fun z => if z.slot == c.slot && z.set == set then { z with closed := some count } else z) } })
    | none => (0, { s with chans := { s.chans with sets := s.chans.sets ++ [⟨c.slot, set, [], some count, [], false, false⟩] } })

/-! ### Readback (R239, R240) -/

/-- The tiles of a readback verified and returned with their check words, up to one that fails. -/
def readTiles (c : Channel) (tr : List Nat) : List Nat → List (List Byte × Nat) → State → Option Nat × List (List Byte × Nat) × State
  | [], out, s => (none, out, s)
  | i :: t, out, s =>
    let v := sideState s (.surface c i 0)
    let ref := if c.type = 1 then TileRef.surface c i ((v + bits v 1 1) % 2) else .capture c i
    let (ok, s1) := verifyTile s 5 ref tr
    if ok then readTiles c tr t (out ++ [(tileData s1 ref, tileCheck s1 ref)]) s1 else (some i, out, s1)

/-- R240: the refusal of a readback that needs no data. -/
def readbackRefusal (c : Channel) (first count : Nat) : Option Nat :=
  let tiled := decide (c.type ≤ 2)
  let beyond := if tiled then decide (c.tiles < first + count) else decide (c.size < first + count)
  let long := if tiled then decide (65536 / (c.tileBytes + 4) < count) else decide (65536 < count)
  if beyond then some 6
  else if count = 0 ∨ (!tiled ∧ count % 4 ≠ 0) then some 7
  else if long then some 8 else none

/-- R183, R283, R364: a whole tile written to a surface's back slot as a loose region. -/
def landLoose (s : State) (c : Channel) (i : Nat) (bytes : List Byte) : State :=
  let data := storedSamples c.format bytes
  let v := sideState s (.surface c i 0)
  let back := TileRef.surface c i (1 - v % 2)
  let s1 := setSideState (writeTile s back data (crc32c data)) back (bits v 1 0 + 12)
  if c.destroyed || s1.chans.loose.contains (c.slot, i) then s1
  else { s1 with chans := { s1.chans with loose := s1.chans.loose ++ [(c.slot, i)] } }

end Sys2Proof.Machine
end

