-- ==== Sys2Proof/Machine/Regions.lean ====
section
/-!
DEFINITION. What a handle or a pseudo-handle names for an engine (R359, R361, R362): the areas, who may read and write them, their bytes and
their tiles.
-/

namespace Sys2Proof.Machine

/-- An area that an engine reaches: its data RAM, a channel, a fixed region of pixel store or a region of MRAM. -/
inductive Area where
  | dram
  | chan (c : Channel)
  | fixed (h : Nat)
  | mram (h : Nat)
  deriving DecidableEq, Repr

/-- First byte and size of a fixed region with a pseudo-handle (R252, R362). -/
def fixedRegion (h : Nat) : Nat × Nat :=
  match h with
  | 0xFF000001 => (composedBase, 4259840)
  | 0xFF000002 => (driveBase, 4259840)
  | 0xFF000003 => (glazeBase, 2162688)
  | 0xFF000004 => (mirrorBase, 4259840)
  | _ => (dumpBase, 1048576)

/-- Size of an MRAM region with a pseudo-handle (R365, R441, R506): an image slot, a Lantern frame with its check words, the binning
tiles with their check array, the Ledger. -/
def mramSize (h : Nat) : Nat :=
  match h with
  | 0xFE000004 => 2113536
  | 0xFE000005 => 2113536
  | 0xFE000006 => 4210688
  | 0xFE000007 => 561152
  | _ => 2097152

/-- The area that a handle names; none where it names no channel that may still be used (R264, R266). -/
def areaOf (s : State) (h : Nat) : Option Area :=
  if h = 0 then some .dram
  else if 0xFF000001 ≤ h ∧ h ≤ 0xFF000005 then some (.fixed h)
  else if 0xFE000001 ≤ h ∧ h ≤ 0xFE000007 then some (.mram h)
  else (s.usable h).map .chan

/-- The area of a move under way: its channels stay until it ends (R267). -/
def movingArea (s : State) (h : Nat) : Option Area :=
  match areaOf s h with
  | some a => some a
  | none => (s.channel h).map .chan

/-- Size in bytes. -/
def Area.size : Area → Nat
  | .dram => 65536
  | .chan c => c.bytes
  | .fixed h => (fixedRegion h).2
  | .mram h => mramSize h

/-- R362: whether engine number `n` may read an area. -/
def Area.readable (n : Nat) : Area → Bool
  | .fixed h => decide (n < 4) || [0xFF000001, 0xFF000002, 0xFF000004].contains h
  | .mram h => decide (n < 4) || decide (0xFE000004 ≤ h)
  | _ => true

/-- R362, R371: whether engine number `n` may write an area by a move; an extension engine only its own BLOB channels and its data RAM. -/
def Area.writable (n : Nat) : Area → Bool
  | .dram => true
  | .chan c => decide (n < 4) || (decide (c.type = 4) && c.owner == some n)
  | .fixed h => decide (n < 4) && (h == 0xFF000004 || h == 0xFF000005)
  | .mram h => decide (n < 4) && (h == 0xFE000004 || h == 0xFE000005 || h == 0xFE000007)

/-- R359, R371: whether engine number `n` may store into an area through a window: a BLOB or DIAG channel. -/
def Area.storable (n : Nat) : Area → Bool
  | .chan c => (decide (c.type = 4) || decide (c.type = 3)) && (Area.chan c).writable n
  | _ => false

/-- The physical address in pixel store of a byte of an area. -/
def Area.addr : Area → Nat → Option Nat
  | .chan c, o => some (c.addr o)
  | .fixed h, o => some ((fixedRegion h).1 + o)
  | _, _ => none

/-- Whether an area lies in pixel store. -/
def Area.inStore : Area → Bool
  | .chan _ => true
  | .fixed _ => true
  | _ => false

/-- Whether the word that holds a byte of an area is poisoned. -/
def areaPoisoned (s : State) (a : Area) (o : Nat) : Bool :=
  match a.addr o with
  | some p => s.store.poison.contains (p - p % 8)
  | none => false

/-- R441: a byte of the binning data: the tiles, then their check array. -/
def binningByte (s : State) (o : Nat) : Nat :=
  let word (t i : Nat) : Nat := binWord s (pixelOf ((t % 128) * 16 + i % 16) ((t / 128) * 16 + i / 16))
  if o < 4194304 then word (o / 1024) (o % 1024 / 4) / 256 ^ (o % 4)
  else
    binCheck s ((o - 4194304) / 4) / 256 ^ (o % 4)

/-- R506: a byte of the Ledger: the dump summary, the fault list, the ring. -/
def ledgerByte (s : State) (o : Nat) : Nat :=
  if o < 4096 then s.regByte Reg.dumpSummary o
  else if o < 69632 then mapGet (fun _ => 0) s.mram.ledger.faults ((o - 4096) / 8) / 256 ^ (o % 8)
  else match s.mram.ledger.ring.lookup ((o - 69632) / 32) with
    | some b => field b (o % 32) 1
    | none => 0

/-- A byte of an MRAM region; past the end of what was written into an image slot it reads 0. -/
def mramByte (s : State) (h o : Nat) : Byte :=
  match h with
  | 0xFE000004 => memGet (vget s.mram.lantern [] 0) o
  | 0xFE000005 => memGet (vget s.mram.lantern [] 1) o
  | 0xFE000006 => BitVec.ofNat 8 (binningByte s o)
  | 0xFE000007 => BitVec.ofNat 8 (ledgerByte s o)
  | _ => (imageOf s (h - 0xFE000001)).getD o 0

/-- A byte of an area; a poisoned word of pixel store reads 0 (R255). -/
def areaByte (s : State) (e : Nat) (a : Area) (o : Nat) : Byte :=
  match a with
  | .dram => memGet (engOf s e).dram o
  | .mram h => mramByte s h o
  | _ => match a.addr o with
    | some p => if s.store.poison.contains (p - p % 8) then 0 else loadByte s p
    | none => 0

/-- Bytes of an area. -/
def areaBytes (s : State) (e : Nat) (a : Area) (o n : Nat) : List Byte := (span o n).map (areaByte s e a)

/-! ### Tiles -/

/-- Bytes per tile and number of tiles of an area that holds tiles. -/
def Area.tiles : Area → Option (Nat × Nat)
  | .chan c => if c.type = 1 ∨ c.type = 2 then some (c.tileBytes, c.tiles) else none
  | .fixed h => if h = 0xFF000005 then none else some (if h = 0xFF000004 then 1024 else 512, 4096)
  | .mram h => if h = 0xFE000004 ∨ h = 0xFE000005 then some (512, 4096) else if h = 0xFE000006 then some (1024, 4096) else none
  | .dram => none

/-- R271, R361: the tile that a move reads; `later` picks the slot for a later frame of a SURFACE. -/
def areaTile (s : State) (a : Area) (i : Nat) (later : Bool) : Option TileRef :=
  match a with
  | .chan c =>
    if c.type = 1 then
      let v := sideState s (.surface c i 0)
      some (.surface c i ((v + (if later then bits v 1 1 else 0)) % 2))
    else if c.type = 2 then some (.capture c i) else none
  | .fixed h =>
    match h with
    | 0xFF000001 => some (composedFront s i)
    | 0xFF000002 => some (driveFront s i)
    | 0xFF000003 => some (.glaze i)
    | 0xFF000004 => some (.mirror i)
    | _ => none
  | _ => none

/-- The check word that stands with a tile of an area, where it has one. -/
def areaCheck (s : State) (a : Area) (i : Nat) (later : Bool) : Option Nat :=
  match areaTile s a i later, a with
  | some r, _ => some (tileCheck s r)
  | none, .mram 0xFE000004 => some (lanternCheck s 0 i)
  | none, .mram 0xFE000005 => some (lanternCheck s 1 i)
  | none, .mram 0xFE000006 => some (binCheck s i)
  | none, _ => none

/-! ### Writing -/

/-- The running engines whose data RAM a device write reaches: the engine, and in pair mode its partner too (R382). -/
def dramHolders (s : State) (e : Nat) : List Nat :=
  if (engOf s e).run = .running then (match partner s e with | some o => [e, o] | none => [e]) else [e]

/-- Bytes written into data RAM by the device; beyond its end nothing is written. -/
def dramWrite (e o : Nat) (b : List Byte) (s : State) : State :=
  (dramHolders s e).foldl (fun st k => setEng st k { engOf st k with dram := memWrite (engOf st k).dram o (b.take (65536 - o)) }) s

/-- A byte of the Ledger written. -/
def ledgerPut (s : State) (o : Nat) (b : Byte) : State :=
  let l := s.mram.ledger
  if o < 4096 then
    let v := s.reg Reg.dumpSummary
    s.setReg Reg.dumpSummary (v - s.regByte Reg.dumpSummary o * 256 ^ o + b.toNat * 256 ^ o)
  else if o < 69632 then
    let k := (o - 4096) / 8
    let v := mapGet (fun _ => 0) l.faults k
    { s with mram := { s.mram with ledger := { l with faults := mapPut (fun _ => 0) k (natLE (putBytes (bytesLE 8 v) (o % 8) [b])) l.faults } } }
  else
    let p := (o - 69632) / 32
    let old := (l.ring.lookup p).getD (List.replicate 32 0)
    { s with mram := { s.mram with ledger := { l with ring := ringPut p (putBytes old (o % 32) [b]) l.ring } } }

/-- R507: the next SEQ follows the newest entry of the ring. -/
def ledgerSeq (s : State) : State :=
  let l := s.mram.ledger
  let next := (ledgerEntries l).foldl (fun n b =>
    let q := (field b 16 4 + 1) % 4294967296
    if (q + 4294967296 - n) % 4294967296 < 2147483648 then q else n) l.next
  { s with mram := { s.mram with ledger := { l with next := next } } }

/-- R507: bytes written into the Ledger. -/
def ledgerWrite (s : State) (o : Nat) (b : List Byte) : State :=
  ledgerSeq ((b.zip (List.range b.length)).foldl (fun st p => ledgerPut st (o + p.2) p.1) s)

/-- Bytes written into a Lantern frame. -/
def lanternWrite (s : State) (f o : Nat) (b : List Byte) : State :=
  { s with mram := { s.mram with lantern := vset s.mram.lantern f (memWrite (vget s.mram.lantern [] f) o b) } }

/-- R283: the check word of a tile generated over its bytes as they stand. -/
def checkTile (s : State) (r : TileRef) : State := storeBytes s (r.side + 4 * r.slot) (bytesLE 4 (crc32c (tileData s r)))

/-- R283: the tile slots of a SURFACE or CAPTURE that a run of bytes touches. -/
def touchedTiles (c : Channel) (o n : Nat) : List TileRef :=
  let t := c.tileBytes
  if c.type = 1 then ((span (o / t) ((o + n + t - 1) / t - o / t)).filter (fun k => decide (k < 2 * c.tiles))).map (fun k => .surface c (k / 2) (k % 2))
  else if c.type = 2 then ((span (o / t) ((o + n + t - 1) / t - o / t)).filter (fun k => decide (k < c.tiles))).map (fun k => .capture c k)
  else []

/-- R103, R283: bytes written into the calibration mirror: the check words of the tiles touched, which become internal work. -/
def mirrorWrite (s : State) (o : Nat) (b : List Byte) : State :=
  -- `resv` of a calibration word (R7, R102)
  let kept := (b.zip (List.range b.length)).map (fun q => if (o + q.2) % 4 = 0 then q.1 &&& 0xFE else q.1)
  let s1 := storeBytes s (mirrorBase + o) kept
  let ts := (span (o / 1024) ((o + b.length + 1023) / 1024 - o / 1024)).filter (fun t => decide (t < 4096))
  markInternal (ts.foldl (fun st t => checkTile st (.mirror t)) s1) (tileSet ts)

/-- Bytes written into an area by a move. -/
def areaWrite (e : Nat) (a : Area) (o : Nat) (b : List Byte) (s : State) : State :=
  match a with
  | .dram => dramWrite e o b s
  | .chan c => (touchedTiles c o b.length).foldl checkTile (chanWrite s c o b)
  | .fixed h => if h = 0xFF000004 then mirrorWrite s o b else storeBytes s ((fixedRegion h).1 + o) b
  | .mram h =>
    match h with
    | 0xFE000004 => lanternWrite s 0 o b
    | 0xFE000005 => lanternWrite s 1 o b
    | _ => ledgerWrite s o b

/-- A tile written into an area by a move in TILE mode (R283, R284, R364); a Lantern frame takes the source's check word unchanged. -/
def areaPutTile (e : Nat) (a : Area) (i : Nat) (b : List Byte) (check : Option Nat) (s : State) : State :=
  match a with
  | .chan c =>
    if c.type = 1 then landLoose s c i b
    else if c.type = 2 then writeTile s (.capture c i) b (crc32c b)
    else areaWrite e a (i * b.length) b s
  | .mram h =>
    if h = 0xFE000004 ∨ h = 0xFE000005 then
      let f := h - 0xFE000004
      let s1 := lanternWrite s f (512 * i) b
      match check with
      | some v => lanternWrite s1 f (2097152 + 4 * i) (bytesLE 4 v)
      | none => s1
    else areaWrite e a (i * b.length) b s
  | _ => areaWrite e a (i * b.length) b s

end Sys2Proof.Machine
end

