-- ==== Sys2Proof/Machine/Transfers.lean ====
section
/-!
DEFINITION. What a block move does (R361 to R364): its bytes, its tiles with their checks, its tokens, and how far one gets that is cut short.
-/

namespace Sys2Proof.Machine

/-- R363: the bytes that a move may take from a source without check words: up to the 64-byte block that holds a poisoned word. -/
def soundBytes (s : State) (a : Area) (o n : Nat) : Nat :=
  if a.inStore && a.tiles.isNone then
    match (span o n).find? (areaPoisoned s a) with
    | some p => p - p % 64 - o
    | none => n
  else n

/-- What a move has done: its status, the tiles it has written whole, the bytes it has read of a tile or of the blocks beyond those written, and the
state after it. -/
structure MoveRun where
  status : Nat
  tiles : Nat
  read : Nat
  written : Nat
  state : State

/-- A byte move. -/
def moveBytes (e : Nat) (a b : Area) (so do_ n dst : Nat) (s : State) : MoveRun :=
  let k := soundBytes s a so n
  let bytes := areaBytes s e a so k
  ⟨if k = n then 0 else 7, 0, if k = n then k else k + 64, k, snoop (areaWrite e b do_ bytes s) 4 dst bytes⟩

/-- R364: a source tile verified under R285 with unit code 7: whether it may be used. -/
def verifySource (s : State) (a : Area) (i : Nat) (later : Bool) (again : List Nat) : Bool × State :=
  match areaTile s a i later, a with
  | some r, _ => verifyTile s 7 r again
  | none, .mram h =>
    if (h = 0xFE000004 ∧ !lanternTileOk s 0 i) ∨ (h = 0xFE000005 ∧ !lanternTileOk s 1 i) ∨ (h = 0xFE000006 ∧ !binSound s i) then (false, failTile s 7 (4 + h % 2) i 0)
    else (true, if a.tiles.isSome && again.contains (0x4000000 + (h % 16) * 0x1000 + i) then s.bump Reg.integRereadOk else s)
  | none, _ => (true, s)

/-- A source tile's bytes as a move reads them. -/
def sourceTile (s : State) (e : Nat) (a : Area) (i t : Nat) (later verified : Bool) : List Byte :=
  match areaTile s a i later with
  | some r => if verified then tileData s r else (span 0 t).map (fun k =>
      let p := r.base + k
      if s.store.poison.contains (p - p % 8) then 0 else loadByte s p)
  | none => areaBytes s e a (i * t) t

/-- R185, R363: whether a destination tile is owned by an open named set. -/
def ownedTile (s : State) (b : Area) (i : Nat) : Bool :=
  match b with
  | .chan c => decide (c.type = 1) && (let v := sideState s (.surface c i 0); bitAt v 3 && bits v 15 8 != 0)
  | _ => false

/-- R363: the bytes of a tile before the 64-byte block that holds a poisoned word, written where the move stops; no check word is generated and the
tile does not land. -/
def areaPutPart (e : Nat) (b : Area) (i t : Nat) (bytes : List Byte) (s : State) : State :=
  match b with
  | .chan c => if c.type = 1 then storeBytes s (TileRef.surface c i (1 - tileSel s (.surface c i 0))).base bytes else areaWrite e b (i * t) bytes s
  | _ => areaWrite e b (i * t) bytes s

/-- One tile of a move in TILE mode; a move that has stopped does nothing more. A poisoned word in a source without check words stops it before the
64-byte block that holds it (R363). -/
def moveTile (e : Nat) (a b : Area) (so do_ t dst : Nat) (later verify : Bool) (again : List Nat) (p : MoveRun) (k : Nat) : MoveRun :=
  if p.status ≠ 0 then p
  else
    let (usable, s1) := if verify then verifySource p.state a (so + k) later again else (true, p.state)
    let start := (so + k) * t
    let n := soundBytes s1 a start t
    if !usable then ⟨5 + 256 * (so + k), p.tiles, t, 0, s1⟩
    else if ownedTile s1 b (do_ + k) then ⟨6 + 256 * (do_ + k), p.tiles, 0, 0, s1⟩
    else if n < t then
      let data := areaBytes s1 e a start n
      ⟨7, p.tiles, n + 64, n, snoop (areaPutPart e b (do_ + k) t data s1) 4 dst data⟩
    else
      let data := sourceTile s1 e a (so + k) t later verify
      let check := areaCheck s1 a (so + k) later
      ⟨0, p.tiles + 1, 0, 0, snoop (areaPutTile e b (do_ + k) data check s1) 4 dst data⟩

/-- Bytes per tile of a move in TILE mode: those of the areas that hold tiles. -/
def moveTileSize (a b : Area) : Nat :=
  match b.tiles, a.tiles with
  | some (t, _), _ => t
  | none, some (t, _) => t
  | none, none => 512

/-- The C7 tokens of what a move has done: one for each 64-byte block of pixel store on either side, and one for each side record (R363). -/
def moveTokens (a b : Area) (t : Nat) (r : MoveRun) : Nat :=
  (if a.inStore then r.tiles * (ceilDiv t 64 + 1) + ceilDiv r.read 64 else 0) + (if b.inStore then r.tiles * (ceilDiv t 64 + 1) + ceilDiv r.written 64 else 0)

/-- R272: whether a move must wait: a tile of its destination has a flip still to come. -/
def moveWaits (s : State) (d : List Byte) : Bool :=
  match movingArea s (field d 8 4) with
  | some (.chan c) =>
    decide (c.type = 1) && bitAt (field d 20 1) 1 && (span (field d 12 4) (field d 16 4)).any (tileWaits s c)
  | _ => false

/-- A move performed, with its tokens. -/
def performMove (e : Nat) (m : Move) (o : TileObs) (s : State) : MoveRun × Nat :=
  let d := m.descriptor
  let len := field d 16 4
  let mode := field d 20 1
  if m.refused ≠ 0 then (⟨m.refused, 0, 0, 0, s⟩, 0)
  else match movingArea s (field d 0 4), movingArea s (field d 8 4) with
    | some a, some b =>
      let t := moveTileSize a b
      let s1 := eccFindAll s o.ecc
      let r := if bitAt mode 1 then
          (List.range len).foldl (moveTile e a b (field d 4 4) (field d 12 4) t (field d 8 4) (decide (field d 21 1 = 1)) (bitAt mode 2) o.transient) ⟨0, 0, 0, 0, s1⟩
        else moveBytes e a b (field d 4 4) (field d 12 4) len (field d 8 4) s1
      (r, moveTokens a b t r)
    | _, _ => (⟨2, 0, 0, 0, s⟩, 0)

/-- Whether a move reads or writes pixel store. -/
def moveInStore (s : State) (d : List Byte) : Bool :=
  [field d 0 4, field d 8 4].any (fun h => match movingArea s h with
    | some a => a.inStore
    | none => false)

/-- R363, R412, R465: a move into MRAM cut short after `n` words of 8 bytes, the check word of a tile among them. -/
def performCut (e : Nat) (m : Move) (n : Nat) (s : State) : State :=
  let d := m.descriptor
  let so := field d 4 4
  let do_ := field d 12 4
  let len := field d 16 4
  match movingArea s (field d 0 4), movingArea s (field d 8 4) with
  | some a, some b =>
    if bitAt (field d 20 1) 1 then
      let t := moveTileSize a b
      let later := decide (field d 21 1 = 1)
      let whole := Nat.min len (n / (t / 8 + 1))
      let p := (List.range whole).foldl (moveTile e a b so do_ t (field d 8 4) later (bitAt (field d 20 1) 2) []) ⟨0, 0, 0, 0, s⟩
      if p.status ≠ 0 ∨ len ≤ whole then p.state
      else areaPutPart e b (do_ + whole) t ((sourceTile p.state e a (so + whole) t later (bitAt (field d 20 1) 2)).take (8 * (n % (t / 8 + 1)))) p.state
    else areaWrite e b do_ (areaBytes s e a so (Nat.min (8 * n) (soundBytes s a so len))) s
  | _, _ => s

/-- R412, R465: the moves into MRAM that are cut short, as far as they got, before their engines halt. -/
def cutMoves (s : State) : State :=
  (List.range 9).foldl (fun st e => match (engOf st e).moves with
    | m :: _ => match m.cut with
      | some n => performCut e m n st
      | none => st
    | [] => st) s

end Sys2Proof.Machine
end

