-- ==== Sys2Proof/Machine/Power.lean ====
section
/-!
DEFINITION. The supervisor (R26 to R31, R462 to R488, R518): start-up and the loss of power, the saved entries at boot, the power domains,
the array halves and power requests, inputs, VCORE, XIN and VIO. The power-on side of the Hallmark record stands in Boot.lean.
-/

namespace Sys2Proof.Machine

/-! ### The saved set at boot (R311 to R313, R470) -/

/-- R313: the valid copy with the higher save count, with its number. -/
def bootCopy (s : State) : Option (Nat × SavedSet) :=
  match vget s.mram.saved none 0, vget s.mram.saved none 1 with
  | some a, some b => if a.count < b.count then some (1, b) else some (0, a)
  | some a, none => some (0, a)
  | none, some b => some (1, b)
  | none, none => none

/-- The values of a saved set in entries of one access class. -/
def savedOf (s : State) (c : Access) : NatMap := match bootCopy s with
  | some (_, x) => x.values.filter (fun p => match dictRow p.1 with | some r => r.access == c && r.persist == .saved | none => false)
  | none => []

/-- R83, R85: whether an RW value keeps to the frame period of a configuration. -/
def frameRule (get : Nat → Nat) (key v : Nat) : Bool :=
  let frame := get Reg.scanPeriodUs * get Reg.scanScansPerFrame
  if key = Reg.commitWindowUs then decide (2 * v ≤ frame)
  else if key = Reg.frameTeDelayUs then decide (v + get Reg.commitWindowUs + 50 ≤ frame)
  else true

/-- Whether a register value outlives a boot: what the device keeps by itself and, while AO stays powered, what it shows; `rc` says that the
RC entries are loaded anew too. -/
def outlivesBoot (rc : Bool) (p : Nat × Nat) : Bool := match dictRow p.1 with
  | some r => r.persist == .kept || r.access == .ro || (!rc && r.access == .rc && r.persist == .saved)
  | none => false

/-- The register file with saved RW values over the defaults, and RC values where they are taken now. -/
def withSaved (s : State) (rc : Bool) (rw rcv : NatMap) : State :=
  let s1 := { s with regs := s.regs.filter (outlivesBoot rc) }
  (rw ++ (if rc then rcv else [])).foldl (fun st p => st.setReg p.1 p.2) s1

/-- R313, R470: whether the saved RC values pass the rules of R77 with the saved RW values as the present ones. -/
def savedValid (s : State) : Bool :=
  let rw := savedOf s .rw
  let rc := savedOf s .rc
  let s1 := withSaved s true rw []
  let get (k : Nat) : Nat := overlay rc s1.reg k
  decide ((commitReason s1 rc [] get).1 = 0)

/-- R313: the entries that a boot loads, and `dict.persist_state`. -/
def loadEntries (s : State) (rc : Bool) : State :=
  match bootCopy s with
  | none => (withSaved s rc [] []).setReg Reg.dictPersistState 2
  | some (n, _) =>
    let rw := savedOf s .rw
    if savedValid s then (withSaved s rc rw (savedOf s .rc)).setReg Reg.dictPersistState n
    else
      -- judged under the default RC values, which the device is to use
      let dflt := withSaved s true [] []
      let ok := rw.filter (fun p => frameRule (overlay rw dflt.reg) p.1 p.2)
      (withSaved s rc ok []).setReg Reg.dictPersistState (n + 4)

/-- The persistent RC values that a boot takes, for every such entry that is listed or saved. -/
def bootRc (s : State) : NatMap :=
  let saved := if savedValid s then savedOf s .rc else []
  let isRc (k : Nat) : Bool := match dictRow k with | some r => r.access == .rc && r.persist == .saved | none => false
  let keys := ((s.regs.map (·.1)).filter isRc ++ saved.map (·.1)).eraseDups
  (keys.map (fun k => (k, overlay saved dictDefault k))).filter (fun p => p.2 != s.reg p.1)

/-! ### Domains (R471 to R474) -/

/-- R472: the domains that a domain needs, AO apart. -/
def domainNeeds : Nat → List Nat
  | 2 => [1] | 3 => [1] | 4 => [7] | 5 => [4, 7] | 6 => [4, 7] | _ => []

/-- R472: the domains that need a domain. -/
def domainUsers (d : Nat) : List Nat := [1, 2, 3, 4, 5, 6, 7].filter (fun k => (domainNeeds k).contains d)

/-- The engines halted: each as before it is loaded, a failed one still failed (R380); what the extension modules declared goes with them. -/
def haltEngines (s : State) : State :=
  { s with engines := Vector.ofFn (fun e =>
             { State.engineReset e.val with run := if (vget s.engines (State.engineReset 0) e.val).run = .failed then .failed else .idle }),
           pair := ⟨false, none, [], false⟩, takeover := none, modules := [],
           kdp := { s.kdp with sessions := s.kdp.sessions.map (fun x => { x with copies := [] }) }
           regs := s.regs.filter (fun p => p.1 < 0x500000 || 0x600000 ≤ p.1) }

/-- R338: the time left of a running unlock block, in seconds, as MRAM holds it. -/
def storeBlock (s : State) : State :=
  if s.kdp.blocked then s.setReg Reg.unlockBlockS (ceilDiv (s.kdp.blockEnd - s.now) 1000000000) else s

/-- R338: a block goes on from the time left that MRAM holds. -/
def resumeBlock (s : State) : State :=
  let left := s.reg Reg.unlockBlockS
  if left = 0 ∨ s.kdp.blocked then s else { s with kdp := { s.kdp with blocked := true, blockEnd := s.now + left * 1000000000 } }

/-- R412, R465: the MRAM operations in progress cut short. -/
def cutMram (s : State) : State := cutMoves (abandonMram s)

/-- R486: CTL removed: engines halted without a checkpoint, sessions, staged writes and transports lost; an operation on MRAM is cut short. -/
def dropCtl (s : State) : State :=
  let s1 := haltEngines (cutMram (storeBlock s))
  { s1 with kdp := State.reset.kdp, tolls := { s1.tolls with owed := s1.tolls.owed.map (fun o => { o with report := none }) } }

/-- R472, R486: CMP removed: pixel store, channels, queues and the frame in preparation are lost, and what stands on them. -/
def dropCmp (s : State) : State :=
  { s with
    store := { State.reset.store with remap := s.store.remap }
    chans := State.reset.chans
    queues := State.reset.queues
    commits := State.commitsReset
    -- R486: while the sequencer runs on, nothing is lit before the back latches are loaded anew
    pipe := { State.pipeReset with accFront := s.pipe.accFront, loadDirty := if s.scan.running then allTiles else 0 }
    lamp := { State.lampReset with enabled := s.lamp.enabled, twins := s.lamp.twins }
    cal := { s.cal with mirrorReady := false }
    dump := { State.reset.dump with due := none }
    tolls := { s.tolls with owed := [], part := [] }
    lanes := { s.lanes with readJob := none }
    regs := (mapPut dictDefault Reg.diagMapHandle 0 (mapPut dictDefault Reg.diagEvidenceHandle 0 s.regs)).filter (fun p =>
      match dictRow p.1 with | some r => !(r.access == .rc && r.persist == .no) | none => true) }

/-- ANA removed: sensors and converters start anew; what is failed, dropped or voted out stays so. -/
def dropAna (s : State) : State :=
  { s with
    therm := { s.therm with seen := 0, banded := 0, raw := Vector.replicate 32 none, deviating := Vector.replicate 32 0, differ := Vector.replicate 32 0,
                            prot := s.therm.prot.map (fun p => { p with vote := false, pairDiffers := 0, fieldDiffers := 0 }) }
    adc := { s.adc with groups := State.adcReset.groups, lastGrid := none, rotating := false, handover := false, calBegan := none, injState := 0, injLeft := 0,
                        convs := s.adc.convs.map (fun c => { c with queue := [], running := none }) }
    power := { s.power with dip := State.powerReset.dip, vbat := [], anticipating := false, vbatGood := none, lowNodes := 0, highNodes := 0, headroomLow := false } }

/-- A domain begins its drain (R472). -/
def enterDrain (s : State) (d : Nat) : State :=
  let s1 := setDomain s d { domainOf s d with state := 3 }
  match d with
  | 1 => dropCtl s1
  | 2 => lanesOff s1
  | 3 => dropCmp s1
  | 4 => { s1 with scan := { s1.scan with running := false } }
  | 7 => dropAna s1
  -- the bands of the fields being lit may change (R58, R119)
  | _ => retime s1

/-- R472: whether a domain may ramp: wanted, and every domain it needs ON and not about to drain. -/
def mayRamp (s : State) (d : Nat) : Bool :=
  let x := domainOf s d
  x.state == 0 && (x.want || x.queued) && (domainNeeds d).all (fun k => domainOn s k && (domainOf s k).want && !(domainOf s k).queued)

/-- R472: whether a domain may drain: no longer wanted or to be restarted, and every domain that needs it OFF. -/
def mayDrain (s : State) (d : Nat) : Bool :=
  let x := domainOf s d
  x.state == 2 && (!x.want || x.queued) && (domainUsers d).all (fun k => (domainOf s k).state == 0)

/-- R471 to R474: every ramp and drain that may begin now. -/
def settleDomains (s : State) : State :=
  let s1 := [2, 3, 5, 6, 4, 1, 7].foldl (fun st d => if mayDrain st d then enterDrain st d else st) s
  [1, 7, 4, 2, 3, 5, 6].foldl (fun st d =>
    if mayRamp st d then setDomain st d { domainOf st d with state := 1, want := true, queued := false } else st) s1

/-- R473: a power-up request; for a domain in DRAIN it is queued, with E10. -/
def powerUp (s : State) (d : Nat) : State :=
  let x := domainOf s d
  if x.state = 3 then raise 10 (bytesLE 1 d) (setDomain s d { x with want := true, queued := true })
  else setDomain s d { x with want := true }

/-- R473, R474: a power-down request; it also takes the place of a queued power-up. -/
def powerDown (s : State) (d : Nat) : State := setDomain s d { domainOf s d with want := false, queued := false }

/-- R486: a domain that is powered drains and ramps again. -/
def powerCycle (s : State) (d : Nat) : State :=
  let x := domainOf s d
  if x.state = 0 then setDomain s d { x with want := true } else setDomain s d { x with want := true, queued := true }

/-- R486, R470: the saved RC entries that differ from those in force become the commit of the next boundary. -/
def takeSavedRc (s : State) : State :=
  let v := bootRc s
  let s1 := { s with power := { s.power with restart := false } }
  if v.isEmpty then s1 else takeCommit s1 ⟨s1.commits.appliedTag, v, [], [], false⟩

/-- R146, R150, R153, R263: the two DIAG channels of the fault map and the evidence map, in slots 0 and 1, and with the stock fault policy the
restored faults. No Toll period charges their fill (log 53). -/
def createMaps (s : State) : State :=
  let diag (n : Nat) : List Byte := bytesLE 1 3 ++ bytesLE 7 0 ++ bytesLE 4 n
  let make (st : State) (key n : Nat) (fill : Byte) : State := match placeChannel st (diag n) fill none with
    | (_, some c, st1) => st1.setReg key c.handle
    | (_, none, st1) => st1
  let s1 := make (make s Reg.diagMapHandle 524288 0x11) Reg.diagEvidenceHandle 2228224 0
  if firmwareRuns s1 3 then restoreFaults s1 else s1

/-- What a domain that has reached ON begins with. -/
def domainStarts (s : State) (d : Nat) : State :=
  match d with
  | 1 =>
    let s := resumeBlock s
    { s with kdp := { s.kdp with dataId := s.reg Reg.kdpDataId,
                                 can := Vector.ofFn (fun c => canTakes s c.val { State.canReset with mode := s.reg (Reg.canMode c.val) }) } }
  | 2 => lanesOn s
  | 3 =>
    let s1 := createMaps { s with store := { s.store with scrubStart := s.now } }
    -- R486: without the Lantern beam the array goes dark
    let s2a := if s1.power.restart ∧ s1.lantern.state = 0 then { s1 with power := { s1.power with darkBack := 3 } } else s1
    let s2 := if s1.power.restart then takeSavedRc s2a else s2a
    if s2.reg Reg.compBackground ≠ 0 then { s2 with pipe := { s2.pipe with composeDirty := allTiles } } else s2
  | 4 => startWhenReady s
  | 7 => startWhenReady (startAna s)
  | _ =>
    -- R475: an array half lights from the first swap at which its tiles are loaded; under the Lantern beam they come from MRAM
    let half := halfTiles (2 ^ (d - 5))
    let s1 := retime (markInternal s half)
    if lanternLit s1 && !s1.lantern.release then
      { s1 with lantern := { s1.lantern with reload := s1.lantern.reload ++ (TileSet.toList half).map (fun t => (t, 2)) } }
    else s1

/-- DOMAIN_RAMP_DONE (R471): RAMP to ON, with E4; a power-down that waited follows (R474). -/
def execDomainRampDone (d : Fin 8) (s : State) : Host.Outcome State Fault Refusal :=
  if d.val ≠ 0 ∧ (domainOf s d).state = 1 then
    let s1 := setDomain s d { domainOf s d with state := 2 }
    let s2 := domainStarts (raise 4 (bytesLE 1 d ++ bytesLE 1 2) s1) d
    .next (settleDomains s2)
  else .next s

/-- The latches of a half cleared (R472) with its evidence (R149); a change of the bands being lit marks its tiles (R119). -/
def clearHalf (s : State) (h : Nat) : State :=
  let keep (m : NatMap) : NatMap := m.filter (fun e => !(e.1 / 2048 / 256 == h))
  retime (clearHalfEvidence h { s with latches := { s.latches with a := keep s.latches.a, b := keep s.latches.b } })

/-- DOMAIN_DRAIN_DONE (R471, R473): DRAIN to OFF, with E4; a queued ramp follows at once. -/
def execDomainDrainDone (d : Fin 8) (s : State) : Host.Outcome State Fault Refusal :=
  if d.val ≠ 0 ∧ (domainOf s d).state = 3 then
    let s1 := setDomain s d { domainOf s d with state := 0 }
    let s2 := if d.val = 5 ∨ d.val = 6 then clearHalf s1 (d.val - 5) else s1
    .next (settleDomains (raise 4 (bytesLE 1 d ++ bytesLE 1 0) s2))
  else .next s

/-! ### Loss of power (R465) -/

/-- The registers that the device keeps by itself. -/
def keptRegs (s : State) : NatMap := s.regs.filter (fun p => match dictRow p.1 with | some r => r.persist == .kept | none => false)

/-- R496: the elements out of service, which a start judges by the record of the shutdown BIST. -/
def keepElements (s t : State) : State :=
  { t.setReg Reg.engFailedMask (s.reg Reg.engFailedMask) with
    therm := { t.therm with votedOut := s.therm.votedOut, dropped := s.therm.dropped, picked := s.therm.picked
                            prot := Vector.ofFn (fun n => { State.protReset with failed := (vget s.therm.prot State.protReset n.val).failed }) }
    cal := { t.cal with refDropped := s.cal.refDropped, bgDropped := s.cal.bgDropped, termDropped := s.cal.termDropped }
    adc := { t.adc with spare := s.adc.spare, noSpare := s.adc.noSpare
                        slices := Vector.ofFn (fun n => { State.sliceReset with failed := (sliceOf s n.val).failed, halfDropped := (sliceOf s n.val).halfDropped })
                        convs := Vector.ofFn (fun k => { convOf t k.val with slice := (convOf s k.val).slice }) }
    engines := Vector.ofFn (fun e =>
      { State.engineReset e.val with run := if (vget s.engines (State.engineReset 0) e.val).run = .failed then .failed else .idle }) }

/-- R465: every domain without power; MRAM stays, with the operation in progress cut short at a word; VIO is a rail of its own (R518). -/
def powerLost (s : State) : State :=
  let s1 := storeBlock (cutMram (setDevice s 0))
  keepElements s1 { State.reset with
                     free := s1.free, pending := s1.pending, regs := keptRegs s1
                     power := { State.reset.power with vio := s.power.vio }
                     mram := { s1.mram with ledger := { s1.mram.ledger with lastEvent := [] } } }

/-- BROWN_OUT (R413, R465): VSUP below 2.00 V, or below 2.45 V for more than 50 µs; `journal` counts the steps of R412 done where the loss falls
among them. -/
def execBrownOut (journal : Nat) (s : State) : Host.Outcome State Fault Refusal :=
  if s.power.device = 0 then .next s else .next (powerLost (cutJournal journal s))

/-! ### VSUP (R464), XIN (R29 to R31), VIO (R518) -/

/-- E0 becomes active. -/
def supplyLow (s : State) (mv : Nat) : State :=
  if s.power.uvWarn then s
  else raise 0 (bytesLE 2 mv) (noteSupply { s with power := { s.power with uvWarn := true, vsupMv := mv } })

/-- VSUP_UV_WARN (R464): VSUP falls below 2.60 V. -/
def execVsupUvWarn (mv : Nat) (s : State) : Host.Outcome State Fault Refusal :=
  if s.power.device = 0 then .next s else .next (supplyLow s mv)

/-- VSUP_UV_WARN_CLEAR (R464): VSUP at 2.65 V or more again. -/
def execVsupUvWarnClear (mv : Nat) (s : State) : Host.Outcome State Fault Refusal :=
  if s.power.uvWarn then .next { s with power := { s.power with uvWarn := false, vsupMv := mv } } else .next s

/-- RIDE_THROUGH_START (R464): VSUP below 2.45 V, and so below the warning threshold too. -/
def execRideThroughStart (mv : Nat) (s : State) : Host.Outcome State Fault Refusal :=
  if s.power.device = 0 ∨ s.power.ride.isSome then .next s
  else
    let s1 := supplyLow s mv
    .next { s1 with power := { s1.power with ride := some (s1.now, mv), vsupMv := mv } }

/-- RIDE_THROUGH (R464): VSUP returns; `mv` is the lowest VSUP of the dip. E8 carries it with the duration in µs. -/
def execRideThrough (mv : Nat) (s : State) : Host.Outcome State Fault Refusal :=
  match s.power.ride with
  | some (t, low) =>
    let s1 := ({ s with power := { s.power with ride := none } }).bump Reg.pwrRideCount
    .next (raise 8 (bytesLE 2 (Nat.min low mv) ++ bytesLE 2 (Nat.min 65535 ((s.now - t) / 1000))) s1)
  | none => .next s

/-- XIN_LOSS (R29): the timebase goes on from the RC oscillator. -/
def execXinLoss (s : State) : Host.Outcome State Fault Refusal :=
  if s.power.device = 0 ∨ s.power.fallback then .next s
  else .next (raise 125 (bytesLE 1 1) { s with power := { s.power with xin := false, fallback := true } })

/-- XIN_RESTORED (R29): after 1 ms of stable edges the timebase trims against XIN again. -/
def execXinRestored (s : State) : Host.Outcome State Fault Refusal :=
  if s.power.device = 0 then .next s else .next { s with power := { s.power with xin := true, fallback := false } }

/-- VIO_LOSS (R518, R534): the VIO-level outputs are high-Z, the inputs read their pulls, so that TRST_N holds the TAP in Test-Logic-Reset; a
leader's pulse ends. -/
def execVioLoss (s : State) : Host.Outcome State Fault Refusal :=
  .next (tapReset { s with power := { s.power with vio := false }, scan := { s.scan with sync := { s.scan.sync with pin := false } } })

/-- VIO_RESTORED (R518): the CAN controllers have their bus again, and what waited goes out. -/
def execVioRestored (s : State) : Host.Outcome State Fault Refusal :=
  .next ([0, 1].foldl (fun st c => releaseAll (canDrain st c) c) { s with power := { s.power with vio := true } })

/-! ### Halves and requests (R475, R476) -/

/-- The statuses of R320 that a rule of a unit gives a write. -/
inductive Verdict where
  | ok | range | refused
  deriving DecidableEq, Repr

/-- R476: a `pwr.request` of 1 READY, 2 LIT or 3 SLEEP. In SHUTDOWN-BIST it is refused as in BOOT (DEDUCED, log 52). -/
def requestPower (s : State) (r : Nat) : Verdict × State :=
  let d := s.power.device
  if d ≠ 3 ∧ d ≠ 4 then (.refused, s)
  else if r = 2 ∧ s.flag Reg.bistLockout then (.refused, s)
  else if r + 2 = d then (.ok, { s with power := { s.power with request := none } })
  else (.ok, { s with power := { s.power with request := some r } })

/-- R475: what a changed `pwr.array_mask`, which the register file already holds, does to the halves. -/
def applyArrayMask (s : State) (old : Nat) : State :=
  if s.power.device < 2 ∨ 4 < s.power.device then s
  else
    settleDomains ([0, 1].foldl (fun st h =>
      let now := bitAt (st.reg Reg.pwrArrayMask) h
      if now == bitAt old h then st
      else if now then
        let st1 := { st with power := { st.power with drainAfter := setBit st.power.drainAfter h false } }
        if st1.therm.shutdown then st1 else powerUp st1 (5 + h)
      else if bitAt st.power.darkFront h && bitAt st.power.darkBack h && allSwapped st then powerDown st (5 + h)
      else if (domainOf st (5 + h)).state = 2 then { st with power := { st.power with drainAfter := setBit st.power.drainAfter h true } }
      else powerDown st (5 + h)) s)

/-- WAKE_OFF_TIMEOUT (R476): in WAKE mode, WAKE has been low for `pwr.wake_off_ms`. -/
def execWakeOffTimeout (s : State) : Host.Outcome State Fault Refusal :=
  match s.power.wakeLow with
  | some t =>
    if s.reg Reg.pwrStartMode = 1 ∧ (s.power.device = 3 ∨ s.power.device = 4) then
      let s1 := s.atLeast (t + s.reg Reg.pwrWakeOffMs * 1000000)
      .next (requestPower { s1 with power := { s1.power with wakeLow := none } } 3).2
    else .next s
  | none => .next s

/-- WAKE_FALL (R476, R485): WAKE is low, and no longer stuck. -/
def execWakeFall (s : State) : Host.Outcome State Fault Refusal :=
  if s.power.device = 0 then .next s
  else
    let s1 := setInput s 1 { inputOf s 1 with active := false, stuck := false }
    .next { s1 with power := { s1.power with wakeLow := some s1.now } }

/-! ### Inputs (R482, R484, R485) -/

/-- FLT_IN (R482): FLT_IN_N is held low. -/
def execFltIn (s : State) : Host.Outcome State Fault Refusal :=
  if s.power.device < 2 ∨ s.power.fltIn then .next s
  else
    let s1 := setInput s 2 { inputOf s 2 with active := true }
    .next (raise 3 [] (noteSupply { s1 with power := { s1.power with fltIn := true } }))

/-- FLT_IN_RELEASE (R482). -/
def execFltInRelease (s : State) : Host.Outcome State Fault Refusal :=
  let s1 := setInput s 2 { inputOf s 2 with active := false, stuck := false }
  .next { s1 with power := { s1.power with fltIn := false } }

/-- R515: an input the device looks at: none in OFF; in AO RESET_N and FLT_IN_N are ignored. -/
def inputServed (s : State) (n : Fin 4) : Bool := decide (2 ≤ s.power.device) || (s.power.device == 1 && n != 0 && n != 2)

/-- INPUT_STUCK (R485): an input has stayed active beyond its timeout. -/
def execInputStuck (n : Fin 4) (s : State) : Host.Outcome State Fault Refusal :=
  if !inputServed s n ∨ (inputOf s n).stuck then .next s
  else .next (raise 6 (bytesLE 1 n) (setInput s n { inputOf s n with stuck := true }))

/-- `pwr.input_stuck`. -/
def inputStuckByte (s : State) : Nat := ((List.range 4).map (fun n => b2n (inputOf s n).stuck * 2 ^ n)).sum

/-- INPUT_PULSE_IGNORED (R484, R485): a pulse shorter than the filter is counted; more than 16 in 10 ms raise E7, at most once in 100 ms. -/
def execInputPulseIgnored (n : Fin 4) (s : State) : Host.Outcome State Fault Refusal :=
  if !inputServed s n then .next s
  else
    let s1 := s.bump (Reg.pwrInputChatter n)
    let x := inputOf s1 n
    let recent := (x.recent.filter (fun t => decide (s.now < t + 10000000))) ++ [s.now]
    let quiet : Bool := match x.lastChatter with
      | some t => decide (t + 100000000 ≤ s.now)
      | none => true
    if 16 < recent.length ∧ quiet then
      .next (raise 7 (bytesLE 1 n ++ bytesLE 2 recent.length) (setInput s1 n { x with recent := recent, lastChatter := some s.now }))
    else .next (setInput s1 n { x with recent := recent })

/-! ### VCORE (R487) -/

/-- VCORE_ADJUST (R487): after 16 Toll periods; during a ride-through VCORE is held. -/
def execVcoreAdjust (s : State) : Host.Outcome State Fault Refusal :=
  if s.power.tollPeriods < 16 then .next s
  else
    let p := s.power
    let slack := s.reg Reg.tollSlack
    let target := s.reg Reg.pwrVcoreSlack
    let mv := if p.ride.isSome then p.vcoreMv
      else if target + 8 < slack then Nat.max 650 (p.vcoreMv - 5)
      else if slack < target then Nat.min 900 (p.vcoreMv + 10)
      else p.vcoreMv
    -- at 0.90 V since the comparison before, with the slack below the target
    let limit := p.vcoreTop == 1 && p.vcoreMv == 900 && decide (slack < target)
    let s1 := { s with power := { p with tollPeriods := 0, vcoreMv := mv, vcoreTop := b2n (mv == 900), vcoreLimit := limit } }
    if limit && !p.vcoreLimit then .next (raise 5 (bytesLE 2 mv) s1) else .next s1

/-- `pwr.status`. -/
def pwrStatus (s : State) : Nat :=
  let p := s.power
  b2n p.vcoreLimit + 2 * b2n p.ride.isSome + 4 * b2n p.anticipating + 8 * b2n p.fltIn + 16 * b2n p.hdrmLimit + 32 * b2n p.warm + 64 * b2n p.coldBist

/-- `pwr.domain_state` as a number of its 8 bytes. -/
def domainStateWord (s : State) : Nat :=
  natLE ((List.range 8).map (fun d => let x := domainOf s d; if d = 0 then (0 : Byte) else BitVec.ofNat 8 (x.state + 128 * b2n (x.queued && x.state == 3))))

end Sys2Proof.Machine
end

