-- ==== Sys2Proof/Machine/Boot.lean ====
section
/-!
DEFINITION. Self-test and start (R413, R464, R466 to R470, R484, R486, R489 to R498): the shutdown BIST with its signature and the Hallmark
record, the start from power-up, from a wake and from RESET_N, the BIST at start and the end of boot.
-/

namespace Sys2Proof.Machine

/-! ### The signature (R491) -/

/-- R491: `crc32c_update`: bytes into the running CRC-32C register, without initial value or output XOR. -/
def crc32cUpdate (sig : Nat) (b : List Byte) : Nat :=
  reflectBits 32 (crcRun (crcAlg 1) (reflectBits 32 sig) b)

/-- R491: the marker that the seal folds in. -/
def sealMarker : List Byte := [0x48, 0x4C, 0x4D, 0x4B]

/-- R491: the signature of steps 1 to `n`, all with v = 0. -/
def passSignature : Nat → Nat
  | 0 => 0xFFFFFFFF
  | n + 1 => crc32cUpdate (passSignature n) (bytesLE 2 (n + 1) ++ [0])

/-- R491: `bist.expected`: 686 steps, all with v = 0, and the marker. -/
def expectedSignature : Nat := crc32cUpdate (passSignature 686) (bytesLE 2 686 ++ sealMarker)

/-! ### The Hallmark record (R493, R494) -/

/-- R489: the block of a step. -/
def stepBlock (k : Nat) : Nat :=
  if k ≤ 1 then 0 else if k ≤ 33 then 1 else if k ≤ 65 then 2 else if k ≤ 85 then 3 else if k ≤ 88 then 4 else if k ≤ 120 then 5
  else if k ≤ 124 then 6 else if k ≤ 132 then 7 else if k ≤ 164 then 8 else if k ≤ 173 then 9 else if k ≤ 685 then 10 else 11

/-- The last step of a block. -/
def blockEnd (b : Nat) : Nat := [1, 33, 65, 85, 88, 120, 124, 132, 164, 173, 685, 686].getD b 686

/-- R493: the 512 bytes of a record. -/
def hallmarkBytes (r : Hallmark) : List Byte :=
  let head := [0x4B, 0x48, 0x4C, 0x4D] ++ bytesLE 1 r.state ++ bytesLE 1 0 ++ bytesLE 2 r.stepsDone
  let body := bytesLE 4 r.signature ++ bytesLE 2 r.firstFail ++ bytesLE 2 r.covered ++ bytesLE 4 r.startSeq ++ bytesLE 4 r.opsec ++ bytesLE 2 r.engPass ++
    bytesLE 1 r.slicePass ++ bytesLE 1 r.tpPass ++ bytesLE 4 r.tfPass ++ bytesLE 8 r.refPass ++ bytesLE 1 r.bgPass ++ bytesLE 1 r.termPass ++
    bytesLE 2 r.remap.length
  let map := slice (r.remap.flatMap (bytesLE 4)) 0 464
  if r.valid then head ++ body ++ bytesLE 4 (crc32c (body ++ map)) ++ map
  else if r.written then head ++ List.replicate 504 0 else List.replicate 512 0

/-- R493: an entry of REMAP: bank, row and spare row. Rows of a bank count its pages in order, two to a page; spare rows are used in
order (DESIGN CHOICE, log 54). -/
def remapEntry (r : Nat × Nat) : Nat := rowBank r.1 * 32768 + (r.1 / 64 * 2 + r.1 % 2) * 32 + r.2 % 32

/-- The row and spare row that an entry of REMAP names. -/
def remapRow (e : Nat) : Nat × Nat :=
  let n := bits e 14 5
  ((n / 2) * 64 + bits e 19 15 * 2 + n % 2, e % 32)

/-- R490: the PASS bits of one step put into the record. -/
def takePass (r : Hallmark) (k passed : Nat) : Hallmark :=
  let ok := bitAt passed 0
  match stepBlock k with
  | 2 => { r with refPass := setBit (setBit r.refPass (2 * (k - 34)) ok) (2 * (k - 34) + 1) (bitAt passed 1) }
  | 3 =>
    let n := (k - 66) / 4
    { r with slicePass := setBit r.slicePass n (ok && ((k - 66) % 4 == 0 || bitAt r.slicePass n)) }
  | 6 => { r with tpPass := setBit r.tpPass (k - 121) ok }
  | 7 =>
    let l := (k - 125) / 2
    if (k - 125) % 2 = 0 then { r with termPass := setBit (setBit r.termPass (2 * l) ok) (2 * l + 1) (bitAt passed 1) } else r
  | 9 => { r with engPass := setBit r.engPass (k - 165) ok }
  | _ => r

/-! ### The verdicts (R489, R490) -/

/-- How many bits of a mask of `n` are set. -/
def setBits (n m : Nat) : Nat := (List.range n).countP (bitAt m)

/-- B1: the place of a sink in the order of its field (R447's cursor order). -/
def sinkPlace (k : Nat) : Nat := (k / 512 % 32) * 64 + k % 64

/-- B4: the cores that agree with another one within 6 LSB. -/
def agreeing (codes : List Int) : List Nat :=
  let code (i : Nat) : Int := codes.getD i 0
  [0, 1, 2].filter (fun i => [0, 1, 2].any (fun j => i != j && decide ((code i - code j).natAbs ≤ 6)))

/-- R441: whether every one of the 16 Lantern tiles of a step of B10 passes its check. -/
def lanternStepOk (s : State) (k : Nat) : Bool :=
  (List.range 16).all (fun i => let n := 16 * (k - 174) + i; lanternTileOk s (n / 4096) (n % 4096))

/-- R489, R490: one step's part of what its block finds: whether an element failed, whether the FAIL condition of its block is met, and what has been found
with it. A step fails where one of its own elements fails with the condition met (DEDUCED, log 55). -/
def judgeStep (s : State) (r : BistFound) (k : Nat) (o : StepObs) : Bool × Bool × BistFound :=
  let e0 := bitAt o.passed 0
  let e1 := bitAt o.passed 1
  match stepBlock k with
  | 1 =>
    let found := (o.weak.filter (fun x => decide (x < 65536) && sinkPlace x / 64 == k - 2)).eraseDups
    let w : Vector Nat 32 := Vector.ofFn (fun f => vget r.weak 0 f.val + found.countP (fun x => sinkField x == f.val))
    (!found.isEmpty, found.any (fun x => decide (s.reg Reg.diagTwinMax < vget w 0 (sinkField x))), { r with weak := w })
  | 2 => (!e0 || !e1, !e0 && !e1, r)
  | 3 =>
    let m := if e0 then r.slices else setBit r.slices ((k - 66) / 4) true
    (!e0, decide (2 ≤ setBits 5 m), { r with slices := m })
  | 4 =>
    let c := r.codes ++ [o.code]
    (k == 88 && decide ((agreeing c).length < 3), k == 88 && (agreeing c).isEmpty, { r with codes := c })
  | 5 =>
    let n := r.sensors + b2n (!e0 && !e1)
    (!e0 || !e1, !e0 && !e1 && decide (8 < n), { r with sensors := n })
  | 6 => (!e0, decide (2 ≤ r.prots + b2n (!e0)), { r with prots := r.prots + b2n (!e0) })
  | 7 =>
    let first := (k - 125) % 2 == 0
    let bad := if first then !e0 && !e1 else !e0
    let m := if bad then setBit r.lanes ((k - 125) / 2) true else r.lanes
    (if first then !e0 || !e1 else !e0, bad && setBits 4 m == 4, { r with lanes := m })
  | 8 => (!e0, decide (32 ≤ sparesUsed s (k - 133)), r)
  | 9 => (!e0, decide (2 ≤ r.engines + b2n (!e0)), { r with engines := r.engines + b2n (!e0) })
  | 10 => (!e0 || !lanternStepOk s k, false, r)
  | _ => (false, false, r)

/-- R490: the verdict of a step: v, COVERED, and what has been found. -/
def stepVerdict (s : State) (r : BistFound) (k : Nat) (o : StepObs) : Bool × Bool × BistFound :=
  let (failed, cond, r1) := judgeStep s r k o
  (failed && cond, failed && !cond, r1)

/-- R490, R493: the PASS bits of the step, those of the bandgap cores with the last of them. -/
def takePasses (r : Hallmark) (f : BistFound) (k : Nat) (o : StepObs) : Hallmark :=
  if k = 88 then { r with bgPass := ((agreeing f.codes).map (fun i => 2 ^ i)).sum }
  else if stepBlock k = 5 then { r with tfPass := setBit r.tfPass (k - 89) (bitAt o.passed 0 && bitAt o.passed 1) }
  else takePass r k o.passed

/-! ### The start (R413, R468, R469, R496) -/

/-- R413: the journal examined: a committed record reaches the Ledger once, an uncommitted one as type 0x23. -/
def recoverJournal (s : State) : State :=
  let j := s.mram.journal
  if !j.isOpen then s
  else
    let known := (ledgerEntries s.mram.ledger).any (fun e => (field e 0 1 == 0x20 || field e 0 1 == 0x23) && field e 24 4 == j.seq)
    let lost := bytesLE 1 0x23 ++ bytesLE 1 0xFF ++ bytesLE 8 0 ++ bytesLE 1 0xFF ++ bytesLE 1 0 ++ bytesLE 4 (opsec s)
    let record := if j.committed then j.record else lost
    let s1 := if j.committed && known then s else ledgerAppend s record j.seq
    raise 126 (slice record 0 1)
      { s1 with mram := { s1.mram with journal := { j with isOpen := false } }, therm := { s1.therm with journalRecovered := true } }

/-- A set bit of a number cleared where a mask has it, with the number of bits cleared. -/
def clearMask (w v mask : Nat) : Nat × Nat :=
  ((List.range w).foldl (fun a i => if bitAt mask i then setBit a i false else a) v,
   (List.range w).countP (fun i => bitAt v i && bitAt mask i))

/-- R453 group 1: the element of each field sensor picked at a start: element 0, unless it is dropped. -/
def pickElements (dropped : BitVec 64) : FieldSet :=
  (List.range 32).foldl (fun b f => bvPut b f (dropped.getLsbD (2 * f) && !dropped.getLsbD (2 * f + 1))) 0

/-- R380, R401, R437, R455, R496: elements that a shutdown BIST found sound return to service; their number. -/
def returnElements (s : State) (r : Hallmark) : State :=
  let (eng, n0) := clearMask 9 (s.reg Reg.engFailedMask) r.engPass
  let both (m : Nat) : Nat := ((List.range 32).map (fun f => if bitAt m f then 3 * 4 ^ f else 0)).sum
  let (tf, n1) := clearMask 32 s.therm.votedOut.toNat r.tfPass
  let (el, n2) := clearMask 64 s.therm.dropped.toNat (both r.tfPass)
  let (rf, n3) := clearMask 64 s.cal.refDropped.toNat r.refPass
  let (bg, n4) := clearMask 3 s.cal.bgDropped r.bgPass
  let (tm, n5) := clearMask 8 s.cal.termDropped r.termPass
  let slices := (List.range 5).filter (fun n => (sliceOf s n).failed && bitAt r.slicePass n)
  let prots := (List.range 4).filter (fun n => (protOf s n).failed && bitAt r.tpPass n)
  let s1 := s.setReg Reg.engFailedMask (eng % 4096 + 0xF000)
  let s2 := { s1 with
    engines := Vector.ofFn (fun e =>
      let x := vget s1.engines (State.engineReset 0) e.val
      if x.run = .failed ∧ bitAt r.engPass e.val then State.engineReset e.val else x)
    therm := { s1.therm with votedOut := BitVec.ofNat 32 tf, dropped := BitVec.ofNat 64 el, picked := pickElements (BitVec.ofNat 64 el)
                             prot := Vector.ofFn (fun n => { protOf s1 n.val with failed := (protOf s1 n.val).failed && !prots.contains n.val }) }
    cal := { s1.cal with refDropped := BitVec.ofNat 64 rf, bgDropped := bg, termDropped := tm, degraded := s1.cal.degraded && bg != 0 }
    adc := { s1.adc with slices := Vector.ofFn (fun n =>
               if slices.contains n.val then { State.sliceReset with offset := (sliceOf s1 n.val).offset, gain := (sliceOf s1 n.val).gain }
               else if bitAt r.slicePass n.val then { sliceOf s1 n.val with halfDropped := 0 } else sliceOf s1 n.val) } }
  -- a slice that returns serves a converter without one, or becomes the spare
  let s3 := slices.foldl (fun st n =>
    match (List.range 4).find? (fun k => (convOf st k).slice.isNone) with
    | some k => setConv st k { convOf st k with slice := some n }
    | none => if st.adc.spare.isNone then { st with adc := { st.adc with spare := some n, noSpare := false } } else st) s2
  { s3 with bist := { s3.bist with returned := n0 + n1 + n2 + n3 + n4 + n5 + slices.length + prots.length } }

/-- Record type 0x30 (R506): the outcome of a run. -/
def bistRecord (s : State) (code : Nat) (r : Hallmark) : State :=
  ledgerAppend s (bytesLE 1 0x30 ++ bytesLE 1 code ++ bytesLE 2 r.stepsDone ++ bytesLE 2 r.firstFail ++ bytesLE 2 r.covered ++ bytesLE 4 r.signature ++
    bytesLE 4 (opsec s)) 0

/-- R469, R494, R496: the record read at a start and marked used; warm or cold, the blocks to run, and what becomes of elements and rows.
Elements return after a complete run only (DEDUCED, log 55). -/
def readHallmark (s : State) : State :=
  let r := s.mram.hallmark
  let done := r.valid && r.state == 2
  let warm := done && r.signature == expectedSignature
  let all := (List.range 12).drop 1
  let blocks := if warm then [] else if r.valid && r.state == 3 then all.filter (fun b => decide (r.stepsDone < blockEnd b)) else all
  let code := if warm then (if r.covered = 0 then 0 else 1) else if done then 2 else if r.valid && r.state == 3 then 4 else 3
  let s0 := s.bump Reg.bistStartCount
  let s1 := { s0 with
    mram := { s0.mram with hallmark := { r with state := 0, written := true }, startedBefore := true }
    bist := { s0.bist with asRead := r, startBlocks := blocks, last := code, returned := 0 }
    power := { s0.power with warm := warm, coldBist := !warm }
    therm := { s0.therm with picked := pickElements s0.therm.dropped } }
  let s2 := if r.valid then
      let rows := r.remap.map remapRow
      { s1 with store := { s1.store with remap := rows ++ s1.store.remap.filter (fun x => (rows.lookup x.1).isNone) } }
    else s1
  let s3 := if done then returnElements s2 r else s2
  let s4 := s3.setReg Reg.bistFirstFail (if r.valid then r.firstFail else 0xFFFF)
  if warm then bistRecord s4 code r
  else if done then bistRecord (raise 122 (bytesLE 2 r.firstFail) s4) code r
  else if !s.mram.startedBefore then s4
  else bistRecord (raise 123 (bytesLE 2 r.stepsDone) s4) code r

/-- R466, R468, R475: the domains of BOOT requested; the array domains by `pwr.array_mask`, and not at all while the shutdown latch is
set (R411). -/
def bootDomains (s : State) (cycle : List Nat) : State :=
  let mask := if s.therm.shutdown then 0 else s.reg Reg.pwrArrayMask
  let s1 := cycle.foldl powerCycle s
  let want := [1, 2, 3, 4, 7] ++ (if bitAt mask 0 then [5] else []) ++ (if bitAt mask 1 then [6] else [])
  settleDomains (want.foldl (fun st d => let x := domainOf st d; if x.want && x.state != 3 then st else if x.queued then st else powerUp st d) s1)

/-- R26, R468, R486: the start-up Lantern beam, where its frame is valid. -/
def startLantern (s : State) : State :=
  let s1 := { s with lantern := State.reset.lantern }
  if lanternStarts s1 then lightLantern s1 0 else s1

/-- R461: a start takes an import: the state is idle again, or INCOMPLETE where its writes were cut short. -/
def takeImport (s : State) : State :=
  { s with mram := { s.mram with importTorn := false }, cal := { s.cal with imp := ⟨if s.mram.importTorn then 4 else 0, 0, [], none, 0⟩ } }

/-- R468 from step 2 on: the device enters BOOT from AO or from SHUTDOWN-BIST; every domain that still drains ramps anew. -/
def enterBoot (s : State) : State :=
  let s1 := setDevice s 2
  let s2 := loadEntries { s1 with bist := { s1.bist with window := false, running := false, aborted := false, step := 0 },
                                  power := { s1.power with tStart := s1.now, request := none, darkBack := 3, darkFront := 3, drainAfter := 0, light := 0,
                                                           restart := false, litSeen := false, vledEarly := false,
                                                           wakeLow := if (inputOf s1 1).active then none else some s1.now }
                                  host := State.reset.host } true
  let s3 := takeImport { resumeBlock s2 with power := { s2.power with vT := s2.reg Reg.pwrVledBootMv } }
  startLantern (bootDomains (loadTrim (takeRecords (readHallmark s3))) ((List.range 8).filter (fun d => d != 0 && domainOn s3 d)))

/-- R380, R401, R437, R455, R496: a power-up puts the elements out of service back into it, unless a completed shutdown BIST has judged them. -/
def freshElements (s : State) : State :=
  if s.mram.hallmark.valid && s.mram.hallmark.state == 2 then s
  else keepElements State.reset s

/-- VSUP_VALID (R29 to R31, R413, R464, R467, R468): tV. With TEST_EN high the device stays in AO (R516). -/
def execVsupValid (p : StartObs) (s : State) : Host.Outcome State Fault Refusal :=
  if s.power.device ≠ 0 then .next s
  else
    let s1 := setDevice { s with power := { s.power with tStart := s.now, vsupMv := p.mv, testEn := p.testEn, xin := p.xin, fallback := !p.xin,
                                                         wakeLow := some s.now } } 1
    let s2 := recoverJournal (loadEntries (freshElements s1) true)
    let s3 := if p.xin then s2 else raise 125 (bytesLE 1 0) s2
    let s4 := { s3 with power := { s3.power with vT := s3.reg Reg.pwrVledBootMv } }
    .next (if p.testEn || s4.reg Reg.pwrStartMode != 0 then s4 else enterBoot s4)

/-- R467, R495: a wake in AO starts the device; in SHUTDOWN-BIST it asks for the abort. -/
def wake (s : State) : State :=
  if s.power.testEn then s
  else if s.power.device = 1 then enterBoot s
  else if s.power.device = 5 then { s with bist := { s.bist with aborted := true } }
  else s

/-- WAKE_RISE (R467, R484, R495). A stuck WAKE has been low before it rises again. -/
def execWakeRise (s : State) : Host.Outcome State Fault Refusal :=
  if s.power.device = 0 then .next s
  else
    let s1 := setInput s 1 { inputOf s 1 with active := true, stuck := false }
    .next (wake { s1 with power := { s1.power with wakeLow := none } })

/-- CAN_WAKE (R467, R495): a wake-up pattern, while `pwr.can_wake` enables the detector. -/
def execCanWake (s : State) : Host.Outcome State Fault Refusal :=
  if s.flag Reg.pwrCanWake then .next (wake s) else .next s

/-- RESET_N_PULSE (R467, R486, R495): the control plane restarts while the latches stay lit; a restart is a cold start (R469). -/
def execResetNPulse (s : State) : Host.Outcome State Fault Refusal :=
  let s0 := setInput s 0 { inputOf s 0 with stuck := false }
  if s.power.device = 5 then .next (wake s0)
  else if 2 ≤ s.power.device ∧ s.power.device ≤ 4 then
    let s1 := setDevice s0 2
    let s2 := { s1 with power := { s1.power with tStart := s1.now, request := none, restart := true, vledEarly := false },
                        host := State.reset.host }
    let s3 := readHallmark { s2 with mram := { s2.mram with hallmark := { s2.mram.hallmark with state := 0 } } }
    let s4 := loadEntries (takeRecords (bootDomains (takeImport (resumeBlock (dropCtl s3))) [1, 2, 3])) false
    .next (startLantern (if domainOn s4 7 then startGroups s4 else s4))
  else .next s0

/-- R489, R490, R497: the first step with v = 1 of a start BIST of some blocks, and whether a block was covered. B10 counts the tile checks of the Lantern
load. -/
def startVerdict (s : State) (blocks : List Nat) (o : StartBistObs) : Option Nat × Bool :=
  let mine := o.steps.filter (fun p => stepBlock p.1 != 10 && blocks.contains (stepBlock p.1))
  let run := mine.foldl (fun (a : Option Nat × Bool × BistFound) p =>
    let (v, c, f) := stepVerdict s a.2.2 p.1 p.2
    (if v && a.1.isNone then some p.1 else a.1, a.2.1 || c, f)) (none, false, State.foundReset)
  (run.1, run.2.1 || (blocks.contains 10 && s.lantern.badTiles != 0))

/-- START_BIST_DONE (R497, R498): the blocks that the start BIST ran give the verdict, which decides the lockout. -/
def execStartBistDone (v : StartBistObs) (s : State) : Host.Outcome State Fault Refusal :=
  if s.power.device = 2 ∧ !s.bist.startBlocks.isEmpty then
    let (fail, covered) := startVerdict s s.bist.startBlocks v
    let s1 := { s with bist := { s.bist with startBlocks := [], runMs := (s.now - s.power.tStart) / 1000000,
                                             last := if fail.isSome then 2 else b2n covered } }
    match fail with
    | some k =>
      let s2 := raise 122 (bytesLE 2 k) ((s1.setReg Reg.bistLockout 1).setReg Reg.bistFirstFail k)
      if s2.reg Reg.lanternOnBistFail = 0 then
        .next (if s2.lantern.state = 1 then { s2 with lantern := State.reset.lantern } else s2)
      else .next (lightLantern s2 0)
    | none => .next ((s1.setReg Reg.bistLockout 0).setReg Reg.bistFirstFail 0xFFFF)
  else .next s

/-- BOOT_END (R467, R468 step 8, R499): once the start BIST is complete, LIT with the Lantern beam lit, else READY. -/
def execBootEnd (s : State) : Host.Outcome State Fault Refusal :=
  if s.power.device = 2 ∧ s.bist.startBlocks.isEmpty then
    let s1 := { s with host := { s.host with since := some s.now, raised := false, feedMissed := 0 } }
    .next (if lanternLit s1 then enterLit s1 else enterReady s1)
  else .next s

/-! ### SHUTDOWN-BIST (R489 to R495) -/

/-- SHUTDOWN_BIST (R489): on entry, the stock firmware has 20 ms to write the trim map. -/
def execShutdownBist (s : State) : Host.Outcome State Fault Refusal :=
  if s.power.device = 5 ∧ !s.bist.window ∧ !s.bist.running then
    let s0 := storeBlock s
    let s1 := if firmwareRuns s0 3 && s0.cal.trimChanged then saveTrim s0 else s0
    .next { s1 with bist := { s1.bist with window := true } }
  else .next s

/-- BIST_FIRMWARE_WINDOW_END (R489): the sequencer halts every engine and begins; the array is dark and the scan sequencer rests. -/
def execBistFirmwareWindowEnd (s : State) : Host.Outcome State Fault Refusal :=
  if s.power.device = 5 ∧ s.bist.window then
    let s1 := haltEngines ((cutMram s).atLeast (s.bist.entered + 20000000))
    .next { s1 with scan := { s1.scan with running := false },
                    bist := { s1.bist with window := false, running := true, step := 0, sig := 0xFFFFFFFF, record := State.hallmarkReset,
                                           found := State.foundReset } }
  else .next s

/-- SHUTDOWN-BIST to AO: every domain is drained. -/
def enterAo (s : State) : State :=
  let s1 := setDevice s 1
  settleDomains ([1, 2, 3, 4, 5, 6, 7].foldl powerDown
    { s1 with bist := { s1.bist with window := false, running := false, aborted := false },
              lantern := State.reset.lantern, scan := { s1.scan with teOut := false },
              power := { s1.power with light := 0, vT := s1.reg Reg.pwrVledBootMv, loadstep := false } })

/-- R492, R495: the run ends at a step boundary: STATE ABORTED with STEPS_DONE; BOOT when a start is pending, else AO. -/
def abortBist (s : State) : State :=
  let s1 := { s with mram := { s.mram with hallmark := { s.mram.hallmark with written := true, state := 3, stepsDone := s.bist.step } },
                     bist := { s.bist with runMs := (s.now - s.bist.entered) / 1000000, last := 4 } }
  if s1.bist.aborted then enterBoot s1 else enterAo s1

/-- BIST_ABORT (R495): the abort that a wake or a reset asked for, at the next step boundary. -/
def execBistAbort (s : State) : Host.Outcome State Fault Refusal :=
  if s.power.device = 5 ∧ s.bist.aborted then .next (abortBist s) else .next s

/-- R493, R494: the seal: every other field, then the word with STATE COMPLETE. -/
def sealRecord (s : State) : State :=
  let r := s.bist.record
  let sig := crc32cUpdate s.bist.sig (bytesLE 2 s.bist.step ++ sealMarker)
  let sealed : Hallmark := { r with valid := true, written := true, state := 2, stepsDone := s.bist.step, signature := sig, startSeq := s.reg Reg.bistStartCount,
                                    opsec := opsec s, remap := (s.store.remap.map remapEntry).take 116 }
  let pass := r.firstFail == 0xFFFF
  { s with mram := { s.mram with hallmark := sealed },
           bist := { s.bist with runMs := (s.now - s.bist.entered) / 1000000, last := if !pass then 2 else if r.covered = 0 then 0 else 1 } }

/-- HALLMARK_STEP_DONE (R489 to R494): one step of the shutdown BIST is complete: its verdict enters the signature and the record. -/
def execHallmarkStepDone (v : StepObs) (s : State) : Host.Outcome State Fault Refusal :=
  if s.power.device = 5 ∧ s.bist.running then
    let k := s.bist.step + 1
    let blk := stepBlock k
    if v.vledLow ∧ (blk = 1 ∨ blk = 2) then .next (abortBist s)
    else
      let b := s.bist
      let (fail, covered, found) := stepVerdict s b.found k v
      let r0 := takePasses b.record found k v
      let r1 := { r0 with firstFail := if fail && r0.firstFail == 0xFFFF then k else r0.firstFail,
                          covered := if covered then setBit r0.covered blk true else r0.covered }
      let h := { s.mram.hallmark with written := true, state := 1, stepsDone := k }
      let s1 := { s with bist := { b with step := k, found := found, sig := crc32cUpdate b.sig (bytesLE 2 k ++ [BitVec.ofNat 8 (b2n fail)]), record := r1 },
                         mram := { s.mram with hallmark := h } }
      if k = 686 then
        let s2 := sealRecord s1
        let s3 := s2.setReg Reg.bistFirstFail r1.firstFail
        .next (if s3.bist.aborted then enterBoot s3 else enterAo s3)
      else if s1.bist.aborted then .next (abortBist s1)
      else .next s1
  else .next s

/-- `bist.record`. -/
def bistRecordBytes (s : State) : List Byte := hallmarkBytes s.bist.asRead

end Sys2Proof.Machine
end

