-- ==== Sys2Proof/Machine/Flags.lean ====
section
/-!
DEFINITION. The flags register of an engine (R351): its word and every flag computation of the specification.
-/

namespace Sys2Proof.Machine

/-- R351: the flags register as a word: [4] E, [3] V, [2] C, [1] N, [0] Z; the other bits are `resv`. -/
def Flags.word (x : Flags) : Nat := b2n x.z + 2 * b2n x.n + 4 * b2n x.c + 8 * b2n x.v + 16 * b2n x.e

/-- The flags that a word written to the FLAGS port spells. -/
def Flags.ofWord (w : Word) : Flags := ⟨w.getLsbD 0, w.getLsbD 1, w.getLsbD 2, w.getLsbD 3, w.getLsbD 4⟩

/-- Z and N of a result; C, V and E stay (AND, OR, XOR, the shifts and their immediate forms). -/
def Flags.logic (x : Flags) (r : Word) : Flags := { x with z := r == 0, n := r.msb }

/-- ADD, ADDI: C is the carry out of bit 31, V the signed overflow; E stays. -/
def Flags.add (x : Flags) (a b : Word) : Flags :=
  let r := a + b
  { x with z := r == 0, n := r.msb, c := decide (2 ^ 32 ≤ a.toNat + b.toNat), v := decide (r.toInt ≠ a.toInt + b.toInt) }

/-- SUB, CMP, CMPI: C is 1 when the subtraction does not borrow; E stays. -/
def Flags.sub (x : Flags) (a b : Word) : Flags :=
  let r := a - b
  { x with z := r == 0, n := r.msb, c := decide (b.toNat ≤ a.toNat), v := decide (r.toInt ≠ a.toInt - b.toInt) }

end Sys2Proof.Machine
end

