-- ==== Sys2Proof/Machine/Dump.lean ====
section
/-!
DEFINITION. The fatal-error dump (R510), the storm window (R389), the latched events (R387) and the TAP (R534).
-/

namespace Sys2Proof.Machine

/-! ### The dump (R510) -/

/-- ENG_ID of an engine: the number it runs as, with bit [8] for WJ in another's place (R378). -/
def engId (e : Nat) (x : Engine) : Nat := x.runsAs + (if e = 8 then 256 else 0)

/-- A section in TLV form. -/
def dumpSection (type : Nat) (value : List Byte) : List Byte :=
  bytesLE 2 type ++ bytesLE 2 0 ++ bytesLE 4 value.length ++ value ++ List.replicate ((4 - value.length % 4) % 4) 0

/-- Section 0x0006: g1 to g31, g0, the flags, the resume address, the region's base and its bytes. The specification gives the section no layout
(log 56). -/
def checkpointBytes (c : Checkpoint) : List Byte :=
  ((List.range 32).flatMap (fun i => bytesLE 4 (vget c.regs 0 ((i + 1) % 32)).toNat)) ++ bytesLE 4 c.flags.word ++ bytesLE 4 c.resume.toNat ++
    bytesLE 4 c.base ++ c.bytes

/-- Sections 0x0001 to 0x0008 of the moment. -/
def hardwareSections (s : State) (e : Nat) : List Byte :=
  let x := vget s.engines (State.engineReset e) e
  let engine := ((List.range 31).flatMap (fun i => bytesLE 4 (vget x.g 0 (i + 1)).toNat)) ++ bytesLE 4 x.pc.toNat ++ bytesLE 4 x.flags.word ++
    bytesLE 4 x.tpc.toNat ++ bytesLE 4 x.tcause.toNat ++ bytesLE 4 x.tval.toNat ++ bytesLE 4 (engId e x)
  let queues := (List.range 16).flatMap (fun q => let c := qCtl s q; bytesLE 2 c.tail.toNat ++ bytesLE 2 c.lease.toNat ++ bytesLE 2 c.head.toNat)
  let n := Nat.min 256 (qEntries s 5)
  let log := (List.range n).flatMap (fun i => qBytes s 5 ((qCtl s 5).tail - BitVec.ofNat 16 n + BitVec.ofNat 16 i))
  (if e < 9 then dumpSection 1 engine else []) ++
  dumpSection 2 (bytesLE 16 s.events.status.toNat ++ (List.range 128).flatMap (fun k => bytesLE 4 (s.reg (Reg.evtCount k)))) ++
  dumpSection 3 queues ++
  dumpSection 4 ((List.range 8).flatMap (fun c => bytesLE 4 (s.reg (Reg.tollUsed c))) ++ (List.range 8).flatMap (fun c => bytesLE 4 (s.reg (Reg.tollOverruns c)))) ++
  dumpSection 5 (bytesLE 8 (domainStateWord s) ++ bytesLE 4 (pwrStatus s) ++ bytesLE 2 (s.reg Reg.engFailedMask)) ++
  (if e < 9 then (match x.ckpts with | c :: _ => dumpSection 6 (checkpointBytes c) | [] => []) ++ dumpSection 7 (memRange x.dram 0 65536) else []) ++
  dumpSection 8 log

/-- The sequence of the next dump: one more than the last one's, which its summary keeps. -/
def nextDumpSeq (s : State) : Nat := (bits (s.reg Reg.dumpSummary) 95 64 + 1) % 4294967296

/-- The header of a dump with its LENGTH and CRC fields at zero. -/
def dumpHeader (s : State) (trigger engine cause : Nat) : List Byte :=
  [0x4B, 0x59, 0x47, 0x44] ++ bytesLE 2 0x0100 ++ bytesLE 2 0 ++ bytesLE 4 (nextDumpSeq s) ++ bytesLE 1 trigger ++ bytesLE 1 engine ++ bytesLE 1 cause ++
    bytesLE 1 0 ++ bytesLE 8 s.now ++ bytesLE 4 s.scan.frameCount ++ bytesLE 4 (opsec s) ++ bytesLE 32 0

/-- A dump begun, or counted as suppressed. -/
def beginDump (s : State) (trigger engine cause : Nat) : State :=
  if s.reg Reg.dumpSeq ≠ 0 ∨ s.dump.writing then s.bump Reg.dumpSuppressed
  else
    { s with dump := { s.dump with writing := true, trigger := trigger, engine := engine, cause := cause, started := s.now,
                                   hardware := dumpHeader s trigger engine cause ++ hardwareSections s engine, sections := [], length := 0 } }

/-- DUMP_TRIGGER (R254, R510): E120, or an entry that the stock firmware pushed onto Q14; while a dump is written, an entry there is a firmware section
whose TYPE is its KIND and whose value is its BODY (DESIGN CHOICE, log 56). `ecc` is what the reads of Q5 and Q14 find. -/
def execDumpTrigger (ecc : List EccFinding) (s : State) : Host.Outcome State Fault Refusal :=
  if !domainOn s 3 then .next s
  else match s.dump.due with
    | some (t, e, c) => .next (beginDump { eccFindAll s ecc with dump := { (eccFindAll s ecc).dump with due := none } } t e c)
    | none =>
      match qTake (if (qNext s 14).isSome then eccFindAll s ecc else s) 14 with
      | (none, _) => .next s
      | (some b, s1) =>
        let kind := field b 0 2
        if s1.dump.writing then
          .next (if 0x0100 ≤ kind ∧ kind ≤ 0x01FF then
            { s1 with dump := { s1.dump with sections := s1.dump.sections ++ dumpSection kind (slice b 8 24) } } else s1)
        else .next (beginDump s1 (field b 8 1) (field b 9 1) (field b 10 1))

/-- DUMP_CLOSE (R254, R510): 50 ms after the trigger: the end section, LENGTH and CRC, the summary, the record and E121. `ecc` is what the reads of
the dump region find. -/
def execDumpClose (ecc : List EccFinding) (s : State) : Host.Outcome State Fault Refusal :=
  if s.dump.writing && domainOn s 3 then
    let s1 := eccFindAll (s.atLeast (s.dump.started + 50000000)) ecc
    let d := s1.dump
    let raw := d.hardware ++ d.sections ++ dumpSection 0xFFFF []
    let sized := putBytes raw 32 (bytesLE 4 raw.length)
    let whole := putBytes sized 60 (bytesLE 4 (crc32c sized))
    let seq := field whole 8 4
    let s2 := storeBytes s1 dumpBase whole
    let s3 := ((s2.setReg Reg.dumpSummary (natLE (slice whole 0 4096))).setReg Reg.dumpSeq seq)
    let s4 := { s3 with dump := { s3.dump with writing := false, hardware := [], sections := [], length := whole.length } }
    let s5 := ledgerAppend s4 (bytesLE 1 0x31 ++ bytesLE 1 d.trigger ++ bytesLE 1 d.engine ++ bytesLE 1 d.cause ++ bytesLE 4 seq ++
      slice whole 24 4 ++ bytesLE 4 (opsec s4)) 0
    .next (raise 121 (bytesLE 4 seq) s5)
  else .next s

/-- A write of `dump.clear`. -/
def clearDump (s : State) : State :=
  if s.dump.writing then s else { s.setReg Reg.dumpSeq 0 with dump := { s.dump with length := 0 } }

/-- `dump.image`. -/
def dumpImage (s : State) : List Byte := if s.dump.writing then [] else loadBytes s dumpBase s.dump.length

/-! ### Events (R387, R389) -/

/-- R387: latched status bits cleared. -/
def clearEvents (s : State) (mask : BitVec 128) : State := { s with events := { s.events with status := s.events.status &&& ~~~ mask } }

/-- STORM_WINDOW_END (R389): sources whose count in the window that ends did not exceed their limit are unmasked. -/
def execStormWindowEnd (s : State) : Host.Outcome State Fault Refusal :=
  if s.power.device = 0 then .next s
  else
    let t := s.events.stormStart + s.reg Reg.evtStormWindowMs * 1000000
    let s1 := s.atLeast t
    let keep := (List.range 128).foldl (fun (m : BitVec 128) e =>
      bvPut m e (m.getLsbD e && decide (2 ^ eventLimit s1 e < mapGet (fun _ => 0) s1.events.stormCount e))) s1.events.stormMask
    .next { s1 with events := { s1.events with stormMask := keep, stormCount := [], stormStart := t } }

/-! ### The TAP (R534) -/

/-- The next state of the TAP controller (IEEE 1149.1). -/
def tapNext (tap : Nat) (tms : Bool) : Nat :=
  match tap, tms with
  | 0, false => 1 | 0, true => 0
  | 1, false => 1 | 1, true => 2
  | 2, false => 3 | 2, true => 9
  | 3, false => 4 | 3, true => 5
  | 4, false => 4 | 4, true => 5
  | 5, false => 6 | 5, true => 8
  | 6, false => 6 | 6, true => 7
  | 7, false => 4 | 7, true => 8
  | 8, false => 1 | 8, true => 2
  | 9, false => 10 | 9, true => 0
  | 10, false => 11 | 10, true => 12
  | 11, false => 11 | 11, true => 12
  | 12, false => 13 | 12, true => 15
  | 13, false => 13 | 13, true => 14
  | 14, false => 11 | 14, true => 15
  | _, false => 1 | _, true => 2

/-- The length of the instruction register. -/
def irLength : Nat := Config.jtagIrExtra + 2

/-- The instruction that a code stands for; all ones is BYPASS, as is every code that stands for nothing else. -/
def jtagInstr (code : Nat) : Nat :=
  let n := Config.jtagCode code
  if code + 1 = 2 ^ irLength ∨ 5 < n then 0 else n

/-- R534: EXTEST, CLAMP and HIGHZ act only while ARN and ARS are both OFF. -/
def jtagActive (s : State) : Nat :=
  let n := s.jtag.ir
  if (n = 2 ∨ n = 4 ∨ n = 5) ∧ !((domainOf s 5).state == 0 && (domainOf s 6).state == 0) then 0 else n

/-- IDCODE. -/
def idcode (s : State) : Nat :=
  (s.reg Reg.idSiliconStep % 16) * 2 ^ 28 + 0x1048 * 2 ^ 12 + Config.jtagManufacturer.toNat * 2 + 1

/-- The levels of the VIO-level and FT signal lands, in the order of R515: what the device drives or has qualified; every other level, an open
drain that the device does not pull low among them, is a free value of the board. -/
def landLevels (s : State) : List Bool × State :=
  let (n, s1) := s.drawNat
  let bus (i : Nat) : Bool := bitAt n i
  let drain (low : Bool) (i : Nat) : Bool := if decide (2 ≤ s.power.device) && low then false else bus i
  ([true, bus 0, true, bus 1, bus 2, bus 3, bus 4, bus 5, drain (intLow s) 8, drain (faultLow s) 9, (inputOf s 1).active, bus 6,
    (if s.reg Reg.frameSyncMode = 1 then s.scan.sync.pin else bus 7), s.scan.teOut, s.power.loadstep, !s.power.fltIn], s1)

/-- What a data register captures. -/
def captureDr (s : State) : List Bool × State :=
  match jtagActive s with
  | 1 => landLevels s
  | 2 => landLevels s
  | 3 => ((List.range 32).map (fun i => bitAt (idcode s) i), s)
  | _ => ([false], s)

/-- The state with the TAP replaced. -/
def setJtag (s : State) (x : Jtag) : State := { s with jtag := x }

/-- A rising edge of TCK: the actions of the present controller state, then its change. -/
def tckRise (s : State) (j : JtagObs) : State :=
  let x := s.jtag
  let s1 := match x.tap with
    | 3 => let (d, st) := captureDr s; setJtag st { x with dr := d }
    | 4 => setJtag s { x with dr := x.dr.drop 1 ++ [j.tdi] }
    | 10 => setJtag s { x with irShift := 1 }
    | 11 => setJtag s { x with irShift := x.irShift / 2 + (if j.tdi then 2 ^ (irLength - 1) else 0) }
    | _ => s
  let n := tapNext x.tap j.tms
  setJtag s1 { s1.jtag with tap := n, ir := if n = 0 then 3 else s1.jtag.ir }

/-- A falling edge of TCK: TDO in the Shift states, the updates in the Update states. -/
def tckFall (s : State) : State :=
  let x := s.jtag
  match x.tap with
  | 4 => setJtag s { x with tdo := x.dr.head? }
  | 11 => setJtag s { x with tdo := some (x.irShift % 2 == 1) }
  | 8 => setJtag s { x with tdo := none, boundary := if jtagActive s = 1 ∨ jtagActive s = 2 then x.dr else x.boundary }
  | 15 => setJtag s { x with tdo := none, ir := jtagInstr x.irShift }
  | _ => setJtag s { x with tdo := none }

/-- TCK_EDGE (R515, R518, R534): the TAP serves from AO on while VIO is present; TRST_N low holds Test-Logic-Reset. -/
def execTckEdge (j : JtagObs) (s : State) : Host.Outcome State Fault Refusal :=
  if s.power.device = 0 then .next s
  else if !j.trstN || !s.power.vio then .next (tapReset s)
  else .next (if j.rising then tckRise s j else tckFall s)

end Sys2Proof.Machine
end

