-- ==== Sys2Proof/Machine/Images.lean ====
section
/-!
DEFINITION. Firmware images (R365 to R369): their layout and verification, the slot that boots, the start of the engines with what an extension
image declares (R371, R372), and the slot that an update writes.
-/

namespace Sys2Proof.Machine

/-- R365: the ASCII bytes "KYGI". -/
def imageMagic : Nat := 0x4947594B

/-- R365: entry `e` of the segment table. -/
def segEntry (img : List Byte) (e : Nat) : List Byte := slice img (128 + 64 * e) 64

/-- The code of a segment. -/
def segCode (img : List Byte) (e : Nat) : List Byte := slice img (field (segEntry img e) 0 4) (field (segEntry img e) 4 4)

/-- The data of a segment. -/
def segData (img : List Byte) (e : Nat) : List Byte := slice img (field (segEntry img e) 8 4) (field (segEntry img e) 12 4)

/-- R365: an entry with CODE_LEN 0 leaves its engine idle. -/
def segUsed (img : List Byte) (e : Nat) : Bool := field (segEntry img e) 4 4 != 0

/-- R365, R378: SEG_HASH of a segment matches, over code then data. -/
def segHashOk (img : List Byte) (e : Nat) : Bool := slice (segEntry img e) 32 32 == sha256 (segCode img e ++ segData img e)

/-- R356, R365: a segment lies within the image and fits the local RAM of an engine. -/
def segFits (img : List Byte) (e : Nat) : Bool :=
  let t := segEntry img e
  let n := field img 12 4
  decide (field t 0 4 + field t 4 4 ≤ n) && decide (field t 8 4 + field t 12 4 ≤ n) && decide (field t 4 4 ≤ 65536) && decide (field t 12 4 ≤ 65536)

/-- R365: DIGEST, the SHA-256 of the image with SIG taken as zero. -/
def imageDigest (img : List Byte) : List Byte :=
  let n := field img 12 4
  sha256 (slice img 0 64 ++ List.replicate 64 0 ++ slice img 128 (n - 128))

/-- R366: every check of a slot: MAGIC, LENGTH, KIND, DIGEST and SIG, every SEG_HASH, the bounds of each segment in use, and ROLLBACK. -/
def imageValid (s : State) (slot : Nat) : Bool :=
  let img := imageOf s slot
  let n := field img 12 4
  let sig := slice img 64 64
  let kind := if slot = 2 then 1 else 0
  let key := bytesLE 32 (s.reg Reg.engExtKeyHash)
  field img 0 4 == imageMagic && decide (640 ≤ n) && decide (n ≤ 2097152) && decide (n ≤ img.length) && field img 16 1 == kind &&
  (List.range 8).all (fun e => (!segUsed img e || segFits img e) && segHashOk img e) &&
  decide (s.reg Reg.engRollbackMin ≤ field img 8 4) &&
  (if slot = 2 then s.reg Reg.engExtKeyHash != 0 && Config.extSignatureOk key (imageDigest img) sig
   else Config.stockSignatureOk (imageDigest img) sig)

/-- R366: the stock slot that boots: the one the selector names, if valid; else the valid slot of the higher VERSION, slot 0 on a tie. -/
def bootSlot (s : State) : Option Nat :=
  let sel := s.reg Reg.engBootSelect
  let version (n : Nat) : Nat := field (imageOf s n) 4 4
  if sel < 2 && imageValid s sel then some sel
  else match imageValid s 0, imageValid s 1 with
    | true, true => some (if version 0 < version 1 then 1 else 0)
    | true, false => some 0
    | false, true => some 1
    | false, false => none

/-- R366: an engine loaded with segment `seg` of a slot and started at ENTRY. -/
def loadedEngine (s : State) (e slot seg : Nat) : Engine :=
  let img := imageOf s slot
  { State.engineReset e with
    run := .running, pc := BitVec.ofNat 32 (field (segEntry img seg) 16 4)
    iram := memWrite [] 0 (segCode img seg), dram := memWrite [] 0 (segData img seg)
    wdogEn := field (segEntry img seg) 20 1 != 0, wdogStart := s.now, image := slot, segment := seg }

/-- An engine started from a segment, unless it is failed or the segment is empty (R365, R380). -/
def startEngine (slot seg : Nat) (s : State) (e : Nat) : State :=
  if (engOf s e).run = .failed ∨ !segUsed (imageOf s slot) seg then s else setEng s e (loadedEngine s e slot seg)

/-- R366, R368, R382: the stock engines: W0 to W3, in pair mode W1 with W0's segment; with no valid slot, W0 runs the recovery loader
from ROM, whose engine names image 0xFF. -/
def startStock (s : State) : State :=
  match bootSlot s with
  | some n =>
    let pair := s.flag Reg.engPairMode
    let s1 := [0, 1, 2, 3].foldl (fun st e => startEngine n (if pair && e == 1 then 0 else e) st e) s
    let both := (engOf s1 0).run == .running && (engOf s1 1).run == .running
    { s1 with pair := ⟨pair && both, none, [], false⟩ }
  | none => if (engOf s 0).run = .failed then s else setEng s 0 { State.engineReset 0 with run := .running, image := 0xFF }

/-- The row of a declared entry, with the ACCESS bits that it declares (R310, R372). -/
def moduleRow (m : ModuleEntry) : Row :=
  let type : EntryType := match m.type with
    | 1 => .bool | 2 => .u8 | 3 => .u16 | 4 => .u32 | 5 => .u64 | 6 => .i8 | 7 => .i16 | 8 => .i32 | 9 => .i64
    | 10 => .real | 11 => .handle | _ => if m.size = 0 then .variable else .domain
  let access : Access := match m.access % 4 with | 0 => .ro | 1 => .rw | 2 => .wo | _ => .rc
  { index := m.index, indexes := 1, sub := m.sub, subs := 1, type := type, size := if m.size = 0 then m.max.toNat else m.size, access := access,
    persist := if bitAt m.access 2 then .saved else .no, min := m.min, max := m.max, default := m.default, perSession := bitAt m.access 4 }

/-- R313, R372: what a declared entry holds from its declaration on: the saved value where its image keeps it persistent and the valid copy has one
in its range, otherwise its default. -/
def declaredValue (s : State) (r : Row) : Nat :=
  let key := 256 * r.index + r.sub
  match bootCopy s with
  | some (_, x) =>
    match x.values.find? (fun p => p.1 == key) with
    | some p => if r.persist = .saved ∧ (r.access = .rw ∨ (r.access = .rc ∧ savedValid s)) ∧ r.inRange key p.2 then p.2 else r.default
    | none => r.default
  | none => r.default

/-- R371: whether an index lies in the range of an extension engine. -/
def moduleOwns (e index : Nat) : Bool := decide (0x5000 + 0x400 * (e - 4) ≤ index) && decide (index < 0x5400 + 0x400 * (e - 4))

/-- R371, R372: what the image of a running extension engine declares: at most 256 entries of its range at their defaults, and up to four BLOB
channels, which the stock firmware creates and maps in WIN_HANDLE 0 to 3. -/
def declareModule (s : State) (m : ModuleDecl) : State :=
  if 4 ≤ m.engine ∧ m.engine < 8 ∧ (engOf s m.engine).run = .running ∧ !s.modules.any (fun x => x.engine == m.engine) then
    let own := (m.entries.filter (fun x => moduleOwns m.engine x.index && decide (x.sub < 256))).take 256
    let rows := own.map moduleRow
    let service := (own.filter (fun x => bitAt x.access 3)).map (fun x => 256 * x.index + x.sub)
    let s1 := { s with modules := s.modules ++ [⟨m.engine, rows, service⟩] }
    let s2 := rows.foldl (fun st r => st.setReg (256 * r.index + r.sub) (declaredValue s r)) s1
    ((m.blobs.take 4).zip (List.range 4)).foldl (fun st b =>
      let (_, h, st1) := createChannel st (bytesLE 1 4 ++ bytesLE 7 0 ++ bytesLE 4 b.1) 0 (some m.engine)
      let x := engOf st1 m.engine
      setEng st1 m.engine { x with winHandle := vset x.winHandle b.2 (BitVec.ofNat 32 h) }) s2
  else s

/-- R366, R367: W4 to W7; with no valid extension image each stays idle, with E104. -/
def startExtensions (s : State) (modules : List ModuleDecl) : State :=
  if imageValid s 2 then modules.foldl declareModule ([4, 5, 6, 7].foldl (fun st e => startEngine 2 e st e) s)
  else [4, 5, 6, 7].foldl (fun st e => raise 104 (bytesLE 1 e ++ bytesLE 1 0) st) s

/-- ENGINE_START (R366 to R368, R370): in BOOT, with CTL powered, every engine is loaded and started, WJ stands by, and the stock fault policy
restores the faults of the Ledger (R153). -/
def execEngineStart (modules : List ModuleDecl) (s : State) : Host.Outcome State Fault Refusal :=
  if s.power.device = 2 ∧ domainOn s 1 ∧ !(domainOf s 1).queued ∧ (List.range 9).all (fun e => (engOf s e).run == .idle || (engOf s e).run == .failed) then
    let s1 := startStock s
    let s2 := if (engOf s1 8).run = .failed then s1 else setEng s1 8 { State.engineReset 8 with run := .standby }
    let s3 := startExtensions s2 modules
    .next (if firmwareRuns s3 3 && domainOn s3 3 then restoreFaults s3 else s3)
  else .next s

/-- R369: the MRAM slot that an update writes: the stock slot not booted (slot 0 where none is), or the extension slot. -/
def targetSlot (s : State) : Nat :=
  if s.reg Reg.engImageTarget = 1 then 2
  else match bootedSlot s with
    | some n => 1 - n
    | none => 0

/-- R369: the first write of an update for a stock slot makes the selector name no slot. -/
def beginImage (s : State) : State := if s.reg Reg.engImageTarget = 0 then s.setReg Reg.engBootSelect 0xFF else s

/-- R369: an image written to its slot. -/
def writeImage (s : State) (img : List Byte) : State := { s with mram := { s.mram with images := vset s.mram.images (targetSlot s) img } }

/-- R369: the written slot verified and activated; answers whether it is valid. -/
def activateImage (s : State) : Bool × State :=
  let n := targetSlot s
  if imageValid s n then (true, if n < 2 then s.setReg Reg.engBootSelect n else s) else (false, s)

end Sys2Proof.Machine
end

