-- ==== Sys2Proof/Machine/Operands.lean ====
section
/-!
DEFINITION. The operand forms of the engines' instructions (R350, R352, R353) and the memory map that an engine sees (R356, R358, R359).
-/

namespace Sys2Proof.Machine

/-- R350: a general register read; g0 reads 0. -/
def Engine.get (x : Engine) (r : Fin 32) : Word := if r = 0 then 0 else x.g[r.val]

/-- R352: a sign-extended immediate. -/
def simm (imm : Half) : Word := imm.signExtend 32

/-- R352: the zero-extended immediate of ANDI, ORI, XORI and LUI. -/
def uimm (imm : Half) : Word := imm.setWidth 32

/-- R352: whether a condition holds. -/
def Flags.holds (x : Flags) : Cond → Bool
  | .al => true
  | .eq => x.z
  | .ne => !x.z
  | .lt => x.n != x.v
  | .ge => x.n == x.v
  | .ltu => !x.c
  | .geu => x.c
  | .mi => x.n
  | .pl => !x.n
  | .es => x.e
  | .ec => !x.e

/-- R352: a branch's target: a signed offset in words from the next instruction. -/
def branchTarget (pc off : Word) : Word := pc + 4 + 4 * off

/-- R353: SLL, SRL and SRA by 0 to 31 bits, by the code of SHI. -/
def shift (mode : Nat) (a : Word) (n : Nat) : Word :=
  match mode with
  | 0 => a <<< n
  | 1 => a >>> n
  | _ => a.sshiftRight n

/-- R353: the leading zeros of a word, 0 to 32. -/
def leadingZeros (a : Word) : Nat := if a = 0 then 32 else 31 - Nat.log2 a.toNat

/-- R353: the high 32 bits of a signed product. -/
def mulHigh (a b : Word) : Word := ((a.signExtend 64 * b.signExtend 64) >>> 32).setWidth 32

/-- R353: the high 32 bits of an unsigned product. -/
def mulHighU (a b : Word) : Word := ((a.setWidth 64 * b.setWidth 64) >>> 32).setWidth 32

/-- R354: the signed quotient, truncated toward zero; by zero 0xFFFFFFFF, and 0x80000000 by −1 gives 0x80000000. -/
def quotient (a b : Word) : Word := if b = 0 then 0xFFFFFFFF else BitVec.ofInt 32 (a.toInt.tdiv b.toInt)

/-- R354: the unsigned quotient; by zero 0xFFFFFFFF. -/
def quotientU (a b : Word) : Word := if b = 0 then 0xFFFFFFFF else a / b

/-- R354: the signed remainder, of the dividend's sign; by zero the dividend. -/
def remainder (a b : Word) : Word := if b = 0 then a else BitVec.ofInt 32 (a.toInt.tmod b.toInt)

/-- R354: the unsigned remainder; by zero the dividend. -/
def remainderU (a b : Word) : Word := if b = 0 then a else a % b

/-- R356: what an address of an engine names. -/
inductive Place where
  | iram (o : Nat)
  | dram (o : Nat)
  | port (o : Nat)
  | window (w o : Nat)
  | nothing
  deriving DecidableEq, Repr

/-- R356, R359: the map. -/
def placeOf (a : Nat) : Place :=
  if a < 0x10000 then .iram a
  else if 0x10000000 ≤ a ∧ a < 0x10010000 then .dram (a - 0x10000000)
  else if 0x20000000 ≤ a ∧ a < 0x20000100 then .port (a - 0x20000000)
  else if 0x40000000 ≤ a ∧ a < 0x44000000 then .window ((a - 0x40000000) / 0x1000000) (a % 0x1000000)
  else .nothing

/-- A run of `n` bytes of data RAM at an address that a register names (QPUSH, QPOP, ESIG, MOVE, ASSAY): its offset, where it lies in data RAM. -/
def dramOffset (a n : Nat) : Option Nat := if 0x10000000 ≤ a ∧ a + n ≤ 0x10010000 then some (a - 0x10000000) else none

/-- The value that a load of a width in bytes delivers, from the bytes read. -/
def loadValue (signed : Bool) (b : List Byte) : Word :=
  let v := natLE b
  if signed then BitVec.ofInt 32 (toInt (8 * b.length) v) else BitVec.ofNat 32 v

end Sys2Proof.Machine
end

