-- ==== Sys2Proof/Machine/Traps.lean ====
section
/-!
DEFINITION. What an engine's instruction shares: taking a trap (R355), the failure of an engine (R375, R378, R380), and the frame in which an
engine executes an instruction.
-/

namespace Sys2Proof.Machine

/-! ### Failure (R277, R375 to R380) -/

/-- An entry put among returned entries in SEQ order, counted from HEAD (R277). -/
def insertSeq (head seq : BitVec 16) : List (BitVec 16) → List (BitVec 16)
  | [] => [seq]
  | r :: t => if (seq - head).toNat < (r - head).toNat then seq :: r :: t else r :: insertSeq head seq t

/-- R277: every lease of an engine returned to its queue. -/
def returnLeases (e : Nat) (s : State) : State :=
  { s with queues := s.queues.map (fun c =>
      let mine := (c.lessees.filter (fun l => l.2 == e)).map (·.1)
      { c with lessees := c.lessees.filter (fun l => l.2 != e), returned := mine.foldl (fun r q => insertSeq c.head q r) c.returned }) }

/-- An engine halted as failed, its leases returned; an acknowledgement that its next checkpoint was to carry is lost (R377). -/
def haltFailed (e : Nat) (s : State) : State :=
  returnLeases e (setEng s e { engOf s e with run := .failed, stall := .none, heldAcks := [] })

/-- R384: sources raised at one time code, in ascending event number. -/
def raiseSorted (l : List (Nat × List Byte)) (s : State) : State :=
  (List.range 128).foldl (fun st n => (l.filter (fun p => p.1 == n)).foldl (fun st2 p => raise p.1 p.2 st2) st) s

/-- R510: E120 calls for a dump; one that finds another waiting is counted as suppressed. -/
def requestDump (e cause : Nat) (s : State) : State :=
  if s.dump.due.isSome then s.bump Reg.dumpSuppressed else { s with dump := { s.dump with due := some (120, e, cause) } }

/-- R372, R380: a halted engine without a spare: E120, and a module that stops: its entries answer NO_ENTRY from now on, with E104. What the failure
itself raises comes with them (R384). -/
def fatal (e cause : Nat) (own : List (Nat × List Byte)) (s : State) : State :=
  let n := (engOf s e).runsAs
  let module_ := decide (4 ≤ n) && decide (n < 8)
  let s1 := s.setReg Reg.engFailedMask (setBit (s.reg Reg.engFailedMask) e true)
  let s2 := if module_ then { s1 with modules := s1.modules.filter (fun m => m.engine != n) } else s1
  requestDump e cause (raiseSorted ((120, bytesLE 1 e ++ bytesLE 1 cause) :: (if module_ then [(104, bytesLE 1 n ++ bytesLE 1 1)] else []) ++ own) s2)

/-- Whether an engine belongs to the pair (R382). -/
def inPair (s : State) (e : Nat) : Bool := s.pair.active && decide ((engOf s e).runsAs < 2)

/-- R378: whether WJ can take over an engine: it stands by, no other takeover is under way, and the engine ran a segment of a slot. -/
def spareFor (s : State) (e : Nat) : Bool :=
  (engOf s 8).run == .standby && s.takeover.isNone && decide ((engOf s e).image < 3) && decide (e < 8)

/-- The pair without the output that waits and the inputs held; the engine whose output waited will produce it again. -/
def clearPair (s : State) : State :=
  (runsAs s 0 ++ runsAs s 1).foldl (fun st k => if (engOf st k).stall = .pair then setEng st k { engOf st k with stall := .none } else st)
    { s with pair := { s.pair with waiting := none, inputs := [] } }

/-- R375, R378, R380: a running engine fails, with the sources that its failure itself raises. With WJ standing by it is halted for WJ_RESUME; an
engine of the pair halts the other too. -/
def failWith (e cause : Nat) (own : List (Nat × List Byte)) (s : State) : State :=
  if (engOf s e).run ≠ .running then raiseSorted own s
  else
    let s1 := haltFailed e (if inPair s e then clearPair s else s)
    if spareFor s e then
      raiseSorted own { s1 with takeover := some (e, cause), pair := { s1.pair with checking := s1.pair.checking || inPair s e } }
    else fatal e cause own s1

/-- A failure that raises nothing itself. -/
def failEngine (e cause : Nat) (s : State) : State := failWith e cause [] s

/-- R357: an uncorrectable error in an engine's own RAM: E117 with memory code 1, and the engine fails with cause 1. -/
def localError (e a : Nat) (s : State) : State := failWith e 1 [(117, bytesLE 4 a ++ bytesLE 1 1 ++ bytesLE 1 e)] s

/-- R357: what an instruction does with what its read of local RAM met; a single-bit error is corrected without a trace. -/
def localRead (e a : Nat) (m : MemObs) (use : State → State) (s : State) : State := if m = .fatal then localError e a s else use s

/-- R254, R255: what an engine's read met in pixel store, at a physical address. -/
def storeFinding (p : Nat) (m : MemObs) (s : State) : State :=
  match m with
  | .sound => s
  | .corrected => eccFind s ⟨p, false⟩
  | .fatal => eccFind s ⟨p, true⟩

/-! ### Traps (R355) -/

/-- R355: an engine takes a trap: TPC, TCAUSE, TVAL, and the jump to TVEC. In its handler, or with TVEC 0, it fails with cause 2. -/
def trap (e cause : Nat) (tval : Word) (s : State) : State :=
  let x := engOf s e
  if x.inTrap || x.tvec == 0 then failEngine e 2 s
  else setEng s e { x with tpc := x.pc, tcause := BitVec.ofNat 32 cause, tval := tval, inTrap := true, pc := x.tvec }

/-- A trap without a faulting address: TVAL holds a free value (log 61). -/
def trapFree (e cause : Nat) (s : State) : State :=
  let d := s.drawNat
  trap e cause (BitVec.ofNat 32 d.1) d.2

/-! ### Executing an instruction -/

/-- Whether an engine executes instructions now: it runs, waits for nothing, and is not halted for a self-check or a takeover of the pair (R378, R383). -/
def engineReady (s : State) (e : Nat) : Bool :=
  (engOf s e).run == .running && (engOf s e).stall == .none && !(s.pair.checking && inPair s e)

/-- An engine executes an instruction (log 62). One that does not run or waits executes none; a fetch outside the instruction RAM traps (R356). -/
def instruct (e : Nat) (f : State → State) (s : State) : Host.Outcome State Fault Refusal :=
  if !engineReady s e then .next s
  else if 65536 ≤ (engOf s e).pc.toNat then .next (trap e 3 (engOf s e).pc s)
  else .next (f s)

/-- An instruction's result: a register, the flags, and the next instruction. -/
def finish (e : Nat) (rd : Fin 32) (v : Word) (fl : Flags) (s : State) : State :=
  setEng s e (({ engOf s e with flags := fl }.put rd v).next)

/-- An instruction with no result but the flags. -/
def finishFlags (e : Nat) (fl : Flags) (s : State) : State := setEng s e ({ engOf s e with flags := fl }.next)

/-- An engine that waits. -/
def stallOn (e : Nat) (w : Stall) (s : State) : State := setEng s e { engOf s e with stall := w }

/-- R359, R394: C7 tokens for an engine's access; short of them it stalls until the next period and executes the instruction again. -/
def chargeEngine (e n : Nat) (s : State) : Bool × State :=
  let x := engOf s e
  let cap := s.reg (Reg.engC7Cap (if e = 8 then x.runsAs else e))
  if cap ≠ 0 ∧ cap < x.c7Used + n then (false, stallOn e .period s)
  else
    let r := charge s 7 (.engine e) n
    let used := tokensLeft s 7 - tokensLeft r.2 7
    let t := setEng r.2 e { engOf r.2 e with c7Used := x.c7Used + used }
    if r.1 then (true, t) else (false, stallOn e .period t)

/-- R22, R394: `n` tokens of C7 drawn for an engine's move, as far as its cap and the period hold them: the tokens served now. -/
def payEngine (e n : Nat) (s : State) : Nat × State :=
  let x := engOf s e
  let cap := s.reg (Reg.engC7Cap (if e = 8 then x.runsAs else e))
  let m := if cap = 0 then n else Nat.min n (cap - x.c7Used)
  let (k, s1) := pay s 7 m
  (k, setEng s1 e { engOf s1 e with c7Used := x.c7Used + k })

end Sys2Proof.Machine
end

