-- ==== Sys2Proof/Machine/Arith.lean ====
section
/-!
DEFINITION. The engines' arithmetic and logic instructions (R351 to R354): one meaning for each, over the operand forms of Operands.lean
and the flag computations of Flags.lean.
-/

namespace Sys2Proof.Machine

/-- R format: rd = ra op rb, with the flags computed from the two operands. -/
def registerOp (e : Nat) (rd ra rb : Fin 32) (op : Word → Word → Word) (fl : Flags → Word → Word → Flags) (s : State) : State :=
  let x := engOf s e
  finish e rd (op (x.get ra) (x.get rb)) (fl x.flags (x.get ra) (x.get rb)) s

/-- I format: rd = ra op an operand made of the immediate. -/
def immediateOp (e : Nat) (rd ra : Fin 32) (b : Word) (op : Word → Word → Word) (fl : Flags → Word → Word → Flags) (s : State) : State :=
  let x := engOf s e
  finish e rd (op (x.get ra) b) (fl x.flags (x.get ra) b) s

/-- Z and N of the result of an operation. -/
def logicFlags (op : Word → Word → Word) (x : Flags) (a b : Word) : Flags := x.logic (op a b)

/-- No flag changes. -/
def keepFlags (x : Flags) (_ _ : Word) : Flags := x

/-- A shift whose amount is in bits [4:0] of the second operand. -/
def shiftOp (mode : Nat) (a b : Word) : Word := shift mode a (b.toNat % 32)

/-- ADD (R351, R353). -/
def execAdd (e : Fin 9) (rd ra rb : Fin 32) (s : State) : Host.Outcome State Fault Refusal :=
  instruct e (registerOp e rd ra rb (· + ·) Flags.add) s

/-- SUB (R351, R353). -/
def execSub (e : Fin 9) (rd ra rb : Fin 32) (s : State) : Host.Outcome State Fault Refusal :=
  instruct e (registerOp e rd ra rb (· - ·) Flags.sub) s

/-- AND (R351, R353). -/
def execAnd (e : Fin 9) (rd ra rb : Fin 32) (s : State) : Host.Outcome State Fault Refusal :=
  instruct e (registerOp e rd ra rb (· &&& ·) (logicFlags (· &&& ·))) s

/-- OR (R351, R353). -/
def execOr (e : Fin 9) (rd ra rb : Fin 32) (s : State) : Host.Outcome State Fault Refusal :=
  instruct e (registerOp e rd ra rb (· ||| ·) (logicFlags (· ||| ·))) s

/-- XOR (R351, R353). -/
def execXor (e : Fin 9) (rd ra rb : Fin 32) (s : State) : Host.Outcome State Fault Refusal :=
  instruct e (registerOp e rd ra rb (· ^^^ ·) (logicFlags (· ^^^ ·))) s

/-- SLL (R351, R353): the amount is rb [4:0]. -/
def execSll (e : Fin 9) (rd ra rb : Fin 32) (s : State) : Host.Outcome State Fault Refusal :=
  instruct e (registerOp e rd ra rb (shiftOp 0) (logicFlags (shiftOp 0))) s

/-- SRL (R351, R353): the amount is rb [4:0]. -/
def execSrl (e : Fin 9) (rd ra rb : Fin 32) (s : State) : Host.Outcome State Fault Refusal :=
  instruct e (registerOp e rd ra rb (shiftOp 1) (logicFlags (shiftOp 1))) s

/-- SRA (R351, R353): the amount is rb [4:0]. -/
def execSra (e : Fin 9) (rd ra rb : Fin 32) (s : State) : Host.Outcome State Fault Refusal :=
  instruct e (registerOp e rd ra rb (shiftOp 2) (logicFlags (shiftOp 2))) s

/-- MUL (R353): the low 32 bits. -/
def execMul (e : Fin 9) (rd ra rb : Fin 32) (s : State) : Host.Outcome State Fault Refusal :=
  instruct e (registerOp e rd ra rb (· * ·) keepFlags) s

/-- MULH (R353). -/
def execMulh (e : Fin 9) (rd ra rb : Fin 32) (s : State) : Host.Outcome State Fault Refusal :=
  instruct e (registerOp e rd ra rb mulHigh keepFlags) s

/-- MULHU (R353). -/
def execMulhu (e : Fin 9) (rd ra rb : Fin 32) (s : State) : Host.Outcome State Fault Refusal :=
  instruct e (registerOp e rd ra rb mulHighU keepFlags) s

/-- DIV (R353, R354). -/
def execDiv (e : Fin 9) (rd ra rb : Fin 32) (s : State) : Host.Outcome State Fault Refusal :=
  instruct e (registerOp e rd ra rb quotient keepFlags) s

/-- DIVU (R353, R354). -/
def execDivu (e : Fin 9) (rd ra rb : Fin 32) (s : State) : Host.Outcome State Fault Refusal :=
  instruct e (registerOp e rd ra rb quotientU keepFlags) s

/-- REM (R353, R354). -/
def execRem (e : Fin 9) (rd ra rb : Fin 32) (s : State) : Host.Outcome State Fault Refusal :=
  instruct e (registerOp e rd ra rb remainder keepFlags) s

/-- REMU (R353, R354). -/
def execRemu (e : Fin 9) (rd ra rb : Fin 32) (s : State) : Host.Outcome State Fault Refusal :=
  instruct e (registerOp e rd ra rb remainderU keepFlags) s

/-- CMP (R351, R353): flags from ra − rb. -/
def execCmp (e : Fin 9) (ra rb : Fin 32) (s : State) : Host.Outcome State Fault Refusal :=
  instruct e (fun st => finishFlags e ((engOf st e).flags.sub ((engOf st e).get ra) ((engOf st e).get rb)) st) s

/-- CLZ (R353). -/
def execClz (e : Fin 9) (rd ra : Fin 32) (s : State) : Host.Outcome State Fault Refusal :=
  instruct e (fun st => finish e rd (BitVec.ofNat 32 (leadingZeros ((engOf st e).get ra))) (engOf st e).flags st) s

/-- ADDI (R351 to R353). -/
def execAddi (e : Fin 9) (rd ra : Fin 32) (imm : Half) (s : State) : Host.Outcome State Fault Refusal :=
  instruct e (immediateOp e rd ra (simm imm) (· + ·) Flags.add) s

/-- ANDI (R351 to R353). -/
def execAndi (e : Fin 9) (rd ra : Fin 32) (imm : Half) (s : State) : Host.Outcome State Fault Refusal :=
  instruct e (immediateOp e rd ra (uimm imm) (· &&& ·) (logicFlags (· &&& ·))) s

/-- ORI (R351 to R353). -/
def execOri (e : Fin 9) (rd ra : Fin 32) (imm : Half) (s : State) : Host.Outcome State Fault Refusal :=
  instruct e (immediateOp e rd ra (uimm imm) (· ||| ·) (logicFlags (· ||| ·))) s

/-- XORI (R351 to R353). -/
def execXori (e : Fin 9) (rd ra : Fin 32) (imm : Half) (s : State) : Host.Outcome State Fault Refusal :=
  instruct e (immediateOp e rd ra (uimm imm) (· ^^^ ·) (logicFlags (· ^^^ ·))) s

/-- SHI (R351, R353): imm [6:5] names the shift and imm [4:0] the amount; the code 3 names none and is an illegal instruction (log 63). -/
def execShi (e : Fin 9) (rd ra : Fin 32) (imm : Half) (s : State) : Host.Outcome State Fault Refusal :=
  let mode := bits imm.toNat 6 5
  if mode = 3 then instruct e (trapFree e 1) s
  else instruct e (immediateOp e rd ra (uimm imm) (shiftOp mode) (logicFlags (shiftOp mode))) s

/-- LUI (R352, R353). -/
def execLui (e : Fin 9) (rd : Fin 32) (imm : Half) (s : State) : Host.Outcome State Fault Refusal :=
  instruct e (fun st => finish e rd (uimm imm <<< 16) (engOf st e).flags st) s

/-- CMPI (R351 to R353): flags from ra − imm. -/
def execCmpi (e : Fin 9) (ra : Fin 32) (imm : Half) (s : State) : Host.Outcome State Fault Refusal :=
  instruct e (fun st => finishFlags e ((engOf st e).flags.sub ((engOf st e).get ra) (simm imm)) st) s

end Sys2Proof.Machine
end

