-- ==== Sys2Proof/Machine/Control.lean ====
section
/-!
DEFINITION. The engines' branches, jumps, the return from a trap, and the illegal instruction (R350, R352, R353, R355).
-/

namespace Sys2Proof.Machine

/-- B (R352): the branch is taken when its condition holds. -/
def execB (e : Fin 9) (cond : Cond) (offset : BitVec 22) (s : State) : Host.Outcome State Fault Refusal :=
  instruct e (fun st =>
    let x := engOf st e
    setEng st e { x with pc := if x.flags.holds cond then branchTarget x.pc (offset.signExtend 32) else x.pc + 4 }) s

/-- BL (R350, R353): g31 takes the address of the next instruction. -/
def execBl (e : Fin 9) (offset : BitVec 26) (s : State) : Host.Outcome State Fault Refusal :=
  instruct e (fun st =>
    let x := engOf st e
    setEng st e { x.put 31 (x.pc + 4) with pc := branchTarget x.pc (offset.signExtend 32) }) s

/-- JR (R350, R353): rd and g31 take the address of the next instruction; the jump goes to ra + imm (log 64). -/
def execJr (e : Fin 9) (rd ra : Fin 32) (imm : Half) (s : State) : Host.Outcome State Fault Refusal :=
  instruct e (fun st =>
    let x := engOf st e
    setEng st e { (x.put rd (x.pc + 4)).put 31 (x.pc + 4) with pc := x.get ra + simm imm }) s

/-- TRET (R353, R355): the return from a trap to TPC. -/
def execTret (e : Fin 9) (s : State) : Host.Outcome State Fault Refusal :=
  instruct e (fun st => setEng st e { engOf st e with pc := (engOf st e).tpc, inTrap := false }) s

/-- ILLEGAL_INSTRUCTION (R353, R355): an opcode, func or cond not listed traps with cause 1; a word that the
instruction RAM cannot give back is an engine failure (R357). -/
def execIllegalInstruction (e : Fin 9) (m : MemObs) (s : State) : Host.Outcome State Fault Refusal :=
  instruct e (fun st => localRead e (engOf st e).pc.toNat m (trapFree e 1) st) s

end Sys2Proof.Machine
end

