-- ==== Sys2Proof/Machine/BeamProfile.lean ====
section
/-!
DEFINITION. The stock beam-function profile (R373): what the stock firmware derives from the entries 0x6000 to 0x6020 while `beam.mode` is STOCK:
staged layer entries for L0 to L3, and the dark boxes drawn into a mask surface.
-/

namespace Sys2Proof.Machine

/-- R309: a staged write; of two writes of one entry the later value stays. -/
def stage (s : State) (sess key v : Nat) : State :=
  { s with kdp := { s.kdp with staged := s.kdp.staged.filter (fun x => x.key != key) ++ [⟨key, v, sess⟩] } }

/-- A staged write of the stock firmware. -/
def stageAll (s : State) (l : List (Nat × Nat)) : State := l.foldl (fun st p => stage st 0 p.1 p.2) s

/-- A dark box of R373. -/
structure DarkBox where
  u : Int
  v : Int
  w : Int
  h : Int
  depth : Nat
  edge : Int
  active : Bool
  raw : Nat
  deriving DecidableEq, Repr

/-- Dark box `k`. -/
def darkBox (s : State) (k : Nat) : DarkBox :=
  let x := s.reg (Reg.beamBox k)
  ⟨toInt 16 (bits x 15 0), toInt 16 (bits x 31 16), bits x 47 32, bits x 63 48, bits x 79 64, (bits x 87 80 : Nat), bitAt x 88, x⟩

/-- The active boxes. -/
def darkBoxes (s : State) : List DarkBox := ((List.range 16).map (darkBox s)).filter (·.active)

/-- R176, R373: the LA88 sample a box gives a pixel: inside it the luminance kept, with full alpha; at a soft-edge pixel a free one between that and
full; outside none. The nearest 8-bit luminance stands for the depth (DESIGN CHOICE, log 57). -/
def boxSample (b : DarkBox) (u v : Nat) : Option Nat :=
  let inside (g : Int) : Bool := decide (b.u - g ≤ u) && decide ((u : Int) < b.u + b.w + g) && decide (b.v - g ≤ v) && decide ((v : Int) < b.v + b.h + g)
  let kept := Nat.min 255 ((b.depth * 255 + 32768) / 65536)
  if inside 0 then some kept
  else if inside b.edge then some (kept + Config.maskEdge b.raw u v % (256 - kept))
  else none

/-- The LA88 word of a mask pixel: transparent outside every box, the least luminance kept where boxes overlap (DESIGN CHOICE, log 57). -/
def maskWord (bs : List DarkBox) (u v : Nat) : Nat :=
  match bs.filterMap (fun b => boxSample b u v) with
  | [] => 0
  | x :: t => 0xFF00 + t.foldl Nat.min x

/-- The bytes of a mask tile. -/
def maskTile (bs : List DarkBox) (i : Nat) : List Byte :=
  (List.range 256).flatMap (fun q => bytesLE 2 (maskWord bs ((i % 128) * 16 + q % 16) ((i / 128) * 16 + q / 16)))

/-- The slot that holds a surface tile's newest content (R186, R271). -/
def newestTile (s : State) (c : Channel) (i : Nat) : TileRef :=
  let v := sideState s (.surface c i 0)
  .surface c i (if bitAt v 1 || bitAt v 2 then 1 - v % 2 else v % 2)

/-- The mask surface that the stock firmware holds for L1: the channel it created for its beam functions. -/
def maskChannel (s : State) : Option Channel := s.chans.live.find? (fun c => c.owner == some 1 && !c.destroyed)

/-- The mask surface, created when the first box becomes active: LA88, 2,048 × 512. -/
def wantMask (s : State) : Option Channel × State :=
  match maskChannel s with
  | some c => (some c, s)
  | none =>
    if (darkBoxes s).isEmpty then (none, s)
    else
      let (_, _, s1) := createChannel s (bytesLE 1 1 ++ bytesLE 1 3 ++ bytesLE 2 0 ++ bytesLE 2 2048 ++ bytesLE 2 512 ++ bytesLE 4 0) 0 (some 1)
      (maskChannel s1, s1)

/-- R370: whether the stock firmware's beam functions run: on W1, or on W2 in pair mode. -/
def beamRuns (s : State) : Bool := firmwareRuns s (if s.pair.active then 2 else 1)

/-- The tiles of the mask whose newest content differs from the boxes drawn; a tile whose flip is still to come is drawn with a later write or
commit request (log 57). -/
def drawMask (s : State) : State :=
  match wantMask s with
  | (none, s1) => s1
  | (some c, s1) =>
    let bs := darkBoxes s1
    let due := (List.range 4096).filter (fun i => !tileWaits s1 c i && tileData s1 (newestTile s1 c i) != maskTile bs i)
    due.foldl (fun st i => landLoose st c i (maskTile bs i)) (if due.isEmpty then s1 else owe 7 (9 * due.length) none s1)

/-- R373: L0 from `beam.base_handle` and `beam.bend_u`. -/
def baseEntries (s : State) : List (Nat × Nat) :=
  let h := s.reg Reg.beamBaseHandle
  let pos := match s.channel h with
    | some c => [(Reg.layerPosU 0, ofInt 16 ((2048 - (c.width : Int)) / 2 + s.int 16 Reg.beamBendU))]
    | none => []
  [(Reg.layerHandle 0, h), (Reg.layerVisible 0, b2n (h != 0)), (Reg.layerBlend 0, 0), (Reg.layerDstW 0, 0), (Reg.layerDstH 0, 0)] ++ pos

/-- R373: L1, the mask. -/
def maskEntries (s : State) : List (Nat × Nat) :=
  match maskChannel s with
  | some c => [(Reg.layerHandle 1, c.handle), (Reg.layerVisible 1, b2n (!(darkBoxes s).isEmpty)), (Reg.layerBlend 1, 2), (Reg.layerPriority 1, 15),
               (Reg.layerPosU 1, 0), (Reg.layerPosV 1, 0), (Reg.layerDstW 1, 0), (Reg.layerDstH 1, 0)]
  | none => [(Reg.layerVisible 1, 0)]

/-- R373: L2 and L3, the symbols. -/
def symbolEntries (s : State) (k : Nat) : List (Nat × Nat) :=
  let x := s.reg (Reg.beamSymbol k)
  let n := 2 + k
  [(Reg.layerHandle n, bits x 31 0), (Reg.layerPosU n, bits x 47 32), (Reg.layerPosV n, bits x 63 48), (Reg.layerGain n, bits x 79 64),
   (Reg.layerVisible n, bits x 80 80), (Reg.layerBlend n, 1)]

/-- R373: what follows a write of any profile entry in mode STOCK, before the answer: the mask regions and the derived layer entries. -/
def stageProfile (s : State) : State :=
  if s.reg Reg.beamMode = 1 && beamRuns s then
    let s1 := drawMask s
    let s2 := stageAll s1 (baseEntries s1 ++ maskEntries s1 ++ symbolEntries s1 0 ++ symbolEntries s1 1)
    s2.setReg (Reg.layerStalePolicy 1) 0
  else s

/-- R373: whether a key lies in the layer blocks that the stock firmware owns in mode STOCK. -/
def stockOwned (s : State) (key : Nat) : Bool := s.reg Reg.beamMode == 1 && decide (0x2410 ≤ key / 256) && decide (key / 256 ≤ 0x2413)

/-- Whether a key is an entry of the profile. -/
def inProfile (key : Nat) : Bool := decide (0x6000 ≤ key / 256) && decide (key / 256 < 0x7000)

end Sys2Proof.Machine
end

