-- ==== Sys2Proof/Machine/Import.lean ====
section
/-!
DEFINITION. The import of calibration (R459 to R461): the BLOB that receives the file, its checks and the writes to MRAM.
-/

namespace Sys2Proof.Machine

/-- The state of `cal.import_state` set, the file dropped. -/
def setImport (s : State) (state : Nat) : State := { s with cal := { s.cal with imp := ⟨state, 0, [], none, 0⟩ } }

/-- R460: the BLOB of an import destroyed. -/
def dropBlob (s : State) : State := if s.cal.imp.blob = 0 then s else (destroyChannel s s.cal.imp.blob).2

/-- The size of the BLOB for a file: the least multiple of 4,096 that holds it (R258; DEDUCED, log 70). -/
def importBlob (total : Nat) : Nat := Nat.max 4096 (ceilDiv total 4096 * 4096)

/-- R460: an import begins: the BLOB for `total` bytes, and RECEIVING; refused and REJECTED where the pool lacks the pages. -/
def beginImport (s : State) (total : Nat) : Bool × State :=
  match createChannel s (bytesLE 1 4 ++ bytesLE 7 0 ++ bytesLE 4 (importBlob total)) 0 none with
  | (0, h, s1) => (true, { s1 with cal := { s1.cal with imp := ⟨1, h, [], none, s.cal.imp.state⟩ } })
  | (_, _, s1) => (false, setImport s1 5)

/-- R460: whether an import's tiles lie beyond the array. -/
def importBeyond (file : List Byte) : Bool := decide (4096 < field file 16 2 + field file 18 2)

/-- R459: bytes of a file with its parts. -/
def importLength (file : List Byte) : Nat := importTileAt file (field file 18 2) + 4

/-- R460: a reserved field that is not 0: in the header, a field record or a binning word. -/
def importReserved (file : List Byte) : Bool :=
  let records := if bitAt (field file 6 2) 1 then List.range 32 else []
  decide (4 ≤ field file 6 2) || field file 20 44 != 0 || records.any (fun f => field file (64 + 16 * f + 10) 6 != 0) ||
  (List.range (field file 18 2)).any (fun i => (List.range 256).any (fun j => bitAt (field file (importTileAt file i + 4 * j) 4) 3))

/-- R459, R460: whether a received file passes its checks. -/
def importOk (s : State) (file : List Byte) : Bool :=
  let n := field file 18 2
  field file 0 4 == 0x4347594B && field file 4 2 == 0x0100 && field file 8 8 == s.reg Reg.idSerial && decide (1 ≤ n) && decide (n ≤ 4096) &&
  file.length == importLength file && !importReserved file &&
  field file (file.length - 4) 4 == crc32c (file.take (file.length - 4)) &&
  (List.range n).all (fun i => field file (importTileAt file i + 1024) 4 == crc32c (slice file (importTileAt file i) 1024))

/-- R460: the last segment has arrived: WRITING, with the session and request header that wait for the answer; or refused and REJECTED. -/
def endImport (s : State) (file : List Byte) (asker : Option (Nat × List Byte)) : Bool × State :=
  if importBeyond file ∨ !importOk s file then (false, setImport (dropBlob s) 5)
  else (true, { s with cal := { s.cal with imp := { s.cal.imp with state := 2, file := file, asker := asker } } })

/-- An import whose transfer is abandoned (R326) has changed nothing: its BLOB goes, and the state is as it was before. -/
def abandonImport (s : State) : State := if s.cal.imp.state = 1 then setImport (dropBlob s) s.cal.imp.before else s

/-- R460: every write of the import is in MRAM; it takes effect at the next start (R461). -/
def finishImport (s : State) : State :=
  let file := s.cal.imp.file
  let s1 := { s with mram := importWrites file (importWords file) s.mram }
  setImport (dropBlob s1) 3

end Sys2Proof.Machine
end

