-- ==== Sys2Proof/Machine/Shown.lean ====
section
/-!
DEFINITION. What a READ of each entry shows (R303 to R308): entries that a unit holds are computed from that unit, every other entry from the
register file; staged values, descriptors (R310, R539) and the addressing of the dictionary (R349).
-/

namespace Sys2Proof.Machine

/-- A voltage in volts as UINT16 millivolts. -/
def milli (x : Rat) : Nat := (clampI 0 65535 (roundQ (x * 1000))).toNat

/-- Identity of the running stock firmware (`id.fw_version`, `id.fw_image`); open under the recovery loader. -/
def showIdentity (s : State) (sub : Nat) : Option Nat :=
  match sub, bootedSlot s with
  | 6, some n => some (field (imageOf s n) 4 4)
  | 6, none => some (Config.openEntry Reg.idFwVersion % 4294967296)
  | 7, some n => some n
  | 7, none => some (Config.openEntry Reg.idFwImage % 256)
  | _, _ => none

/-- R335, R338: `unlock.state`. -/
def unlockState (s : State) : Nat := if s.mram.serviceKey.isNone then 0 else if s.kdp.blocked then 2 else 1

/-- R338: `unlock.block_s`. -/
def unlockBlock (s : State) : Nat := if s.kdp.blocked then Nat.min 65535 (ceilDiv (s.kdp.blockEnd - s.now) 1000000000) else 0

/-- R345: `can.state`. -/
def canState (s : State) (c : Nat) : Nat :=
  let k := canOf s c
  if k.mode = 2 then 3 else if k.busOff then 2 else b2n k.errorPassive

/-- The open sessions. -/
def openSessions (s : State) : List Nat := (List.range 8).filterMap (fun n => if (sessOf s (n + 1)).isOpen then some (n + 1) else none)

/-- Entries 0x1000 to 0x1FFF that a unit holds. -/
def showKdp (s : State) (index sub : Nat) : Option Nat :=
  match index, sub with
  | 0x1000, n => showIdentity s n
  | 0x1010, 4 => some (match bootCopy s with | some (_, x) => x.count | none => 0)
  | 0x1011, 3 => some (openSessions s).length
  | 0x1011, 4 => some s.kdp.keyholder
  | 0x1020, 12 => some (canState s 0)
  | 0x1021, 12 => some (canState s 1)
  | 0x1030, 4 => some (unlockState s)
  | 0x1030, 6 => some (unlockBlock s)
  | _, _ =>
    if 0x1041 ≤ index ∧ index ≤ 0x1048 then
      let n := index - 0x1040
      let x := sessOf s n
      match sub with
      | 1 => some (if !x.isOpen then 0 else if s.kdp.keyholder = n then 2 else 1)
      | 2 => some (if x.isOpen then x.transport else 0xFF)
      | 3 => some (b2n (x.isOpen && x.service))
      | 4 => some x.notifyMask.toNat
      | 5 => some x.notifyLost
      | _ => none
    else none

/-- Entries 0x2000 to 0x20FF (chapter 15). -/
def showPower (s : State) (index sub : Nat) : Option Nat :=
  match index, sub with
  | 0x2000, 1 => some s.power.device
  | 0x2000, 7 => some s.power.light
  | 0x2000, 8 => some (domainStateWord s)
  | 0x2000, 9 => some (pwrStatus s)
  | 0x2001, 1 => some (milli (s.real (Reg.adcChValue 0)))
  | 0x2001, 2 => some (milli s.adc.vledMean)
  | 0x2001, 3 => some s.power.vcoreMv
  | 0x2001, 4 => some (milli (s.real (Reg.adcChValue 5)))
  | 0x2001, 5 => some (milli (s.real (Reg.adcChValue 3) * s.real Reg.pwrVbatRatio))
  | 0x2002, 7 => some s.power.vT
  | 0x2007, 5 => some (inputStuckByte s)
  | _, _ => none

/-- Entries 0x2100 to 0x23FF (chapters 03, 04, 05). -/
def showScan (s : State) (index sub : Nat) : Option Nat :=
  match index, sub with
  | 0x2100, 6 => some (ratToF32 s.scan.kC)
  | 0x2100, 7 => some (scanNs s)
  | 0x2100, 8 => some s.scan.sweepNs
  | 0x2100, 9 => some s.scan.clip.toNat
  | 0x2110, 3 => some s.scan.sync.state
  | 0x2110, 4 => some (ofInt 32 s.scan.sync.trimPpm)
  | 0x2110, 6 => some s.scan.frameCount
  | 0x2120, 2 => some (commitStatus s)
  | 0x2200, 3 => some (lightPower s)
  | 0x2200, 4 => some (ratToF32 s.refs.kB)
  | 0x2206, f => some (ratToF32 (vget s.refs.rho 1 (f - 1)))
  | 0x2207, f => some (ratToF32 (vget s.refs.iref 120 (f - 1)))
  | 0x2300, 3 => some (diagStatusWord s)
  | 0x2300, 4 => some (inopCount s)
  | 0x2300, 5 => some s.lamp.twins.length
  | _, _ => none

/-- R181: the scaler that a slot holds since the last commit. -/
def layerScaler (s : State) (n : Nat) : Nat :=
  match s.pipe.scalers.findIdx? (· == n) with
  | some i => i
  | none => 0xFF

/-- `layer.state`. -/
def layerState (s : State) (n : Nat) : Nat :=
  if !boundVisible s s.reg n then 0
  else if vget s.pipe.cleared false n then 3
  else if bitAt s.pipe.staleMask n then 2
  else 1

/-- Entries 0x2400 to 0x24FF (chapter 06). -/
def showLayers (s : State) (index sub : Nat) : Option Nat :=
  match index, sub with
  | 0x2400, 6 => some (glazeSpan { s with commits := { s.commits with updates := Vector.replicate 8 none } } s.reg)
  | 0x2400, 7 => some s.pipe.staleMask
  | 0x2400, 8 => some s.pipe.refusedSlot
  | _, 0x13 => some (layerState s (index - 0x2410))
  | _, 0x14 => some (Nat.min 255 (vget s.pipe.stale 0 (index - 0x2410)))
  | _, 0x15 => some (layerScaler s (index - 0x2410))
  | _, _ => none

/-- Entries 0x2500 to 0x25FF (chapter 07). -/
def showLanes (s : State) (index sub : Nat) : Option Nat :=
  if index = 0x2500 then
    match sub with
    | 7 => some (linkStateByte s)
    | 8 => some (activeMask s)
    | 9 => some (if s.lanes.linkState = 2 then s.lanes.rate else 0xFF)
    | 11 => some (b2n s.lanes.absent)
    | _ => none
  else
    let x := laneAt s (index - 0x2510)
    match sub with
    | 1 => some x.state
    | 2 => some x.rung
    | 3 => some x.emi
    | 4 => some x.ctleDb
    | 5 => some (natLE (x.dfe.map (fun t => BitVec.ofInt 8 t)))
    | 6 => some x.preset
    | 7 => some x.partnerLane
    | 8 => some (b2n x.inverted)
    | _ => none

/-- Entries 0x2600 to 0x27FF (chapters 08, 09); `sess` is the session that reads, 0 for an engine. -/
def showStore (s : State) (sess index sub : Nat) : Option Nat :=
  match index, sub with
  | 0x2600, 2 => if sess = 0 then none else some (sessOf s sess).created
  | 0x2600, 3 => if sess = 0 then none else some (sessOf s sess).createResult
  | 0x2600, 5 => some s.chans.live.length
  | 0x2600, 6 => some (deferredCount s)
  | 0x2600, 7 => some (freePages s)
  | 0x2600, 12 => some (spareRowsMin s)
  | _, _ =>
    if 0x2610 ≤ index ∧ index ≤ 0x261F then
      let q := index - 0x2610
      let c := qCtl s q
      match sub with
      | 2 => some (qCount s q)
      | 3 => some c.lessees.length
      | 4 => some c.highWater
      | 5 => some c.dropped
      | 6 => some (queueBase + q * 65536)
      | _ => none
    else if 0x2720 ≤ index ∧ index ≤ 0x2727 ∧ sub = 7 then some (assayResult s (index - 0x2720))
    else none

/-- `eng.run_state` of an engine. -/
def runStateCode : RunState → Nat
  | .idle => 0 | .running => 1 | .standby => 2 | .failed => 3

/-- Entries 0x2800 to 0x28FF (chapter 11). -/
def showEngines (s : State) (index sub : Nat) : Option Nat :=
  match index, sub with
  | 0x2800, 8 => some (match bootedSlot s with | some n => n | none => 2)
  | 0x2801, n => some (runStateCode (engOf s (n - 1)).run)
  | 0x2822, 1 => some s.events.status.toNat
  | 0x2822, 5 => some s.events.stormMask.toNat
  | _, _ => none

/-- Entries 0x2900 to 0x29FF (chapter 12). -/
def showTherm (s : State) (index sub : Nat) : Option Nat :=
  let f := sub - 1
  match index, sub with
  | 0x2900, 1 => some (thermStatus s)
  | 0x2900, 6 => some s.therm.votedOut.toNat
  | 0x2900, 7 => some (ratToF32 (tempOf s (hottestField s)))
  | 0x2910, _ => some (ratToF32 (tempOf s f))
  | 0x2911, _ => some (bandOf s f)
  | 0x2912, _ => some (ratToF32 (vget s.refs.kT 1 f))
  | 0x2913, _ => some (ratToF32 (match vget s.therm.raw none f with | some t => t | none => -273))
  | 0x2920, _ => some (ratToF32 (((protOf s f).monitor : Rat) / 8))
  | _, _ => none

/-- `adc.slice_map` as a number of its 4 bytes. -/
def sliceMap (s : State) : Nat :=
  natLE ((List.range 4).map (fun k => match (convOf s k).slice with | some n => BitVec.ofNat 8 n | none => (0xFF : Byte)))

/-- R424: what the RO entries of the system groups G0 to G2 show of their configuration; the table's defaults stand for the rest (DEDUCED, log 58). -/
def systemGroup (g sub : Nat) : Option Nat :=
  match g, sub with
  | 0, 2 => some 1
  | 0, 3 => some (natLE [0, 1, 5, 15, 3])
  | 0, 4 => some 5
  | 0, 5 => some 1
  | 0, 6 => some 2000
  | 1, 2 => some 0xF
  | 1, 3 => some (natLE [13, 14])
  | 1, 4 => some 2
  | 1, 5 => some 1
  | 1, 6 => some 1000000
  | 2, 2 => some 2
  | 2, 3 => some (natLE [10, 11])
  | 2, 4 => some 2
  | g, 13 => if g < 3 then some 1 else none
  | _, _ => none

/-- Entries 0x2A00 to 0x2BFF (chapters 13, 14). -/
def showAdc (s : State) (index sub : Nat) : Option Nat :=
  match index, sub with
  | 0x2A00, 1 => some (adcStatusWord s)
  | 0x2A00, 2 => some (sliceMap s)
  | 0x2A00, 3 => some (match s.adc.spare with | some n => n | none => 0xFF)
  | 0x2A20, 7 => some s.adc.injState
  | 0x2B00, 1 => some (calStatusWord s)
  | 0x2B00, 13 => some (bgPickByte s)
  | 0x2B02, 2 => some s.cal.imp.state
  | _, n =>
    if 0x2A30 ≤ index ∧ index ≤ 0x2A37 then
      if n = 12 then some (adcgStateByte s (index - 0x2A30))
      else if index < 0x2A34 then systemGroup (index - 0x2A30) n
      else none
    else none

/-- Entries 0x2C00 to 0x2DFF (chapter 16). -/
def showFaults (s : State) (index sub : Nat) : Option Nat :=
  let seqOf (e : Option (List Byte)) : Nat := match e with | some b => field b 16 4 | none => 0
  match index, sub with
  | 0x2C00, 1 => some s.bist.last
  | 0x2C00, 5 => some s.bist.runMs
  | 0x2C00, 6 => some s.bist.returned
  | 0x2C00, 7 => some expectedSignature
  | 0x2C20, 3 => some (seqOf (ledgerEntries s.mram.ledger).head?)
  | 0x2C20, 4 => some (seqOf (ledgerEntries s.mram.ledger).getLast?)
  | 0x2C20, 5 => some s.mram.ledger.faults.length
  | 0x2D00, 6 => some s.lantern.state
  | 0x2D00, 7 => some s.lantern.cause
  | 0x2D00, 8 => some (b2n (lanternValid s 0) + 2 * b2n (lanternValid s 1))
  | 0x2D00, 10 => some (silentMs s)
  | _, _ => none

/-- The value that a unit holds for an entry, as a number of its bytes. -/
def shownNum (s : State) (sess key : Nat) : Option Nat :=
  let i := key / 256
  let n := key % 256
  match i / 256 with
  | 0x10 => showKdp s i n
  | 0x20 => showPower s i n
  | 0x21 => showScan s i n
  | 0x22 => showScan s i n
  | 0x23 => showScan s i n
  | 0x24 => showLayers s i n
  | 0x25 => showLanes s i n
  | 0x26 => showStore s sess i n
  | 0x27 => showStore s sess i n
  | 0x28 => showEngines s i n
  | 0x29 => showTherm s i n
  | 0x2A => showAdc s i n
  | 0x2B => showAdc s i n
  | 0x2C => showFaults s i n
  | 0x2D => showFaults s i n
  | _ => none

/-- R507: `ledger.entries`: up to 64 entries in SEQ order from `ledger.first`, from the oldest where that is older. -/
def ledgerWindow (s : State) : List Byte :=
  let l := s.mram.ledger
  let first := s.reg Reg.ledgerFirst
  let ahead (q : Nat) : Bool := decide ((q + 4294967296 - first) % 4294967296 < 2147483648)
  if !ahead l.next then [] else (((ledgerEntries l).filter (fun b => ahead (field b 16 4))).take 64).flatten

/-- The bytes of the larger entries that a unit holds. -/
def shownBytes (s : State) (key : Nat) : Option (List Byte) :=
  if key = Reg.ledgerEntries then some (ledgerWindow s)
  else if key = Reg.dumpImage then some (dumpImage s)
  else if key = Reg.bistRecord then some (bistRecordBytes s)
  else if key / 256 = 0x2B03 then some (trimBytes s (key % 256 - 1))
  else none

/-- R310, R372: whether every session has a copy of its own of an RW entry of a module. -/
def hasCopies (s : State) (key : Nat) : Bool := match s.modules.findSome? (fun m => rowIn m.rows key) with
  | some r => r.perSession && r.access == .rw
  | none => false

/-- The default of a session's copies. -/
def copyDefault (s : State) (key : Nat) : Nat := match rowOf s key with
  | some r => r.default
  | none => 0

/-- The present value of an entry, in its bytes (R303, R307). -/
def entryValue (s : State) (sess : Nat) (r : Row) (key : Nat) : List Byte :=
  match shownBytes s key with
  | some b => b
  | none =>
    match shownNum s sess key with
    | some v => bytesLE r.size v
    | none => bytesLE r.size (if sess ≠ 0 ∧ hasCopies s key then mapGet (copyDefault s) (sessOf s sess).copies key else s.reg key)

/-- R307: the staged value of an entry that no snapshot has yet taken. -/
def stagedValue (s : State) (key : Nat) : Option Nat := (s.kdp.staged.find? (fun x => x.key == key)).map (·.value)

/-- R336: a new challenge of a session: 16 random bytes. -/
def drawBytes : Nat → State → List Byte × State
  | 0, s => ([], s)
  | n + 1, s =>
    let (x, s1) := s.drawNat
    let (t, s2) := drawBytes n s1
    (BitVec.ofNat 8 x :: t, s2)

/-- A READ of an entry that exists by a session, or by an engine (`sess` 0), with or without STAGED: the status, the value, and the state after,
which a READ of a challenge (R336) and of a DONE injected request change. -/
def readEntry (s : State) (sess : Nat) (staged : Bool) (r : Row) (key : Nat) : Nat × List Byte × State :=
  if r.access = .wo then (2, [], s)
  else if key = Reg.unlockChallenge then
    if sess = 0 ∨ unlockState s ≠ 1 then (6, [], s)
    else
      let (b, s1) := drawBytes 16 s
      (0, b, setSess s1 sess { sessOf s1 sess with challenge := some (b, s1.now) })
  else if key = Reg.adcInjState ∧ s.adc.injState = 3 then (0, bytesLE 1 3, { s with adc := { s.adc with injState := 0 } })
  else
    match (if staged && r.access == .rc then stagedValue s key else none) with
    | some v => (0, bytesLE r.size v, s)
    | none => (0, entryValue s sess r key, s)

/-! ### Descriptors (R310, R539) -/

/-- Whether a write of an entry needs the service level, for the value written where that decides (R171, R314, R335, R369, R459), or whose
module declares it so (R310, R372). -/
def needsService (s : State) (key : Nat) (value : Option (List Byte)) : Bool :=
  if key = Reg.diagEnable then (match value with | some b => natLE b == 0 | none => false)
  else if key = Reg.unlockKey then s.mram.serviceKey.isSome
  else key = Reg.diagClear || key = Reg.dictRestore || key = Reg.engImageTarget || key = Reg.engImageWrite || key = Reg.engImageActivate ||
    key = Reg.engExtKeyHash || key = Reg.calImport || s.modules.any (fun m => m.service.contains key)

/-- A row as an entry has it: the entries of G0 to G3 are RO (chapter 13). -/
def ownRow (key : Nat) (r : Row) : Row := if 0x2A30 ≤ key / 256 ∧ key / 256 ≤ 0x2A33 then { r with access := .ro } else r

/-- R349, R368: the row that an entry's reader finds: under the recovery loader only the loader's own entries exist. -/
def rowFor (s : State) (key : Nat) : Option Row :=
  let i := key / 256
  let open_ := bootedSlot s != none || (decide (0x1000 ≤ i) && decide (i ≤ 0x1011)) || i == 0x1030 || (decide (0x1041 ≤ i) && decide (i ≤ 0x1048)) ||
    (i == 0x2800 && [5, 6, 7, 8, 9, 11].contains (key % 256))
  if open_ then (rowOf s key).map (ownRow key) else none

/-- The keys above one, in order: the next entry that exists. -/
def nextEntry (s : State) (key : Nat) : Option Nat :=
  let below (a b : Option Nat) : Option Nat := match a, b with
    | some x, some y => some (Nat.min x y)
    | some x, none => some x
    | none, y => y
  let rec go : Nat → Nat → Option Nat
    | 0, _ => none
    | n + 1, k =>
      match below (nextKeyIn dictRows k) ((s.modules.map (fun m => nextKeyIn m.rows k)).foldl below none) with
      | some x => if (rowFor s x).isSome then some x else go n x
      | none => none
  go 4096 key

/-- The NEXT fields after a key. -/
def nextFields (s : State) (key : Nat) : List Byte :=
  match nextEntry s key with
  | some k => bytesLE 2 (k / 256) ++ bytesLE 1 k ++ bytesLE 1 0
  | none => bytesLE 2 0xFFFF ++ bytesLE 2 0

/-- R310, R539: the descriptor of an entry. Under R303 a variable DOMAIN has SIZE 0; some write of diag.enable always needs the service level. -/
def descriptor (s : State) (r : Row) (key : Nat) : List Byte :=
  let service := key == Reg.diagEnable || needsService s key none
  let persist := r.persist != .no
  let access := 16 * b2n (r.perSession || (key / 256 == 0x2600 && (key % 256 == 2 || key % 256 == 3))) + 8 * b2n service + 4 * b2n persist + r.access.code
  bytesLE 1 r.type.code ++ bytesLE 1 access ++ bytesLE 2 (if r.type = .variable then 0 else r.size) ++
  r.boundBytes key false ++ r.boundBytes key true ++
  bytesLE 8 (if r.type.isDomain then 0 else if r.type.signed then ofInt 64 (toInt r.type.bits (r.defaultAt key)) else r.defaultAt key) ++
  nextFields s key

/-- R310: the descriptor that names the first entry. -/
def firstDescriptor (s : State) : List Byte := List.replicate 28 0 ++ nextFields s 0

end Sys2Proof.Machine
end

