-- ==== Sys2Proof/Machine/Entries.lean ====
section
/-!
DEFINITION. Writes of entries (R304 to R309, R540): who may write, the rules on the value, and what a write of each entry does. A writer is a
session 1 to 8, or 0 for the engines, which need neither key nor level (R309). Answers are a status of R321, a payload and the state after.
-/

namespace Sys2Proof.Machine

/-- An answer: status, response payload, state. -/
abbrev Answer := Nat × List Byte × State

/-- OK with an empty payload. -/
def ok (s : State) : Answer := (0, [], s)

/-! ### Rules on a value (R305, R540) -/

/-- Ranges between entries and of DOMAINs: `therm.derate_*` (chapter 12), `pwr.vled_*` (chapter 15), `adcg.channels`, `adcg.cap_words` and
`adc.inj_config` (chapter 13). -/
def crossRange (s : State) (key v : Nat) : Bool :=
  let n := key / 256 - 0x2A30
  if key = Reg.thermDerateStartC then decide (toInt 16 v + 10 ≤ s.int 16 Reg.thermDerateEndC)
  else if key = Reg.thermDerateEndC then decide (s.int 16 Reg.thermDerateStartC + 10 ≤ toInt 16 v)
  else if key = Reg.pwrVledMinMv then decide (v ≤ s.reg Reg.pwrVledMaxMv)
  else if key = Reg.pwrVledMaxMv then decide (s.reg Reg.pwrVledMinMv ≤ v)
  else if key = Reg.adcInjConfig then (List.range (bits v 9 8 + 1)).all (fun i => decide (bits v (14 + 5 * i) (10 + 5 * i) < 24))
  else if 0x2A34 ≤ key / 256 ∧ key / 256 ≤ 0x2A37 then
    if key = Reg.adcgChannels n then (parts 8 8 v).all (fun c => decide (c < 24))
    else if key = Reg.adcgCapWords n then
      match s.channel (s.reg (Reg.adcgCapHandle n)) with
      | some c => decide (4 * v ≤ c.size)
      | none => true
    else true
  else true

/-- The present frame period, as R83 and R85 take it. -/
def presentFrame (s : State) (key : Nat) : Nat :=
  if s.scan.running ∧ key = Reg.scanPeriodUs then s.scan.periodUs
  else if s.scan.running ∧ key = Reg.scanScansPerFrame then s.scan.scansThisFrame
  else s.reg key

/-- The rules on CAN entries (R344 and chapter 10): rates, identifier widths, identifiers that differ. -/
def canRefused (s : State) (c sub v : Nat) : Bool :=
  let get (k : Nat) : Nat := if k = sub then v else s.reg (256 * (0x1020 + c) + k)
  let ids := [get 8, get 9, get 10]
  get 3 < get 2 || (decide (7 ≤ sub) && decide (sub ≤ 10) &&
    (ids.any (fun i => decide ((if get 7 = 0 then 0x7FF else 0x1FFFFFFF) < i)) || ids.eraseDups.length != 3))

/-- R83, R85, R170, R249, R266, R279, R292, R344, R373, R419, R439, R504: whether a rule that depends on the state refuses a write. -/
def writeRefused (s : State) (sess : Nat) (r : Row) (key v : Nat) : Bool :=
  let i := key / 256
  (sess != 0 && stockOwned s key) || !frameRule (presentFrame s) key v ||
  (r.type == .handle && v != 0 && (match s.channel v with | some c => c.destroyed && key != Reg.chanDestroy | none => false)) ||
  (if key = Reg.laneEmiDrop then decide (s.reg Reg.laneEmiMin < v + 8)
   else if key = Reg.laneEmiMin then decide (v < s.reg Reg.laneEmiDrop + 8)
   else if i = 0x1020 ∨ i = 0x1021 then canRefused s (i - 0x1020) (key % 256) v
   else if 0x2610 ≤ i ∧ i ≤ 0x261F then !ringSize v || ringBusy s (i - 0x2610)
   else if 0x2720 ≤ i ∧ i ≤ 0x2727 then assayRefused s (i - 0x2720) (key % 256) v
   else if 0x2A34 ≤ i ∧ i ≤ 0x2A37 then
     if key % 256 = 14 then false
     else if key % 256 = 13 then v == 1 && !groupOn s (i - 0x2A30) && enableRefused s (i - 0x2A30)
     else groupOn s (i - 0x2A30)
   else if key = Reg.diagClear then clearRefused s v
   else if key = Reg.lanternRelease then releaseRefused s
   else false)

/-! ### The saved set (R311, R312, R314) -/

/-- R311, R372: the persistent RW and RC entries of the running modules with their values. -/
def moduleSet (s : State) : NatMap :=
  s.modules.flatMap (fun m => (m.rows.filter (fun r => r.persist == .saved && (r.access == .rw || r.access == .rc))).map (fun r =>
    (256 * r.index + r.sub, s.reg (256 * r.index + r.sub))))

/-- R311: what a save stores: every persistent RW and RC entry that differs from its default, with those of the modules; the ENGINE bits of
`evt.config` are not kept. -/
def saveSet (s : State) : NatMap :=
  moduleSet s ++ (s.regs.filter (fun p => match dictRow p.1 with | some r => r.persist == .saved && (r.access == .rw || r.access == .rc) | none => false)).map (fun p =>
    if 0x2820 = p.1 / 256 then (p.1, p.2 - bits p.2 23 16 * 65536) else p)

/-- R311: a save begins; `header` is the request that waits for its answer. -/
def beginSave (s : State) (sess : Nat) (header : List Byte) : State := { s with kdp := { s.kdp with saving := some (sess, header, saveSet s) } }

/-- R312: the set stored in its copy. -/
def storeSaved (s : State) (set : NatMap) : State :=
  let n := match bootCopy s with
    | some (_, x) => (x.count + 1) % 4294967296
    | none => 1
  { s with mram := { s.mram with saved := vset s.mram.saved (saveTarget s) (some ⟨n, set⟩) } }

/-- R314: both copies marked invalid. -/
def restoreDefaults (s : State) : State := { s with mram := { s.mram with saved := Vector.replicate 2 none } }

/-! ### Unlocking (R335 to R338) -/

/-- R337: the message of a response. -/
def unlockMessage (s : State) (sess : Nat) (challenge : List Byte) : List Byte := challenge ++ bytesLE 8 (s.reg Reg.idSerial) ++ bytesLE 1 sess

/-- R338: one more failed response, with E102 at the start of a block. -/
def unlockFails (s : State) : State :=
  let n := Nat.min 4294967295 (s.reg Reg.unlockFailCount + 1)
  let s1 := s.setReg Reg.unlockFailCount n
  if n < 3 then s1
  else
    let len := Nat.min 640 (10 * 2 ^ Nat.min 6 (n - 3))
    raise 102 (bytesLE 2 len) { s1 with kdp := { s1.kdp with blocked := true, blockEnd := s1.now + len * 1000000000 } }

/-- R336, R337: a response to the session's challenge, which is spent: OK with the service level, or LOCKED. -/
def unlockResponse (s : State) (sess : Nat) (mac : List Byte) : Answer :=
  let x := sessOf s sess
  let good : Bool := match x.challenge, s.mram.serviceKey with
    | some (c, t), some key => decide (s.now ≤ t + 10000000000) && mac == hmacSha256 key (unlockMessage s sess c)
    | _, _ => false
  let s1 := setSess s sess { x with challenge := none, service := x.service || good }
  if good then ok (s1.setReg Reg.unlockFailCount 0) else (6, [], unlockFails s1)

/-! ### Effects -/

/-- R384, R389, R390: the value that `evt.config` of a source takes: ENGINE stays, reserved bits are 0, a LIMIT that cannot be changed stays. -/
def evtConfigValue (s : State) (e v : Nat) : Nat :=
  let old := evConfig s e
  bits v 2 0 + 256 * (if eventUnlimited e then 15 else bits v 11 8) + 8192 * bits v 15 13 + 65536 * bits old 23 16

/-- What a new value of `can.mode` or of a bit-timing entry does (R344, R345). -/
def afterCan (s : State) (c sub v : Nat) : State :=
  if sub = 1 then releaseAll (canDrain (setCan s c { canOf s c with mode := v, busOff := false }) c) c
  else if 2 ≤ sub ∧ sub ≤ 10 then setCan s c { canOf s c with changePending := true }
  else s

/-- An RW entry's new value, with what it does at once beside being held. -/
def setEntry (s : State) (sess key v : Nat) : State :=
  let old := s.reg key
  let i := key / 256
  let n := key % 256
  let s1 := s.setReg key v
  if i = 0x1020 ∨ i = 0x1021 then afterCan s1 (i - 0x1020) n v
  else if 0x1041 ≤ i ∧ i ≤ 0x1048 then
    let x := sessOf s (i - 0x1040)
    if n = 4 ∧ x.isOpen then setSess s (i - 0x1040) { x with notifyMask := BitVec.ofNat 128 v } else s
  else if i = 0x2820 then s.setReg key (evtConfigValue s (n - 1) v)
  else if 0x2720 ≤ i ∧ i ≤ 0x2727 ∧ n = 1 then setAssayValue s1 (i - 0x2720) (s1.reg (Reg.assayValue (i - 0x2720)))
  else if 0x2720 ≤ i ∧ i ≤ 0x2727 ∧ n = 5 then setAssayValue s (i - 0x2720) v
  else if 0x2A34 ≤ i ∧ i ≤ 0x2A37 ∧ n = 13 then (if v = old then s else setGroupEnable s (i - 0x2A30) (v == 1))
  else if key = Reg.scanKcRelaxMs then startRelax s1.scan.kCFresh s1
  else if key = Reg.laneEnableMask then applyLaneMask s1 old
  else if key = Reg.pwrArrayMask then applyArrayMask s1 old
  else if inProfile key then stageProfile s1
  -- R498: the lockout's array shows the Lantern beam from now on
  else if key = Reg.lanternOnBistFail then (if old = 0 ∧ v ≠ 0 ∧ s1.flag Reg.bistLockout then lightLantern s1 0 else s1)
  else if sess = 0 then s1
  else if hasCopies s key then
    let x := sessOf s sess
    moduleNotice .rw (setSess s sess { x with copies := mapPut (copyDefault s) key v x.copies }) key
  else moduleNotice .rw s1 key

/-- R261: the result of a create as its writer reads it. -/
def showCreated (s : State) (sess code h : Nat) : State :=
  if sess = 0 then (s.setReg Reg.chanCreated h).setReg Reg.chanCreateResult code
  else setSess s sess { sessOf s sess with created := h, createResult := code }

/-- R261, R262: a create by a writer; where its fill takes more tokens of C7 than this period holds, its result and its answer come at the end of
the fill. -/
def createFor (s : State) (sess : Nat) (d header : List Byte) : State :=
  match placeChannel s d 0 none with
  | (code, none, s1) => showCreated s1 sess code 0
  | (_, some c, s1) =>
    let n := ceilDiv c.bytes 64
    if n ≤ tokensLeft s1 7 then showCreated (spend s1 7 n) sess 0 c.handle else owe 7 n (some ⟨sess, header, c.handle⟩) s1

/-- R76 to R83, R236, R322, R373: a commit requested through `commit.request`, or by a SET_COMMIT with the sets that it flips itself. -/
def commitFor (s : State) (tag : Nat) (extra : List (Nat × Nat)) : CommitAnswer × State :=
  requestCommit (if s.reg Reg.beamMode = 1 && beamRuns s then drawMask s else s) tag extra

/-- R460: a whole file written at once; the answer waits for the end of the writes. -/
def importWhole (s : State) (sess : Nat) (file header : List Byte) : Answer :=
  if s.cal.imp.state = 2 then (8, [], s)
  else match beginImport s file.length with
    | (false, s1) => (8, [], s1)
    | (true, s1) => match endImport s1 file (some (sess, header)) with
      | (true, s2) => ok s2
      | (false, s2) => (8, [], s2)

/-- The action of a WO entry (R304). -/
def actEntry (s : State) (sess key v : Nat) (b header : List Byte) : Answer :=
  let i := key / 256
  if key = Reg.commitRequest then
    let (a, s1) := commitFor s v []
    if a.reason = 0 then ok s1 else (9, bytesLE 1 a.reason, s1)
  else if key = Reg.driveRecompute then ok (recomputeDrive s)
  else if key = Reg.diagClear then ok (clearFault s v)
  else if key = Reg.chanCreate then ok (createFor s sess b header)
  else if key = Reg.chanDestroy then
    match destroyChannel s v with
    | (true, s1) => ok s1
    | (false, s1) => (if (s.channel v).isSome then 8 else 7, [], s1)
  else if 0x2710 ≤ i ∧ i ≤ 0x271F then ok (learnRect s (i - 0x2710))
  else if 0x2720 ≤ i ∧ i ≤ 0x2727 then ok (resetAssay s (i - 0x2720))
  else if key = Reg.dictSave then ok (beginSave s sess header)
  else if key = Reg.dictRestore then ok (restoreDefaults s)
  else if key = Reg.unlockResponse then (if sess = 0 then (6, [], s) else unlockResponse s sess b)
  else if key = Reg.unlockKey then ok { s with mram := { s.mram with serviceKey := some b } }
  else if key = Reg.engImageWrite then ok (writeImage (beginImage s) b)
  else if key = Reg.engImageActivate then
    match activateImage s with
    | (true, s1) => ok s1
    | (false, s1) => (8, [], s1)
  else if key = Reg.engExtKeyHash then ok (s.setReg key v)
  else if key = Reg.evtClear then ok (clearEvents s (BitVec.ofNat 128 v))
  else if key = Reg.adcInjRequest then ok (if domainOn s 7 then injectRequest s else s)
  else if 0x2A34 ≤ i ∧ i ≤ 0x2A37 then ok (fireGroup s (i - 0x2A30))
  else if key = Reg.calImport then importWhole s sess b header
  else if key = Reg.pwrRequest then
    match requestPower s v with
    | (.ok, s1) => ok s1
    | (.range, s1) => (3, [], s1)
    | (.refused, s1) => (8, [], s1)
  else if key = Reg.dumpClear then ok (clearDump s)
  else if key = Reg.lanternRelease then ok (releaseLantern s)
  else if key = Reg.lanternCommand then ok (lightLantern s 5)
  else ok (if sess = 0 then s.setReg key v else moduleNotice .wo (s.setReg key v) key)

/-- R331, R540: the checks of a write up to BUSY; `b` is the value, absent at the start of a segmented write. -/
def writeGate (s : State) (sess : Nat) (staged : Bool) (r : Row) (key : Nat) (b : Option (List Byte)) : Nat × List Byte :=
  let own := !staged && sess != 0 && key == Reg.sessionNotifyMask (sess - 1)
  if (if staged then r.access != .rc else r.access != .rw && r.access != .wo) then (2, [])
  else if sess ≠ 0 ∧ s.kdp.keyholder ≠ sess ∧ !own then (5, bytesLE 1 s.kdp.keyholder)
  else if sess ≠ 0 ∧ ((needsService s key b && !(sessOf s sess).service) || (key == Reg.unlockResponse && s.kdp.blocked)) then (6, [])
  else if (key = Reg.dictSave ∨ key = Reg.dictRestore) ∧ s.kdp.saving.isSome then (0xA, [])
  else (0, [])

/-- R7, R305, R306, R540: a whole write or staged write of a value, checks and effect. `header` is kept where the answer comes later (R322). -/
def writeEntry (s : State) (sess : Nat) (staged : Bool) (key : Nat) (b header : List Byte) : Answer :=
  match rowFor s key with
  | none => (1, [], s)
  | some r =>
    let v := heldBits key (natLE b)
    let gate := writeGate s sess staged r key (some b)
    if gate.1 ≠ 0 then (gate.1, gate.2, s)
    else if (if r.type = .variable then decide (r.size < b.length) else b.length != r.size) then (4, [], s)
    else if staged then (if sess ≠ 0 ∧ stockOwned s key then (8, [], s) else ok (stage s sess key v))
    else if !r.inRange key v || !crossRange s key v then (3, [], s)
    else if r.type = .handle ∧ v ≠ 0 ∧ key ≠ Reg.chanDestroy ∧ (s.channel v).isNone then (7, [], staleHandle s v 2)
    else if writeRefused s sess r key v then (8, [], s)
    else if r.access = .wo then actEntry s sess key v b header
    else ok (setEntry s sess key v)

end Sys2Proof.Machine
end

