-- ==== Sys2Proof/Machine/Kdp.lean ====
section
/-!
DEFINITION. The dictionary service (R315 to R339): requests with their SEQ and status, the services, segmented transfers, HEARTBEAT with its flags,
sessions and the writing key. A command that names a request stands for its frame as the service takes it from its queue.
-/

namespace Sys2Proof.Machine

/-- A request of a host (R315). -/
structure Request where
  transport : Nat
  session : Nat
  seq : Nat
  svc : Nat
  key : Nat
  flags : Nat
  payload : List Byte
  /-- What the service's reads of its entry on the queue find (R254). -/
  ecc : List EccFinding
  deriving DecidableEq, Repr

/-- R316, R368: whether the recovery loader serves the dictionary. -/
def recovery (s : State) : Bool := (engOf s 0).run == .running && (engOf s 0).image == 0xFF

/-- R322, R368, R370: whether requests of a transport are served: by the stock firmware on W2, or by the recovery loader on CAN A and SPI. -/
def serves (s : State) (t : Nat) : Bool := firmwareRuns s 2 || (recovery s && (t == 0 || t == 2))

/-- R324: the payload bytes that a frame of a transport holds. -/
def frameLimit (t : Nat) : Nat := if t < 2 then 50 else 2034

/-- R315, R316: the bytes of a host's frame. -/
def hostFrame (s : State) (q : Request) : List Byte :=
  let h := bytesLE 1 (q.svc % 16) ++ bytesLE 1 q.seq ++ bytesLE 1 q.session ++ bytesLE 1 0 ++ bytesLE 2 (q.key / 256) ++ bytesLE 1 q.key ++ bytesLE 1 0 ++
    bytesLE 2 q.payload.length ++ bytesLE 1 q.flags ++ bytesLE 1 0 ++ q.payload
  h ++ bytesLE 2 (crc16 (bytesLE 2 (dataId s q.transport false) ++ h))

/-! ### Frames as the service takes them (R7, R315, R317) -/

/-- R317: whether LEN matches the bytes received: exactly on SPI, up to the padding of a KDP packet on the lanes; CAN ignores what follows. -/
def lenOk (t : Nat) (f : List Byte) : Bool :=
  let n := 14 + field f 8 2
  decide (14 ≤ f.length) && decide (n ≤ f.length) && decide (n ≤ 2048) && (decide (t < 2) || n == f.length || (t == 3 && decide (f.length < n + 4)))

/-- R317: LEN, the direction and the CRC with the data ID. -/
def frameSound (s : State) (t : Nat) (f : List Byte) : Bool :=
  let n := 12 + field f 8 2
  lenOk t f && decide (field f 0 1 < 128) && field f n 2 == crc16 (bytesLE 2 (dataId s t false) ++ f.take n)

/-- The FLAGS bits that a service defines (R304, R307, R310, R324, R332); the others are reserved. -/
def definedFlags : Nat → Nat
  | 1 => 13 | 2 => 1 | 3 => 1 | 5 => 2 | 7 => 63 | _ => 0

/-- A request without what R7 ignores: the reserved flags, and the entry of a service that names none (R315). -/
def Request.essence (q : Request) : Request :=
  { q with flags := q.flags &&& definedFlags q.svc, key := if 1 ≤ q.svc ∧ q.svc ≤ 3 then q.key else 0, ecc := [] }

/-- R7, R315: the request that a frame holds; its reserved bits are ignored. -/
def frameRequest (t : Nat) (f : List Byte) : Request :=
  Request.essence ⟨t, field f 2 1, field f 1 1, field f 0 1 % 16, 256 * field f 4 2 + field f 6 1, field f 10 1, slice f 12 (field f 8 2), []⟩

/-- Whether a row of the opcode table commands the request: the rows of READ and HEARTBEAT carry no payload, that of COMMIT one byte, those that start
a transfer none or four, SEGMENT at least its OFFSET. -/
def commanded (q : Request) : Bool :=
  match q.svc with
  | 1 => q.payload.isEmpty && [0, 1, 4, 8].contains q.flags
  | 2 => q.flags == 0 || q.payload.length == 4
  | 3 => q.flags == 0 || q.payload.length == 4
  | 4 => q.payload.length == 1
  | 5 => decide (4 ≤ q.payload.length)
  | 7 => q.payload.isEmpty
  | _ => false

/-! ### Receive buffers (R340) -/

/-- The queue of a transport's frames. -/
def rxQueue (t : Nat) : Nat := match t with | 0 => 2 | 1 => 3 | _ => 0

/-- R340: the entry of KIND 0x0A01 of a received frame, or its wait where the queue is full (R278). -/
def postFrame (s : State) (t buf len : Nat) : State :=
  let q := rxQueue t
  let x := transOf s t
  if qFull s q || !x.rxHeld.isEmpty then setTrans s t { x with rxHeld := x.rxHeld ++ [buf] }
  else qPut s q (qEntry s q 0x0A01 (bytesLE 1 t ++ bytesLE 1 buf ++ bytesLE 2 len))

/-- The frames whose entry waited, posted as the queue allows. -/
def postHeld : Nat → State → Nat → State
  | 0, s, _ => s
  | n + 1, s, t =>
    let x := transOf s t
    match x.rxHeld with
    | [] => s
    | b :: rest =>
      if qFull s (rxQueue t) then s
      else
        let q := rxQueue t
        postHeld n (setTrans (qPut s q (qEntry s q 0x0A01 (bytesLE 1 t ++ bytesLE 1 b ++ bytesLE 2 ((x.rx.lookup b).getD []).length))) t
          { x with rxHeld := rest }) t

/-- R278: the frames that wait for a queue, posted as far as it has space. -/
def postWaiting (q : Nat) (s : State) : State := [0, 1, 2, 3].foldl (fun st k => if rxQueue k = q then postHeld 8 st k else st) s

/-- R340: the entry at the front of a queue popped and acknowledged, and its buffer returned to its transport. -/
def popFrame (s : State) (q t buf : Nat) : State :=
  let x := transOf s t
  postWaiting q (setTrans (qTake s q).2 t { x with rx := x.rx.filter (fun b => b.1 != buf) })

/-- R340: the frame that the front entry of a queue names: transport, buffer, bytes. -/
def frontFrame (s : State) (q : Nat) : Option (Nat × Nat × List Byte) :=
  match qNext s q with
  | some seq =>
    let e := qBytes s q seq
    let t := field e 8 1
    let b := field e 9 1
    if field e 0 2 = 0x0A01 ∧ t < 4 then ((transOf s t).rx.lookup b).map (fun f => (t, b, f)) else none
  | none => none

/-- A request taken from the front of its transport's queue, where the frame there holds it; a request that no frame brought stands for its own
arrival. -/
def takeFrame (s : State) (r : Request) : Bool × State :=
  match frontFrame s (rxQueue r.transport) with
  | some (t, b, f) => if t = r.transport ∧ frameSound s t f ∧ frameRequest t f = r.essence then (true, popFrame s (rxQueue t) t b) else (false, s)
  | none => (false, s)

/-! ### Responses (R318, R320, R329) -/

/-- R317: E98, at most once in a frame for each transport and cause. -/
def checkEvent (s : State) (cause t : Nat) : State :=
  if bitAt s.kdp.raised (2 * t + cause) then s
  else raise 98 (bytesLE 1 cause ++ bytesLE 1 t) { s with kdp := { s.kdp with raised := setBit s.kdp.raised (2 * t + cause) true } }

/-- R329: an answer outside a session: SESSION and REQ_SEQ echoed, SEQ 0. -/
def answerRaw (s : State) (q : Request) (session status : Nat) (payload : List Byte) : State :=
  sendFrame s q.transport (kdpFrame s q.transport q.svc 0 session q.seq q.key status payload)

/-- R320: a response in a session with the device's next SEQ; `keep` says that it answers the request that s_last names. -/
def respond (s : State) (n svc reqSeq key status : Nat) (payload : List Byte) (keep : Bool) : State :=
  let x := sessOf s n
  let f := kdpFrame s x.transport svc x.devSeq.toNat n reqSeq key status payload
  let s1 := setSess s n { x with devSeq := x.devSeq + 1, lastResponse := if keep then f else x.lastResponse }
  sendFrame s1 x.transport f

/-! ### The key (R331 to R333) and the end of sessions (R330) -/

/-- R332, R333: the staged writes of a session that no snapshot has taken, discarded. -/
def discardStaged (s : State) (n : Nat) : State := { s with kdp := { s.kdp with staged := s.kdp.staged.filter (fun x => x.session != n) } }

/-- R333: the keyholder loses the key. -/
def dropKey (s : State) : State :=
  let s1 := discardStaged s s.kdp.keyholder
  if s.kdp.keyholder = 0 then s else { s1 with kdp := { s1.kdp with keyholder := 0 } }

/-- R326: an unfinished transfer abandoned. -/
def abandonTransfer (s : State) (n : Nat) : State :=
  let x := sessOf s n
  match x.transfer with
  | some t =>
    let s1 := setSess s n { x with transfer := none }
    if t.write && t.key == Reg.calImport then abandonImport s1 else s1
  | none => s

/-- The answers that wait for a session are its own no more (R342). -/
def orphanAnswers (s : State) (n : Nat) : State :=
  let own (m : Nat) : Nat := if m = n then 0 else m
  { s with
    kdp := { s.kdp with saving := s.kdp.saving.map (fun x => (own x.1, x.2)) }
    cal := { s.cal with imp := { s.cal.imp with asker := s.cal.imp.asker.map (fun x => (own x.1, x.2)) } }
    tolls := { s.tolls with owed := s.tolls.owed.map (fun o => { o with report := o.report.map (fun r => { r with session := own r.session }) }) } }

/-- R330: a session closed: it loses its key, service level, transfer and notify mask. -/
def closeSession (s : State) (n : Nat) : State :=
  let s1 := orphanAnswers (abandonTransfer s n) n
  let s2 := if s1.kdp.keyholder = n then dropKey s1 else s1
  setSess s2 n State.sessionReset

/-! ### Services -/

/-- R303, R307, R310, R325: READ with its flags. -/
def serveRead (s : State) (q : Request) : Answer :=
  let n := q.session
  if bitAt q.flags 3 ∧ q.key = 0 then
    (if s.kdp.saving.isSome then (0xA, [], s) else if !q.payload.isEmpty then (4, [], s) else (0, firstDescriptor s, s))
  else match rowFor s q.key with
    | none => (1, [], s)
    | some r =>
      let done := bitAt q.flags 3
      if !done && r.access == .wo then (2, [], s)
      else if !done && q.key == Reg.unlockChallenge && unlockState s != 1 then (6, [], s)
      else if s.kdp.saving.isSome then (0xA, [], s)
      else if !q.payload.isEmpty then (4, [], s)
      else if done then (0, descriptor s r q.key, s)
      else
        let (status, v, s1) := readEntry s n (bitAt q.flags 2) r q.key
        if status ≠ 0 then (status, [], s1)
        else if bitAt q.flags 0 then
          (0, bytesLE 4 v.length, setSess s1 n { sessOf s1 n with transfer := some ⟨false, false, q.key, v.length, v, 0, none⟩ })
        else if frameLimit q.transport < v.length then (4, [], s)
        else (0, v, s1)

/-- R324: the start of a segmented write. -/
def startTransfer (s : State) (q : Request) (staged : Bool) : Answer :=
  match rowFor s q.key with
  | none => (1, [], s)
  | some r =>
    let gate := writeGate s q.session staged r q.key none
    let total := natLE q.payload
    if gate.1 ≠ 0 then (gate.1, gate.2, s)
    else if s.kdp.saving.isSome then (0xA, [], s)
    else if q.payload.length ≠ 4 ∨ (if r.type = .variable then r.size < total else total ≠ r.size) then (4, [], s)
    else
      let begun (st : State) : Answer := ok (setSess st q.session { sessOf st q.session with transfer := some ⟨true, staged, q.key, total, [], 0, none⟩ })
      if q.key = Reg.calImport then
        if s.cal.imp.state = 2 then (8, [], s)
        else match beginImport s total with
          | (true, s1) => begun s1
          | (false, s1) => (8, [], s1)
      else begun s

/-- What a deferred answer keeps of its request: service, SEQ, entry, transport and session. -/
def requestHeader (q : Request) : List Byte :=
  bytesLE 1 q.svc ++ bytesLE 1 q.seq ++ bytesLE 3 q.key ++ bytesLE 1 q.transport ++ bytesLE 1 q.session

/-- R304 to R306, R324: WRITE and WRITE_STAGED. -/
def serveWrite (s : State) (q : Request) (staged : Bool) : Answer :=
  if bitAt q.flags 0 then startTransfer s q staged
  else match rowFor s q.key with
    | none => (1, [], s)
    | some r =>
      let gate := writeGate s q.session staged r q.key (some q.payload)
      if gate.1 ≠ 0 then (gate.1, gate.2, s)
      else if s.kdp.saving.isSome then (0xA, [], s)
      else writeEntry s q.session staged q.key q.payload (requestHeader q)

/-- R323: COMMIT, a write of `commit.request`. -/
def serveCommit (s : State) (q : Request) : Answer :=
  if (rowFor s Reg.commitRequest).isNone then (1, [], s)
  else if s.kdp.keyholder ≠ q.session then (5, bytesLE 1 s.kdp.keyholder, s)
  else if s.kdp.saving.isSome then (0xA, [], s)
  else if q.payload.length ≠ 1 then (4, [], s)
  else
    let (a, s1) := commitFor s (natLE q.payload) []
    (if a.reason = 0 then 0 else 9,
     bytesLE 1 a.reason ++ bytesLE 1 (b2n a.late + 2 * b2n a.merged) ++ bytesLE 2 0 ++ bytesLE 4 a.target, s1)

/-- R324: what a late answer to the last SEGMENT keeps: the request, and the next OFFSET. -/
def segmentHeader (q : Request) (value : List Byte) : List Byte := requestHeader { q with key := 0 } ++ bytesLE 4 value.length

/-- R324: the value of a segmented write is complete. -/
def finishTransfer (s : State) (q : Request) (t : Transfer) (value : List Byte) : Answer :=
  if t.key = Reg.calImport then
    match endImport s value (some (q.session, segmentHeader q value)) with
    | (true, s1) => ok s1
    | (false, s1) => (8, [], s1)
  else if t.key = Reg.engImageWrite then ok (writeImage (beginImage s) value)
  else writeEntry s q.session t.staged t.key value (segmentHeader q value)

/-- R324 to R326: SEGMENT. -/
def serveSegment (s : State) (q : Request) : Answer :=
  let n := q.session
  let x := sessOf s n
  match x.transfer with
  | none => (0xC, [], s)
  | some t =>
    let off := field q.payload 0 4
    let data := q.payload.drop 4
    if 4 ≤ q.payload.length ∧ off ≠ t.next ∧ (t.write ∨ t.prev ≠ some off) then (0xC, [], abandonTransfer s n)
    else if t.write ∧ s.kdp.keyholder ≠ n ∧ (t.staged ∨ t.key ≠ Reg.sessionNotifyMask (n - 1)) then (5, bytesLE 1 s.kdp.keyholder, s)
    else if s.kdp.saving.isSome then (0xA, [], s)
    else if q.payload.length < 4 ∨ (!t.write ∧ q.payload.length ≠ 6) then (4, [], s)
    else if !t.write then
      let k := Nat.min (Nat.min (natLE data) (t.total - off)) (frameLimit q.transport - 4)
      (0, bytesLE 4 off ++ slice t.data off k, setSess s n { x with transfer := some { t with next := off + k, prev := some off } })
    else
      let stop := off + data.length
      let last := bitAt q.flags 1
      if t.total < stop ∨ (last ∧ stop ≠ t.total) then (4, [], abandonTransfer s n)
      else
        -- R460: an import's bytes go into its BLOB
        let s1 := match (if t.key = Reg.calImport then s.channel s.cal.imp.blob else none) with
          | some c => chanWrite (owe 7 (ceilDiv data.length 64) none s) c off data
          | none => s
        if t.key = Reg.calImport ∧ 20 ≤ stop ∧ importBeyond (t.data ++ data) then
          -- R460: refused as soon as the header has come (log 140)
          (8, [], setImport (dropBlob (setSess s1 n { x with transfer := none })) 5)
        else if last then
          let (status, p, s2) := finishTransfer (setSess s1 n { x with transfer := none }) q t (t.data ++ data)
          (status, if status = 0 then bytesLE 4 stop else p, s2)
        else (0, bytesLE 4 stop, setSess s1 n { x with transfer := some { t with data := t.data ++ data, next := stop } })

/-- R332: the HEARTBEAT response: keyholder, level, device state, `frame.count`. -/
def heartbeatPayload (s : State) (n : Nat) : List Byte :=
  bytesLE 1 s.kdp.keyholder ++ bytesLE 1 (b2n (n != 0 && (sessOf s n).service)) ++ bytesLE 1 s.power.device ++ bytesLE 1 0 ++ bytesLE 4 s.scan.frameCount

/-- R332: FORCE with TAKE_KEY: the key of another session. -/
def forceKey (s : State) (n : Nat) : State :=
  let prev := s.kdp.keyholder
  let s1 := dropKey s
  raise 103 (bytesLE 1 n ++ bytesLE 1 prev) { s1 with kdp := { s1.kdp with keyholder := n } }

/-- R332: the flags of a HEARTBEAT in their order; CLOSE is acted on after the response. -/
def serveHeartbeat (s : State) (n flags : Nat) : Nat × State :=
  if bitAt flags 4 then (0, s)
  else
    let take := bitAt flags 0
    let held (st : State) : Bool := st.kdp.keyholder != 0 && st.kdp.keyholder != n
    let s1 := if bitAt flags 5 then setSess s n { sessOf s n with service := false } else s
    let s2 := if bitAt flags 3 then discardStaged s1 n else s1
    if bitAt flags 2 ∧ take ∧ held s2 ∧ !(sessOf s2 n).service then (6, s2)
    else
      let s3 := if bitAt flags 2 && take && held s2 then forceKey s2 n else s2
      let s4 := if bitAt flags 1 && s3.kdp.keyholder == n then dropKey s3 else s3
      if take then
        if held s4 then (5, s4) else (0, { s4 with kdp := { s4.kdp with keyholder := n } })
      else (0, s4)

/-! ### Requests (R318, R328 to R330, R540) -/

/-- R328: a session opened, its device SEQ at 0, with the flags of the opening HEARTBEAT. -/
def openSession (s : State) (q : Request) : State :=
  -- R540: NOT_KEYHOLDER and LOCKED go before BUSY and LENGTH
  let gate := if !bitAt q.flags 4 ∧ bitAt q.flags 0 ∧ s.kdp.keyholder ≠ 0 then (if bitAt q.flags 2 then 6 else 5) else 0
  match (if s.kdp.saving.isSome then none else (List.range 8).find? (fun n => !(sessOf s (n + 1)).isOpen)) with
  | none => answerRaw s q 0 (if gate = 0 then 0xA else gate) []
  | some k =>
    if !q.payload.isEmpty then answerRaw s q 0 (if gate = 0 then 4 else gate) [] else
    let n := k + 1
    let s1 := setSess s n { State.sessionReset with isOpen := true, transport := q.transport, seqLast := BitVec.ofNat 8 q.seq, lastRequest := s.now }
    let s2 := if s1.kdp.keyholder = 0 then hostActive s1 else s1
    let (status, s3) := serveHeartbeat s2 n q.flags
    let s4 := respond s3 n 7 q.seq 0 status (heartbeatPayload s3 n) true
    if bitAt q.flags 4 then closeSession s4 n else s4

/-- A service executed in a session (R540 from NO_ENTRY on). -/
def serve (s : State) (q : Request) : Answer :=
  let n := q.session
  match q.svc with
  | 1 => serveRead (abandonTransfer s n) q
  | 2 => serveWrite (abandonTransfer s n) q false
  | 3 => serveWrite (abandonTransfer s n) q true
  | 4 => serveCommit (abandonTransfer s n) q
  | 5 => serveSegment s q
  | _ =>
    let (status, s1) := serveHeartbeat s n q.flags
    if status ≠ 0 then (status, heartbeatPayload s1 n, s1)
    else if s.kdp.saving.isSome then (0xA, heartbeatPayload s n, s)
    else if !q.payload.isEmpty then (4, heartbeatPayload s n, s)
    else (0, heartbeatPayload s1 n, s1)

/-- The creates whose answer waits for their fill (R262). -/
def openFills (s : State) : Nat := s.tolls.owed.countP (·.report.isSome)

/-- Whether the answer to what was just executed waits for the end of a save, of an import's writes or of a channel's fill (R262, R322). -/
def answerWaits (before after : State) : Bool :=
  (before.kdp.saving.isNone && after.kdp.saving.isSome) || (before.cal.imp.state != 2 && after.cal.imp.state == 2) ||
    decide (openFills before < openFills after)

/-- R318: a request of an open session whose SEQ is the next: executed and answered. A BUSY request is not executed and leaves s_last (DEDUCED, log 59). -/
def execute (s : State) (q : Request) : State :=
  let n := q.session
  let (status, payload, s1) := serve s q
  if status = 0xA then respond s n q.svc q.seq q.key status payload false
  else
    let s2 := setSess s1 n { sessOf s1 n with seqLast := BitVec.ofNat 8 q.seq, lastResponse := [] }
    if answerWaits s s2 then s2
    else
      let s3 := respond s2 n q.svc q.seq q.key status payload true
      if q.svc = 7 ∧ bitAt q.flags 4 then closeSession s3 n else s3

/-- R499: host activity of a session's request. -/
def activity (s : State) (n : Nat) : State := if s.kdp.keyholder = 0 ∨ s.kdp.keyholder = n then hostActive s else s

/-- R318, R328, R329: a request by its session and SEQ. -/
def handleRequest (q : Request) (s0 : State) : State :=
  let n := q.session
  if n = 0 ∧ q.svc = 7 then openSession s0 q
  else
    let x := sessOf s0 n
    if n = 0 ∨ 8 < n ∨ !x.isOpen ∨ x.transport ≠ q.transport then answerRaw s0 q n 0xD []
    else
      let s1 := setSess s0 n { x with lastRequest := s0.now }
      if x.seqLast = BitVec.ofNat 8 q.seq then
        let s2 := activity s1 n
        if x.lastResponse.isEmpty then s2 else sendFrame s2 q.transport x.lastResponse
      else if x.seqLast + 1 ≠ BitVec.ofNat 8 q.seq then
        respond (checkEvent (s1.bump Reg.kdpSeqErrors) 1 q.transport) n q.svc q.seq q.key 0xB [] false
      else execute (activity s1 n) q

/-- R321, R540: a request of an undefined service; s_last stays. -/
def unknownService (s : State) (q : Request) : State :=
  let x := sessOf s q.session
  if q.session = 0 ∨ 8 < q.session ∨ !x.isOpen ∨ x.transport ≠ q.transport then answerRaw s q q.session 0xE []
  else respond (setSess s q.session { x with lastRequest := s.now }) q.session q.svc q.seq q.key 0xE [] false

/-- What the service takes from the front of a queue on its own: an entry that names no frame, a frame that R317 discards, one with the service code of
a NOTIFY (log 192), one of an undefined service, and a request that no row of the opcode table commands. Any other waits for its command. -/
def serveQueue (q : Nat) : Nat → State → State
  | 0, s => s
  | k + 1, s =>
    match frontFrame s q with
    | none => if (qNext s q).isSome && firmwareRuns s 2 then serveQueue q k (postWaiting q (qTake s q).2) else s
    | some (t, b, f) =>
      let r := frameRequest t f
      if !serves s t then s
      else if !frameSound s t f then serveQueue q k (checkEvent ((popFrame s q t b).bump Reg.kdpCheckFail) 0 t)
      else if r.svc = 6 then serveQueue q k (popFrame s q t b)
      else if r.svc = 0 ∨ 7 < r.svc then serveQueue q k (unknownService (popFrame s q t b) r)
      else if commanded r then s
      else serveQueue q k (handleRequest r (popFrame s q t b))

/-- The queues of all transports. -/
def serveFrames (s : State) : State := [0, 2, 3].foldl (fun st q => serveQueue q (qCount st q + 8) st) s

/-- R318, R322, R328, R329: a request that the service takes from its queue; what then stands at the front is looked at. -/
def hostRequest (q : Request) (s : State) : State :=
  if !serves s q.transport || decide (frameLimit q.transport < q.payload.length) then s
  else match takeFrame (if (qNext s (rxQueue q.transport)).isSome then eccFindAll s q.ecc else s) q with
    | (true, s0) => serveFrames (handleRequest q s0)
    | (false, s0) => handleRequest q s0

/-- R324: the payload of an answer that was late: the next OFFSET where a SEGMENT waited for it. -/
def latePayload (header : List Byte) : List Byte := if field header 0 1 = 5 then slice header 7 4 else []

/-- R358: the end of the DICT_OP for which engine `e` has stalled. -/
def endDictOp (s : State) (e status : Nat) : State :=
  (List.range 9).foldl (fun st k =>
    if (engOf st k).stall = .dict e then setEng st k { engOf st k with stall := .none, dictStatus := BitVec.ofNat 32 status } else st) s

/-- R322, R342, R358: the answer to a request that waited (R262, R311, R460): in its session, or, where the session has closed meanwhile (n is then 0), on
the transport that carried the request as an answer outside a session. A header of one byte names the engine whose DICT_OP waited; the stock firmware's
own writes have none. -/
def lateAnswer (s : State) (n : Nat) (header : List Byte) (status : Nat) (payload : List Byte) : State :=
  if header.isEmpty then s
  else if header.length = 1 then endDictOp s (field header 0 1) status
  else if n = 0 then
    answerRaw s ⟨field header 5 1, 0, field header 1 1, field header 0 1, field header 2 3, 0, [], []⟩ (field header 6 1) status payload
  else respond s n (field header 0 1) (field header 1 1) (field header 2 3) status payload true

/-- R262: the fills that have drawn all their tokens: each create's result and its answer. -/
def finishFills (s : State) : State :=
  let done (o : Owed) : Bool := o.report.isSome && o.tokens == 0
  (s.tolls.owed.filterMap (fun o => if done o then o.report else none)).foldl
    (fun st r => lateAnswer (if r.session = 0 ∧ 1 < r.header.length then st else showCreated st r.session 0 r.handle) r.session r.header 0
      (latePayload r.header))
    { s with tolls := { s.tolls with owed := s.tolls.owed.filter (fun o => !done o) } }

/-! ### Commands as requests -/

/-- The request of a command's header. -/
def requestOf (h : Hdr) (svc key flags : Nat) (payload : List Byte) : Request :=
  ⟨h.transport, h.session.toNat, h.seq.toNat, svc, key, flags, payload, h.ecc⟩

/-- The key of an entry. -/
def entryKey (e : EntryRef) : Nat := 256 * e.index.toNat + e.sub.toNat

/-- R309, R370: a write by the stock firmware through its ports. -/
def firmwareWrite (staged : Bool) (key : Nat) (b : List Byte) (s : State) : State :=
  if [0, 1, 2, 3].any (firmwareRuns s) && !recovery s then (writeEntry s 0 staged key b []).2.2 else s

/-- A write of an entry by a session or by the stock firmware, staged for an RC entry. -/
def writeBy (w : Writer) (staged : Bool) (key : Nat) (b : List Byte) (s : State) : State :=
  match w with
  | .host h => hostRequest (requestOf h (if staged then 3 else 2) key 0 b) s
  | .firmware => firmwareWrite staged key b s

/-- Whether an entry is written by WRITE_STAGED (R304). -/
def stagedEntry (s : State) (key : Nat) : Bool := match rowOf s key with
  | some r => r.access == .rc
  | none => false

/-- The SEGMENTs of a value from an offset, each with as much as a frame holds and the next SEQ (R324). -/
def sendSegments : Nat → Hdr → Nat → List Byte → State → State
  | 0, _, _, _, s => s
  | n + 1, h, off, b, s =>
    let k := frameLimit h.transport - 4
    let last := decide (b.length ≤ k)
    let s1 := hostRequest (requestOf h 5 0 (2 * b2n last) (bytesLE 4 off ++ b.take k)) s
    if last then s1 else sendSegments n { h with seq := h.seq + 1 } (off + k) (b.drop k) s1

/-- R324: a value written by a segmented WRITE: the initiating request and its SEGMENTs. -/
def segmentedWrite (h : Hdr) (key : Nat) (b : List Byte) (s : State) : State :=
  let s1 := hostRequest (requestOf h 2 key 1 (bytesLE 4 b.length)) s
  sendSegments (b.length / 46 + 1) { h with seq := h.seq + 1 } 0 b s1

end Sys2Proof.Machine
end

