-- ==== Sys2Proof/Machine/Outputs.lean ====
section
/-!
DEFINITION. What an engine's instruction does outside the engine, each effect performed once, and pair mode (R382, R383): shared inputs, and outputs
released when both engines of the pair have produced them identically.
-/

namespace Sys2Proof.Machine

/-! ### The pair -/

/-- The engine that holds the moves and the deferred acknowledgements of the pair: the one that runs as 0; outside the pair the engine itself. -/
def holder (s : State) (e : Nat) : Nat := if inPair s e then ((runsAs s 0 ++ runsAs s 1).head?).getD e else e

/-- The running engines that an output of an engine completes: itself, and in pair mode its partner. -/
def members (s : State) (e : Nat) : List Nat :=
  if inPair s e then (match partner s e with | some o => [e, o] | none => [e]) else [e]

/-- An instruction completed with a result: its register (g0 for none), E where it sets it, and the next instruction. -/
def complete (e : Nat) (rd : Fin 32) (r : PairInput) (s : State) : State :=
  let x := engOf s e
  let fl := match r.e with
    | some b => { x.flags with e := b }
    | none => x.flags
  let x1 := match r.evdata with
    | some (d, t) => { x with evdata := d, evtime := t }
    | none => x
  setEng s e (({ x1 with stall := .none, flags := fl }.put rd r.value).next)

/-- A result that is a register value alone. -/
def result (v : Word) : PairInput := ⟨v, none, [], none⟩

/-- No result. -/
def noResult : PairInput := result 0

/-- R382: an input is performed once and given to both engines: `get` performs it, `use` takes it into an engine. Where `get` gives no value
(the engine traps or waits), its state is the whole effect. -/
def shared (e : Nat) (get : State → Option PairInput × State) (use : PairInput → State → State) (s : State) : State :=
  let held := if inPair s e then s.pair.inputs.find? (fun p => p.1 == e) else none
  match held with
  | some p => use p.2 { s with pair := { s.pair with inputs := s.pair.inputs.erase p } }
  | none => match get s with
    | (none, s1) => s1
    | (some v, s1) =>
      let s2 := match (if inPair s1 e then partner s1 e else none) with
        | some o => { s1 with pair := { s1.pair with inputs := s1.pair.inputs ++ [(o, v)] } }
        | none => s1
      use v s2

/-- R383: a pair mismatch halts both engines for their self-checks. -/
def pairMismatch (s : State) : State :=
  let s1 := clearPair s
  { s1 with pair := { s1.pair with checking := true } }

/-! ### Ports (R358) -/

/-- Whether a port may be stored to. -/
def portWritable (o : Nat) : Bool :=
  [0x10, 0x14, 0x24, 0x30, 0x34, 0x38, 0x3C, 0x50, 0x60, 0x64, 0x68, 0x6C, 0x70, 0x74, 0x78, 0x7C, 0x80, 0x84, 0xA0, 0xA4, 0xA8, 0xAC].contains o

/-- A port of an engine stored to: what the port holds. -/
def Engine.portPut (x : Engine) (now o : Nat) (v : Word) : Engine :=
  match o with
  | 0x10 => { x with wdogStart := now }
  | 0x14 => { x with tvec := v }
  | 0x24 => { x with flags := Flags.ofWord v }
  | 0x80 => { x with ckptBase := v }
  | 0x84 => { x with ckptLen := v }
  | 0xA0 => { x with dictEntry := v }
  | 0xA4 => { x with dictBuf := v }
  | 0xA8 => { x with dictLen := v }
  | _ =>
    if 0x30 ≤ o ∧ o ≤ 0x3C then
      let k := 8 * (o - 0x30)
      { x with evmask := BitVec.ofNat 128 (x.evmask.toNat - bits x.evmask.toNat (k + 31) k * 2 ^ k + v.toNat * 2 ^ k) }
    else if 0x60 ≤ o ∧ o ≤ 0x7C then
      let w := (o - 0x60) / 8
      if o % 8 = 0 then { x with winHandle := vset x.winHandle w v } else { x with winOffset := vset x.winOffset w v }
    else x

/-- R384, R358: a store to EVROUTE: the engine's ENGINE bit of an event set or cleared. -/
def routeEvent (s : State) (n : Nat) (v : Word) : State :=
  let k := v.toNat % 128
  s.setReg (Reg.evtConfig k) (setBit (evConfig s k) (16 + n) (bitAt v.toNat 7))

/-- A port stored to by an engine. -/
def portStore (o : Nat) (v : Word) (s : State) (e : Nat) : State :=
  let s1 := setEng s e ((engOf s e).portPut s.now o v)
  if o = 0x50 then routeEvent s1 (engOf s1 e).runsAs v else s1

/-! ### Effects performed once -/

/-- R276, R277: an entry pushed: SEQ and TIME are those of the push; the consumers of Q1, Q4 and Q15 are hardware and take it in the same step. -/
def enginePush (q : Nat) (b : List Byte) (s : State) : State :=
  let s1 := qPut s q (qEntry s q (field b 0 2) (b.drop 8))
  if q = 15 then (match qTake s1 15 with | (some x, s2) => feedEntry s2 x | (none, s2) => s2)
  else if q = 1 ∨ q = 4 then (qTake s1 q).2
  else s1

/-- R360: what an atomic writes, from the word at its address, rb and rd. -/
def atomicResult (op : Nat) (old rb rd : Word) : Word :=
  match op with
  | 0 => old + rb
  | 1 => rb
  | 2 => if old = rd then rb else old
  | 3 => old ||| rb
  | _ => old &&& rb

/-- R359: the area that a window of an engine maps and the byte that an address within the window names. -/
def windowAt (s : State) (e w o : Nat) : Nat × Nat :=
  ((vget (engOf s e).winHandle 0 w).toNat, (vget (engOf s e).winOffset 0 w).toNat + o)

/-- R358: a dictionary operation of an engine: its status, and the state with a value read in data RAM. A value that does not fit DICT_LEN's range or
data RAM is answered LENGTH (log 65). -/
def dictAct (e op : Nat) (key buf len : Nat) (value : List Byte) (s : State) : Nat × State :=
  if op = 1 ∨ op = 4 then
    match rowFor s key with
    | none => (1, s)
    | some r =>
      let (status, b, s1) := readEntry s 0 (op == 4) r key
      if status ≠ 0 then (status, s1)
      else if 2048 < b.length ∨ 65536 < buf + b.length then (4, s1)
      else (0, (members s1 e).foldl (fun st k => setEng st k { engOf st k with dictLen := BitVec.ofNat 32 b.length }) (dramWrite e buf b s1))
  else if 2048 < len ∨ 65536 < buf + len then (4, s)
  else let r := writeEntry s 0 (op == 3) key value (bytesLE 1 e); (r.1, r.2.2)

/-- R262, R311, R358, R460: whether a write of engine `e` waits for its end: a fill, a save, or an import. -/
def dictWaits (s : State) (e : Nat) : Bool :=
  let mine (h : List Byte) : Bool := h == bytesLE 1 e
  s.tolls.owed.any (fun o => o.report.any (fun r => mine r.header)) || s.kdp.saving.any (fun x => mine x.2.1) ||
    (s.cal.imp.state == 2 && s.cal.imp.asker.any (fun x => mine x.2))

/-- R358: an engine stalls until its DICT_OP is done; DICT_STATUS then has its end's status. -/
def holdDict (e : Nat) (o : EngineOutput) (s : State) : State :=
  match o with
  | .dict .. => if dictWaits s e then (members s e).foldl (fun st k => setEng st k { engOf st k with stall := .dict e }) s else s
  | _ => s

/-- R361 to R363: the status that the start of a move settles: 2, 3 or 4, or 0 for a move that may proceed. -/
def moveVerdict (s : State) (n : Nat) (d : List Byte) : Nat :=
  let so := field d 4 4
  let do_ := field d 12 4
  let len := field d 16 4
  match areaOf s (field d 0 4), areaOf s (field d 8 4) with
  | some a, some b =>
    if !a.readable n || !b.writable n then 3
    else if bitAt (field d 20 1) 1 then
      match a.tiles, b.tiles with
      | none, none => 4
      | some (t, k), none => if k < so + len ∨ b.size < (do_ + len) * t then 4 else 0
      | none, some (t, k) => if k < do_ + len ∨ a.size < (so + len) * t then 4 else 0
      | some (t, k), some (u, m) => if t ≠ u ∨ k < so + len ∨ m < do_ + len then 4 else 0
    else if len % 4 ≠ 0 ∨ len < 4 ∨ 16777216 < len ∨ a.size < so + len ∨ b.size < do_ + len then 4 else 0
  | _, _ => 2

/-- The stale handles of a move reported (R363). -/
def moveStale (s : State) (d : List Byte) : State :=
  [field d 0 4, field d 8 4].foldl (fun st h => if (areaOf st h).isNone then staleHandle st h 3 else st) s

/-- An output performed: its result, or none where it must wait (the engine is left waiting). -/
def perform (e : Nat) (o : EngineOutput) (s : State) : Option PairInput × State :=
  match o with
  | .store a w v =>
    match placeOf a with
    | .port k => (some noResult, (members s e).foldl (portStore k (BitVec.ofNat 32 v)) s)
    | .window k i =>
      let (h, off) := windowAt s e k i
      match chargeEngine e 1 s with
      | (false, s1) => (none, s1)
      | (true, s1) => (some noResult, match areaOf s1 h with | some (.chan c) => chanWrite s1 c off (bytesLE w v) | _ => s1)
    | _ => (some noResult, s)
  | .atomic op a rb rd =>
    match placeOf a with
    | .window k i =>
      let (h, off) := windowAt s e k i
      match chargeEngine e 1 s with
      | (false, s1) => (none, s1)
      | (true, s1) =>
        match areaOf s1 h with
        | some (.chan c) =>
          let old := BitVec.ofNat 32 (natLE (chanBytes s1 c off 4))
          (some (result old), chanWrite s1 c off (bytesLE 4 (atomicResult op old rb rd).toNat))
        | _ => (some noResult, s1)
    | _ => (some noResult, s)
  | .push q b =>
    if qFull s q then (some ⟨0, some true, [], none⟩, s)
    else match chargeEngine e 1 s with
      | (false, s1) => (none, s1)
      | (true, s1) => (some ⟨0, some false, [], none⟩, enginePush q b s1)
  | .ack q seq =>
    let k := holder s e
    let x := engOf s k
    (some noResult, if x.ckptLen ≠ 0 then setEng s k { x with heldAcks := x.heldAcks ++ [(q, seq)] } else postWaiting q (qAck s q seq))
  | .signal n d => (some noResult, raiseData n d s)
  | .move d =>
    let k := holder s e
    let x := engOf s k
    if 4 ≤ x.moves.length then (none, stallOn e .moves s)
    else
      let m : Move := ⟨x.nextMove, d, moveVerdict s x.runsAs d, 0, none⟩
      let s1 := setEng s k { x with moves := x.moves ++ [m], nextMove := x.nextMove + 1 }
      (some (result m.id), if m.refused = 2 then moveStale s1 d else s1)
  | .assay a b => (some noResult, assayAbsorb s a b)
  | .dict op entry buf len value =>
    let (status, s1) := dictAct e op (bits entry.toNat 23 0) buf.toNat len.toNat value s
    (some noResult, (members s1 e).foldl (fun st k => setEng st k { engOf st k with dictStatus := BitVec.ofNat 32 status }) s1)

/-- R382: an output of an engine; outside the pair it is performed at once. In the pair the first engine waits for the other's, which must be the same. -/
def emit (e : Nat) (o : EngineOutput) (rd : Fin 32) (s : State) : State :=
  if inPair s e then
    match s.pair.waiting with
    | none => stallOn e .pair { s with pair := { s.pair with waiting := some (e, o, rd, s.now) } }
    | some (f, p, rf, _) =>
      if p = o then
        match perform e o s with
        | (none, s1) => s1
        | (some r, s1) => holdDict e o (complete f rf r (complete e rd r { s1 with pair := { s1.pair with waiting := none } }))
      else pairMismatch s
  else
    match perform e o s with
    | (none, s1) => s1
    | (some r, s1) => holdDict e o (complete e rd r s1)

end Sys2Proof.Machine
end

