-- ==== Sys2Proof/Machine/Memory.lean ====
section
/-!
DEFINITION. The engines' loads, stores and atomics over the memory map, the ports and the windows (R353, R355 to R360), and the port accesses that have
rows of their own (R358, R374).
-/

namespace Sys2Proof.Machine

/-! ### Loads -/

/-- A load from an engine's instruction or data RAM. -/
def localLoad (e : Nat) (rd : Fin 32) (m : Memory) (a o w : Nat) (signed : Bool) (obs : MemObs) (s : State) : State :=
  if obs = .fatal then localError e a s
  else finish e rd (loadValue signed (memRange m o w)) (engOf s e).flags s

/-- R358: the value of a port that may be loaded. -/
def portValue (s : State) (e o : Nat) : Option Word :=
  let x := engOf s e
  match o with
  | 0x00 => some (BitVec.ofNat 32 (engId e x))
  | 0x04 => some (BitVec.ofNat 32 s.now)
  | 0x08 => some x.timeHi
  | 0x0C => some (BitVec.ofNat 32 s.scan.frameCount)
  | 0x14 => some x.tvec
  | 0x18 => some x.tpc
  | 0x1C => some x.tcause
  | 0x20 => some x.tval
  | 0x24 => some (BitVec.ofNat 32 x.flags.word)
  | 0x40 => some (x.evdata.setWidth 32)
  | 0x44 => some ((x.evdata >>> 32).setWidth 32)
  | 0x48 => some x.evtime
  | 0x80 => some x.ckptBase
  | 0x84 => some x.ckptLen
  | 0x88 => some x.ckptCount
  | 0xA0 => some x.dictEntry
  | 0xA4 => some x.dictBuf
  | 0xA8 => some x.dictLen
  | 0xB0 => some x.dictStatus
  | _ =>
    if o = 0x30 ∨ o = 0x34 ∨ o = 0x38 ∨ o = 0x3C then some (BitVec.ofNat 32 (x.evmask.toNat / 2 ^ (8 * (o - 0x30))))
    else if 0x60 ≤ o ∧ o ≤ 0x7C ∧ o % 4 = 0 then
      some (if o % 8 = 0 then vget x.winHandle 0 ((o - 0x60) / 8) else vget x.winOffset 0 ((o - 0x60) / 8))
    else none

/-- R358: reading TIME_LO latches TIME_HI. -/
def latchTime (o e : Nat) (s : State) : State :=
  if o = 0x04 then (members s e).foldl (fun st k => setEng st k { engOf st k with timeHi := BitVec.ofNat 32 (s.now / 4294967296) }) s else s

/-- R358: a load from a port. -/
def portLoad (e : Nat) (rd : Fin 32) (a o : Nat) (s : State) : State :=
  shared e (fun st => match portValue st e o with
    | some v => (some (result v), latchTime o e st)
    | none => (none, trap e 3 (BitVec.ofNat 32 a) st)) (complete e rd) s

/-- R356, R359, R371: why an access through a window traps: whether its handle is stale, or the access is denied or out of the area. `ok` says
which areas the access may use. -/
def windowArea (s : State) (e w o n : Nat) (ok : Nat → Area → Bool) : Option Area × Bool :=
  let (h, off) := windowAt s e w o
  match areaOf s h with
  | none => (none, true)
  | some a => if a ≠ .dram ∧ ok (engOf s e).runsAs a ∧ off + n ≤ a.size then (some a, false) else (none, false)

/-- R359, R355: the trap of a denied access through a window; a stale handle also raises E68. -/
def windowTrap (e w a : Nat) (stale : Bool) (s : State) : State :=
  let h := (vget (engOf s e).winHandle 0 w).toNat
  trap e 3 (BitVec.ofNat 32 a) (if stale then staleHandle s h 3 else s)

/-- R359: a load through a window. -/
def windowGet (e a w o n : Nat) (signed : Bool) (obs : MemObs) (s : State) : Option PairInput × State :=
  match windowArea s e w o n Area.readable with
  | (none, stale) => (none, windowTrap e w a stale s)
  | (some r, _) =>
    let off := (windowAt s e w o).2
    if r.inStore && !domainOn s 3 then (none, s)
    else match chargeEngine e 1 s with
      | (false, s1) => (none, s1)
      | (true, s1) =>
        let s2 := match r.addr off with
          | some p => storeFinding p obs s1
          | none => s1
        if areaPoisoned s2 r off then (none, trap e 4 (BitVec.ofNat 32 a) s2)
        else (some (result (loadValue signed (areaBytes s2 e r off n))), s2)

/-- A load of `w` bytes (R353, R355, R356). -/
def load (e : Nat) (rd : Fin 32) (addr : Word) (w : Nat) (signed : Bool) (obs : MemObs) (s : State) : State :=
  let a := addr.toNat
  if a % w ≠ 0 then trap e 2 addr s
  else match placeOf a with
    | .iram o => localLoad e rd (engOf s e).iram a o w signed obs s
    | .dram o => localLoad e rd (engOf s e).dram a o w signed obs s
    | .port o => if w ≠ 4 then trap e 2 addr s else portLoad e rd a o s
    | .window k o => shared e (windowGet e a k o w signed obs) (complete e rd) s
    | .nothing => trap e 3 addr s

/-- The address of a load or store: ra + imm. -/
def address (s : State) (e : Nat) (ra : Fin 32) (imm : Half) : Word := (engOf s e).get ra + simm imm

/-- LB (R353). -/
def execLb (e : Fin 9) (rd ra : Fin 32) (imm : Half) (m : MemObs) (s : State) : Host.Outcome State Fault Refusal :=
  instruct e (fun st => load e rd (address st e ra imm) 1 true m st) s

/-- LBU (R353). -/
def execLbu (e : Fin 9) (rd ra : Fin 32) (imm : Half) (m : MemObs) (s : State) : Host.Outcome State Fault Refusal :=
  instruct e (fun st => load e rd (address st e ra imm) 1 false m st) s

/-- LH (R353). -/
def execLh (e : Fin 9) (rd ra : Fin 32) (imm : Half) (m : MemObs) (s : State) : Host.Outcome State Fault Refusal :=
  instruct e (fun st => load e rd (address st e ra imm) 2 true m st) s

/-- LHU (R353). -/
def execLhu (e : Fin 9) (rd ra : Fin 32) (imm : Half) (m : MemObs) (s : State) : Host.Outcome State Fault Refusal :=
  instruct e (fun st => load e rd (address st e ra imm) 2 false m st) s

/-- LW (R353). -/
def execLw (e : Fin 9) (rd ra : Fin 32) (imm : Half) (m : MemObs) (s : State) : Host.Outcome State Fault Refusal :=
  instruct e (fun st => load e rd (address st e ra imm) 4 true m st) s

/-! ### Stores -/

/-- R358: a store to DICT_OP: the operation of a code 1 to 4, on the entry, buffer and length of the ports; an extension engine writes only entries
of its own range (R371). Another code names no operation (log 65). -/
def dictOp (e : Nat) (a : Word) (op : Nat) (m : MemObs) (s : State) : State :=
  let x := engOf s e
  let key := bits x.dictEntry.toNat 23 0
  let value := if (op = 2 ∨ op = 3) ∧ x.dictLen.toNat ≤ 2048 then memRange x.dram x.dictBuf.toNat x.dictLen.toNat else []
  if op = 0 ∨ 4 < op then finish e 0 0 x.flags s
  else if (op = 2 ∨ op = 3) ∧ 4 ≤ x.runsAs ∧ x.runsAs < 8 ∧ !moduleOwns x.runsAs (key / 256) then trap e 3 a s
  -- R357: a write reads its value from data RAM
  else localRead e (0x10000000 + x.dictBuf.toNat) (if op = 2 ∨ op = 3 then m else .sound) (emit e (.dict op x.dictEntry x.dictBuf x.dictLen value) 0) s

/-- R358: a word stored to a port. -/
def portStoreWord (e : Nat) (a : Word) (o : Nat) (v : Word) (m : MemObs) (s : State) : State :=
  if !portWritable o then trap e 3 a s
  else if o = 0xAC then dictOp e a v.toNat m s
  else emit e (.store a.toNat 4 v.toNat) 0 s

/-- R359: a store through a window. -/
def windowPut (e : Nat) (addr : Word) (k o w v : Nat) (s : State) : State :=
  match windowArea s e k o w Area.storable with
  | (none, stale) => windowTrap e k addr.toNat stale s
  | (some _, _) => if !domainOn s 3 then s else emit e (.store addr.toNat w (v % 256 ^ w)) 0 s

/-- A store of the low `w` bytes of a word (R353, R355, R356); one of less than a word reads the word of data RAM first (R357). -/
def store (e : Nat) (addr : Word) (w : Nat) (v : Word) (m : MemObs) (s : State) : State :=
  let a := addr.toNat
  if a % w ≠ 0 then trap e 2 addr s
  else match placeOf a with
    | .dram o => localRead e a m (fun st => setEng st e ({ engOf st e with dram := memWrite (engOf st e).dram o (bytesLE w v.toNat) }.next)) s
    | .port o => if w ≠ 4 then trap e 2 addr s else portStoreWord e addr o v m s
    | .window k o => windowPut e addr k o w v.toNat s
    | _ => trap e 3 addr s

/-- SB (R353). -/
def execSb (e : Fin 9) (rd ra : Fin 32) (imm : Half) (m : MemObs) (s : State) : Host.Outcome State Fault Refusal :=
  instruct e (fun st => store e (address st e ra imm) 1 ((engOf st e).get rd) m st) s

/-- SH (R353). -/
def execSh (e : Fin 9) (rd ra : Fin 32) (imm : Half) (m : MemObs) (s : State) : Host.Outcome State Fault Refusal :=
  instruct e (fun st => store e (address st e ra imm) 2 ((engOf st e).get rd) m st) s

/-- R357: a whole word stored reads no data RAM, but one stored to DICT_OP does. -/
def swObs (a : Word) (m : MemObs) : MemObs := match placeOf a.toNat with
  | .port _ => m
  | _ => .sound

/-- SW (R353). -/
def execSw (e : Fin 9) (rd ra : Fin 32) (imm : Half) (m : MemObs) (s : State) : Host.Outcome State Fault Refusal :=
  instruct e (fun st => store e (address st e ra imm) 4 ((engOf st e).get rd) (swObs (address st e ra imm) m) st) s

/-! ### Atomics (R360) -/

/-- R360, R371: the areas on which an engine's atomics are permitted: BLOB channels that it may store into. -/
def atomicArea (n : Nat) : Area → Bool
  | .chan c => decide (c.type = 4) && (Area.chan c).storable n
  | _ => false

/-- An atomic on the word at ra. -/
def atomic (op e : Nat) (rd ra rb : Fin 32) (obs : MemObs) (s : State) : State :=
  let x := engOf s e
  let addr := x.get ra
  let a := addr.toNat
  if a % 4 ≠ 0 then trap e 2 addr s
  else match placeOf a with
    | .window k o =>
      match windowArea s e k o 4 atomicArea with
      | (none, stale) => windowTrap e k a stale s
      | (some r, _) =>
        let off := (windowAt s e k o).2
        if !domainOn s 3 then s
        else
          let s1 := match r.addr off with
            | some p => storeFinding p obs s
            | none => s
          if areaPoisoned s1 r off then trap e 4 addr s1
          else emit e (.atomic op a (x.get rb) (x.get rd)) rd s1
    | _ => trap e 3 addr s

/-- AMOADD (R360). -/
def execAmoadd (e : Fin 9) (rd ra rb : Fin 32) (m : MemObs) (s : State) : Host.Outcome State Fault Refusal :=
  instruct e (atomic 0 e rd ra rb m) s

/-- AMOSWAP (R360). -/
def execAmoswap (e : Fin 9) (rd ra rb : Fin 32) (m : MemObs) (s : State) : Host.Outcome State Fault Refusal :=
  instruct e (atomic 1 e rd ra rb m) s

/-- CAS (R360): the word at ra is compared with rd. -/
def execCas (e : Fin 9) (rd ra rb : Fin 32) (m : MemObs) (s : State) : Host.Outcome State Fault Refusal :=
  instruct e (atomic 2 e rd ra rb m) s

/-- AMOOR (R360). -/
def execAmoor (e : Fin 9) (rd ra rb : Fin 32) (m : MemObs) (s : State) : Host.Outcome State Fault Refusal :=
  instruct e (atomic 3 e rd ra rb m) s

/-- AMOAND (R360). -/
def execAmoand (e : Fin 9) (rd ra rb : Fin 32) (m : MemObs) (s : State) : Host.Outcome State Fault Refusal :=
  instruct e (atomic 4 e rd ra rb m) s

/-! ### Port accesses with rows of their own -/

/-- The address of a port. -/
def portAddress (o : Nat) : Word := BitVec.ofNat 32 (0x20000000 + o)

/-- WDOG_WRITE (R358, R374): register rd stored to WDOG, which restarts the watchdog. -/
def execWdogWrite (e : Fin 9) (rd : Fin 32) (s : State) : Host.Outcome State Fault Refusal :=
  instruct e (fun st => store e (portAddress 0x10) 4 ((engOf st e).get rd) .sound st) s

/-- EVROUTE_WRITE (R358, R384): register rd stored to EVROUTE. -/
def execEvrouteWrite (e : Fin 9) (rd : Fin 32) (s : State) : Host.Outcome State Fault Refusal :=
  instruct e (fun st => store e (portAddress 0x50) 4 ((engOf st e).get rd) .sound st) s

/-- TIME_LO_READ (R358): TIME_LO loaded into rd. -/
def execTimeLoRead (e : Fin 9) (rd : Fin 32) (s : State) : Host.Outcome State Fault Refusal :=
  instruct e (load e rd (portAddress 0x04) 4 true .sound) s

/-- DICT_OP_READ (R358): 1 stored to DICT_OP. -/
def execDictOpRead (e : Fin 9) (s : State) : Host.Outcome State Fault Refusal := instruct e (store e (portAddress 0xAC) 4 1 .sound) s

/-- DICT_OP_WRITE (R358): 2 stored to DICT_OP. -/
def execDictOpWrite (e : Fin 9) (m : MemObs) (s : State) : Host.Outcome State Fault Refusal := instruct e (store e (portAddress 0xAC) 4 2 m) s

/-- DICT_OP_WRITE_STAGED (R358): 3 stored to DICT_OP. -/
def execDictOpWriteStaged (e : Fin 9) (m : MemObs) (s : State) : Host.Outcome State Fault Refusal := instruct e (store e (portAddress 0xAC) 4 3 m) s

/-- DICT_OP_READ_STAGED (R358): 4 stored to DICT_OP. -/
def execDictOpReadStaged (e : Fin 9) (s : State) : Host.Outcome State Fault Refusal := instruct e (store e (portAddress 0xAC) 4 4 .sound) s

end Sys2Proof.Machine
end

