-- ==== Sys2Proof/Machine/Primitives.lean ====
section
/-!
DEFINITION. The engines' primitives: queues (R276, R371, R377), events (R385, R386), Assayers (R290), Tolls (R391) and checkpoints (R376).
-/

namespace Sys2Proof.Machine

/-- Whether an engine runs an extension module (R371). -/
def extension (s : State) (e : Nat) : Bool := decide (4 ≤ (engOf s e).runsAs) && decide ((engOf s e).runsAs < 8)

/-! ### Queues -/

/-- R371: the queues that an engine may push to. -/
def mayPush (s : State) (e q : Nat) : Bool := !extension s e || (decide (10 ≤ q) && decide (q ≤ 13))

/-- R371: the queues that an engine may pop and acknowledge. -/
def mayPop (s : State) (e q : Nat) : Bool := !extension s e || q == (engOf s e).runsAs + 6

/-- QPUSH (R276, R278, R353): 32 bytes from data RAM at ra; E is 1 when the queue is full. -/
def execQpush (e : Fin 9) (ra : Fin 32) (imm : Half) (m : MemObs) (s : State) : Host.Outcome State Fault Refusal :=
  instruct e (fun st =>
    let x := engOf st e
    let q := imm.toNat % 16
    if !mayPush st e q then trapFree e 5 st
    else match dramOffset (x.get ra).toNat 32 with
      | none => trap e 3 (x.get ra) st
      | some o => if !domainOn st 3 then st else localRead e (0x10000000 + o) m (emit e (.push q (memRange x.dram o 32)) 0) st) s

/-- R254, R276, R391: a lease-pop by an engine: one access of C7 for the entry; SEQ and the entry, or 0xFFFFFFFF with E where the queue is empty. Short
of tokens the engine waits. -/
def popInput (e q : Nat) (m : MemObs) (s : State) : Option PairInput × State :=
  match qNext s q with
  | none => (some ⟨0xFFFFFFFF, some true, [], none⟩, s)
  | some seq => match chargeEngine e 1 s with
    | (false, s1) => (none, s1)
    | (true, s1) =>
      let s2 := storeFinding (qAddr s1 q seq) m s1
      (some ⟨seq.setWidth 32, some false, qBytes s2 q seq, none⟩, qLease s2 q e)

/-- A popped entry taken into an engine's data RAM at an offset. -/
def takeEntry (e : Nat) (rd : Fin 32) (o : Nat) (v : PairInput) (s : State) : State :=
  complete e rd v (setEng s e { engOf s e with dram := memWrite (engOf s e).dram o v.bytes })

/-- QPOP (R276, R353): the entry goes into data RAM at ra, its SEQ into rd. -/
def execQpop (e : Fin 9) (rd ra : Fin 32) (imm : Half) (m : MemObs) (s : State) : Host.Outcome State Fault Refusal :=
  instruct e (fun st =>
    let x := engOf st e
    let q := imm.toNat % 16
    if !mayPop st e q then trapFree e 5 st
    else match dramOffset (x.get ra).toNat 32 with
      | none => trap e 3 (x.get ra) st
      | some o => if !domainOn st 3 then st else shared e (popInput e q m) (takeEntry e rd o) st) s

/-- QACK (R276, R353, R377): the entry whose SEQ is ra; with checkpointing on, it takes effect at the next CHKPT. -/
def execQack (e : Fin 9) (ra : Fin 32) (imm : Half) (s : State) : Host.Outcome State Fault Refusal :=
  instruct e (fun st =>
    let q := imm.toNat % 16
    if !mayPop st e q then trapFree e 5 st
    else if !domainOn st 3 then st
    else emit e (.ack q (((engOf st e).get ra).setWidth 16)) 0 st) s

/-! ### Events -/

/-- R385: a wait ends without an event, in pair mode for both engines. -/
def endTimeout (e : Nat) (s : State) : State :=
  match (engOf s e).stall with
  | .event rd _ =>
    let s1 := setEng s e ((engOf s e).endWait rd 0xFFFFFFFF true)
    match partner s1 e with
    | some o =>
      match (engOf s1 o).stall with
      | .event rf _ => setEng s1 o ((engOf s1 o).endWait rf 0xFFFFFFFF true)
      | _ => { s1 with pair := { s1.pair with inputs := s1.pair.inputs ++ [(o, ⟨0xFFFFFFFF, some true, [], none⟩)] } }
    | none => s1
  | _ => s

/-- R385: the wait of an EWAIT begun: it ends at once where an event is pending, or where its timeout is 0. -/
def beginWait (e : Nat) (rd ra : Fin 32) (s : State) : State :=
  let us := ((engOf s e).get ra).toNat
  let limit := if us = 0xFFFFFFFF then none else some (s.now + us * 1000)
  let s1 := wakeEvents [e] (stallOn e (.event rd limit) s)
  if us = 0 then endTimeout e s1 else s1

/-- EWAIT (R353, R385). -/
def execEwait (e : Fin 9) (rd ra : Fin 32) (s : State) : Host.Outcome State Fault Refusal :=
  instruct e (shared e (fun st => (none, beginWait e rd ra st)) (complete e rd)) s

/-- EWAIT_TIMEOUT (R385): the timeout of a waiting EWAIT runs out. -/
def execEwaitTimeout (e : Fin 9) (s : State) : Host.Outcome State Fault Refusal :=
  match (engOf s e).run, (engOf s e).stall with
  | .running, .event _ (some t) => .next (endTimeout e (s.atLeast t))
  | _, _ => .next s

/-- ESIG (R353, R386): only E105 to E111 may be raised; DATA is 8 bytes of data RAM at ra. -/
def execEsig (e : Fin 9) (ra : Fin 32) (imm : Half) (m : MemObs) (s : State) : Host.Outcome State Fault Refusal :=
  instruct e (fun st =>
    let x := engOf st e
    let n := imm.toNat % 128
    if n < 105 ∨ 111 < n then trapFree e 5 st
    else match dramOffset (x.get ra).toNat 8 with
      | none => trap e 3 (x.get ra) st
      | some o => localRead e (0x10000000 + o) m (emit e (.signal n (BitVec.ofNat 64 (natLE (memRange x.dram o 8)))) 0) st) s

/-! ### Assayers and Tolls -/

/-- ASSAY (R289, R290, R353, R371): rb bytes of data RAM at ra into Assayer rd [2:0]; an extension module feeds A4 to A7. -/
def execAssay (e : Fin 9) (rd ra rb : Fin 32) (m : MemObs) (s : State) : Host.Outcome State Fault Refusal :=
  instruct e (fun st =>
    let x := engOf st e
    let a := (x.get rd).toNat % 8
    let n := (x.get rb).toNat
    if extension st e && decide (a < 4) then trapFree e 5 st
    else match dramOffset (x.get ra).toNat n with
      | none => trap e 3 (x.get ra) st
      | some o => if !domainOn st 3 then st else localRead e (0x10000000 + o) m (emit e (.assay a (memRange x.dram o n)) 0) st) s

/-- TOLL (R353, R382, R391): the tokens left to class imm [2:0] in the present period. -/
def execToll (e : Fin 9) (rd : Fin 32) (imm : Half) (s : State) : Host.Outcome State Fault Refusal :=
  instruct e (shared e (fun st => (some (result (BitVec.ofNat 32 (tokensLeft st (imm.toNat % 8)))), st)) (complete e rd)) s

/-- TWAIT (R353): the engine waits for the next budget period. -/
def execTwait (e : Fin 9) (s : State) : Host.Outcome State Fault Refusal :=
  instruct e (fun st => setEng st e { (engOf st e).next with stall := .period }) s

/-! ### Checkpoints -/

/-- R377: the held acknowledgements of an engine take effect. -/
def applyAcks (e : Nat) (s : State) : State :=
  (engOf s e).heldAcks.foldl (fun st p => postWaiting p.1 (qAck st p.1 p.2)) (setEng s e { engOf s e with heldAcks := [] })

/-- R376: a checkpoint of an engine, resuming at an address; the newer of the two buffers is kept. -/
def checkpoint (e : Nat) (resume : Word) (s : State) : State :=
  let x := engOf s e
  let c : Checkpoint := ⟨x.g, x.flags, resume, x.ckptBase.toNat, memRange x.dram x.ckptBase.toNat x.ckptLen.toNat⟩
  applyAcks e (setEng s e { x with ckpts := c :: x.ckpts.take 1, ckptCount := x.ckptCount + 1 })

/-- CHKPT (R353, R376, R377): it waits for the outstanding moves; with CKPT_LEN 0 checkpointing is off. -/
def execChkpt (e : Fin 9) (ra : Fin 32) (m : MemObs) (s : State) : Host.Outcome State Fault Refusal :=
  instruct e (fun st =>
    let x := engOf st e
    if !(engOf st (holder st e)).moves.isEmpty then stallOn e .moves st
    else if x.ckptLen = 0 then finish e 0 0 x.flags st
    else localRead e (0x10000000 + x.ckptBase.toNat) m (fun st1 =>
      let s1 := checkpoint e (x.get ra) st1
      finish e 0 0 (engOf s1 e).flags s1) st) s

end Sys2Proof.Machine
end

