-- ==== Sys2Proof/Machine/Moves.lean ====
section
/-!
DEFINITION. Block moves (R361 to R364): their start, the wait for one, and what a move does when it completes.
-/

namespace Sys2Proof.Machine

/-- MOVE (R353, R361, R363): the descriptor at ra starts a move, whose ID goes into rd; a fifth outstanding move waits. -/
def execMove (e : Fin 9) (rd ra : Fin 32) (m : MemObs) (s : State) : Host.Outcome State Fault Refusal :=
  instruct e (fun st =>
    let x := engOf st e
    match dramOffset (x.get ra).toNat 32 with
    | none => trap e 3 (x.get ra) st
    | some o => localRead e (0x10000000 + o) m (emit e (.move (memRange x.dram o 32)) rd) st) s

/-- R363: the status of a move for MWAIT: of a completed one; a running one is waited for; an ID that names no move gives a free value (log 66). -/
def moveInput (e : Nat) (rd : Fin 32) (id : Word) (s : State) : Option PairInput × State :=
  let x := engOf s (holder s e)
  match x.doneMoves.lookup id with
  | some v => (some (result v), s)
  | none =>
    if x.moves.any (fun m => m.id == id) then (none, stallOn e (.move rd id) s)
    else
      let d := s.drawNat
      (some (result (BitVec.ofNat 32 d.1)), d.2)

/-- MWAIT (R353, R363). -/
def execMwait (e : Fin 9) (rd ra : Fin 32) (s : State) : Host.Outcome State Fault Refusal :=
  instruct e (fun st => shared e (moveInput e rd ((engOf st e).get ra)) (complete e rd) st) s

/-! ### The end of a move -/

/-- R363, R376: an engine that waits for a move, for room for one, or for all of them, when a move completes. -/
def wakeMove (id : Word) (status : Word) (s : State) (e : Nat) : State :=
  match (engOf s e).stall with
  | .move rd k => if k = id then complete e rd (result status) s else s
  | .moves => stallOn e .none s
  | _ => s

/-- R363: a move of an engine ended with a status; the moves that remain. -/
def endMove (e : Nat) (id v : Word) (rest : List Move) (s : State) : State :=
  let s1 := setEng s e { engOf s e with moves := rest, doneMoves := (id, v) :: (engOf s e).doneMoves }
  (members s1 e).foldl (wakeMove id v) s1

/-- MOVE_COMPLETE (R357, R363, R364, R394, R412): the oldest outstanding move of an engine draws its tokens of C7, and once they are served completes, or stops,
with its status. -/
def execMoveComplete (e : Fin 9) (o : TileObs) (x : MemObs) (s : State) : Host.Outcome State Fault Refusal :=
  match (engOf s e).moves with
  | [] => .next s
  | m :: rest =>
    if x = .fatal ∧ field m.descriptor 0 4 = 0 ∧ m.refused = 0 then .next (localError e (0x10000000 + field m.descriptor 4 4) s)
    else match m.cut with
    | some n =>
      -- R412: abandoned; no rule states its status (log 210)
      let (d, s1) := (performCut e m n s).drawNat
      .next (endMove e m.id (BitVec.ofNat 32 d) rest s1)
    | none =>
    if m.refused = 0 ∧ ((moveInStore s m.descriptor ∧ !domainOn s 3) ∨ moveWaits s m.descriptor) then .next s
    else
      let left := (performMove e m o s).2 - m.paid
      let (k, s1) := payEngine e left s
      if k < left then .next (setEng s1 e { engOf s1 e with moves := { m with paid := m.paid + k } :: rest })
      else
        let r := (performMove e m o s1).1
        .next (endMove e m.id (BitVec.ofNat 32 r.status) rest r.state)

end Sys2Proof.Machine
end

