-- ==== Sys2Proof/Machine/Failover.lean ====
section
/-!
DEFINITION. The supervision of the engines (R374 to R383): the watchdog, the takeover by WJ, its self-check, and the mismatch of the pair.
-/

namespace Sys2Proof.Machine

/-- WATCHDOG_EXPIRY (R374): E127, and the engine fails with cause 0. -/
def execWatchdogExpiry (e : Fin 9) (s : State) : Host.Outcome State Fault Refusal :=
  let x := engOf s e
  if x.run = .running ∧ x.wdogEn then
    .next (failWith e 0 [(127, bytesLE 1 e)] (s.atLeast (x.wdogStart + s.reg Reg.engWatchdogUs * 1000)))
  else .next s

/-- R376, R378: an engine set to a complete checkpoint: g1 to g31, the flags, the region of data RAM, and the resume address. -/
def Engine.restore (x : Engine) (c : Checkpoint) : Engine :=
  { x with g := c.regs, flags := c.flags, pc := c.resume, dram := memWrite x.dram c.base c.bytes, stall := .none, heldAcks := [], inTrap := false }

/-- R378: an engine loaded with a segment and resumed from the newest of some checkpoints; without one it starts at ENTRY (log 67). -/
def resumed (s : State) (e slot seg : Nat) (ckpts : List Checkpoint) : Engine :=
  let x := loadedEngine s e slot seg
  match ckpts with
  | c :: _ => { x.restore c with ckpts := ckpts }
  | [] => x

/-- R378: what WJ takes over with the failed engine's number: its routes, with EVMASK and the pending events, and its windows. The other ports hold
free values (log 67). -/
def takePorts (w x : Engine) (n : Nat) (f : Nat → Nat) : Engine :=
  let word (k : Nat) : Word := BitVec.ofNat 32 (f k)
  { w with
    runsAs := n, evmask := x.evmask, pendingEvents := x.pendingEvents, winHandle := x.winHandle, winOffset := x.winOffset
    tvec := word 0, tpc := word 1, tcause := word 2, tval := word 3, timeHi := word 4, evdata := BitVec.ofNat 64 (f 5), evtime := word 6
    ckptBase := BitVec.ofNat 32 (64 * (f 7 % 1024)), ckptLen := BitVec.ofNat 32 (64 * (f 8 % 513))
    dictEntry := word 9, dictBuf := word 10, dictLen := BitVec.ofNat 32 (f 11 % 2049), dictStatus := word 12 }

/-- R383: the other engine of the pair resumes from W0's checkpoint beside WJ. -/
def resumePartner (slot : Nat) (ckpts : List Checkpoint) (s : State) (o : Nat) : State :=
  let s1 := returnLeases o s
  let x := engOf s1 o
  setEng s1 o (match ckpts with
    | c :: _ => x.restore c
    | [] => { loadedEngine s1 o slot x.segment with runsAs := x.runsAs, winHandle := x.winHandle, winOffset := x.winOffset, evmask := x.evmask, tvec := x.tvec })

/-- R378: WJ resumes as a failed engine. -/
def takeOver (e cause : Nat) (s : State) : State :=
  let x := engOf s e
  let paired := inPair s e
  let from_ := if paired then (engOf s 0).ckpts else x.ckpts
  let w := takePorts (resumed s 8 x.image x.segment from_) x x.runsAs (fun k => Config.freeNat (s.free + k))
  let s1 := setEng { s with free := s.free + 13, takeover := none } 8 w
  let mask := setBit (s1.reg Reg.engFailedMask % 4096) e true + 4096 * e
  let s2 := (s1.setReg Reg.engFailedMask mask).bump Reg.engFailovers
  let s3 := if paired then
      (match partner s2 8 with | some o => resumePartner x.image from_ s2 o | none => s2)
    else s2
  let s4 := if paired then { s3 with pair := ⟨true, none, [], false⟩ } else s3
  raise 119 (bytesLE 1 e ++ bytesLE 1 cause) (recordLate s4)

/-- WJ_RESUME (R375, R378): WJ is loaded with the failed engine's segment; on a SEG_HASH mismatch the engine has failed with cause 5 and no
spare takes its place (log 68). -/
def execWjResume (s : State) : Host.Outcome State Fault Refusal :=
  match s.takeover with
  | none => .next s
  | some (e, cause) =>
    let x := engOf s e
    let img := imageOf s x.image
    if segUsed img x.segment && segFits img x.segment && segHashOk img x.segment then .next (takeOver e cause s)
    else .next (fatal e 5 [] { s with takeover := none, pair := { s.pair with checking := false } })

/-- WJ_SELF_CHECK (R381): while WJ stands by, it checks itself; a failure takes it out of service. -/
def execWjSelfCheck (passed : Bool) (s : State) : Host.Outcome State Fault Refusal :=
  let x := engOf s 8
  if x.run = .standby ∧ s.takeover = none ∧ !passed then
    let s1 := (setEng s 8 { x with run := .failed }).setReg Reg.engFailedMask (setBit (s.reg Reg.engFailedMask) 8 true)
    .next (raise 119 (bytesLE 1 8 ++ bytesLE 1 4) s1)
  else .next s

/-- PAIR_OUTPUT_TIMEOUT (R383): an output has waited more than 20 µs for the other engine's. -/
def execPairOutputTimeout (s : State) : Host.Outcome State Fault Refusal :=
  match s.pair.waiting with
  | some (_, _, _, t) =>
    if s.pair.active && !s.pair.checking then .next (pairMismatch (s.atLeast (t + 20001))) else .next s
  | none => .next s

/-- R380, R383: an engine of the pair failed for good. -/
def fatalPair (s : State) (e : Nat) : State := if (engOf s e).run = .running then fatal e 3 [] (haltFailed e s) else s

/-- PAIR_SELF_CHECK_DONE (R383): the self-checks of the engines that run as 0 and 1. When exactly one fails, that engine has failed with cause 4;
in every other case both have failed with cause 3. -/
def execPairSelfCheckDone (pass0 pass1 : Bool) (s : State) : Host.Outcome State Fault Refusal :=
  if s.pair.checking ∧ s.takeover = none then
    match runsAs s 0, runsAs s 1, pass0 != pass1 with
    | a :: _, b :: _, true =>
      let s1 := failEngine (if pass0 then b else a) 4 s
      .next (if s1.takeover.isSome then s1 else { s1 with pair := { s1.pair with checking := false } })
    | xs, ys, _ =>
      let s1 := (xs ++ ys).foldl fatalPair s
      .next { s1 with pair := { s1.pair with checking := false } }
  else .next s

end Sys2Proof.Machine
end

