-- ==== Sys2Proof/Machine/Transports.lean ====
section
/-!
DEFINITION. The transports of KDP (R340 to R348): frames that arrive on CAN FD and SPI, the SPI transactions, the CAN controllers' bit timing,
modes and bus-off.
-/

namespace Sys2Proof.Machine

/-! ### Arrival (R317, R340, R341) -/

/-- R340: the lowest free receive buffer of a transport. -/
def freeBuffer (s : State) (t : Nat) : Option Nat := (List.range (txBuffers t)).find? (fun b => ((transOf s t).rx.lookup b).isNone)

/-- R340, R341: a frame that a transport has received goes into a free receive buffer, with its entry on the queue; the service takes what it may, and
`ecc` is what its reads of the queue find (R254). -/
def arrive (s : State) (t buf : Nat) (f : List Byte) (ecc : List EccFinding) : State :=
  let body := if lenOk t f then f.take (14 + field f 8 2) else f
  let s1 := postFrame (setTrans s t { transOf s t with rx := (transOf s t).rx ++ [(buf, body)] }) t buf body.length
  serveFrames (if (qNext s1 (rxQueue t)).isSome then eccFindAll s1 ecc else s1)

/-- CAN_FRAME_RX (R343, R345): a frame with the request identifier. -/
def execCanFrameRx (c : Fin 2) (f : CanFrame) (ecc : List EccFinding) (s : State) : Host.Outcome State Fault Refusal :=
  let k := canOf s c
  if !domainOn s 1 || !s.power.vio || k.mode == 2 || k.busOff || f.ext != k.ext || f.id != k.reqId then .next s
  else if !f.fd then .next (s.bump (Reg.canRxClassic c))
  else match freeBuffer s c with
    | some b => .next (arrive s c b (f.data.take 64) ecc)
    | none => .next (s.bump (Reg.canRxDropped c))

/-- CAN_BITRATE_APPLY (R344): the controller is idle, and its changed entries take effect. -/
def execCanBitrateApply (c : Fin 2) (s : State) : Host.Outcome State Fault Refusal :=
  let k := canOf s c
  if k.changePending then
    .next (setCan s c { canTakes s c k with changePending := false })
  else .next s

/-- BUS_OFF (R345, `can.state`): the error counters take a sending controller off the bus. -/
def execBusOff (c : Fin 2) (s : State) : Host.Outcome State Fault Refusal :=
  let k := canOf s c
  if domainOn s 1 ∧ k.mode = 0 then .next (setCan s c { k with busOff := true }) else .next s

/-- BUS_OFF_RECOVERY (R345): under the standard, while `can.busoff_hold` is 0. -/
def execBusOffRecovery (c : Fin 2) (s : State) : Host.Outcome State Fault Refusal :=
  let k := canOf s c
  if k.busOff && !s.flag (Reg.canBusoffHold c) then .next (releaseAll (canDrain (setCan s c { k with busOff := false, errorPassive := false }) c) c) else .next s

/-! ### SPI (R346 to R348) -/

/-- R346: the status byte. -/
def spiStatus (s : State) : Nat :=
  4 * b2n s.kdp.spiOverflow + 2 * b2n (freeBuffer s 2).isSome + b2n (!(transOf s 2).tx.isEmpty)

/-- What a transaction shifts out. -/
def spiOut (s : State) (b : List Byte) : State := { s with kdp := { s.kdp with spiMiso := b } }

/-- Whether the SPI target works: CTL powered, and VIO (R518). -/
def spiServes (s : State) : Bool := domainOn s 1 && s.power.vio

/-- PUT (R346, R347): LENGTH and the bytes that arrive before chip select rises. -/
def execPut (length : Half) (bytes : List Byte) (ecc : List EccFinding) (s : State) : Host.Outcome State Fault Refusal :=
  if !spiServes s then .next s
  else
    let s1 := spiOut s (bytesLE 1 (spiStatus s))
    let lost (st : State) : State := { st with kdp := { st.kdp with spiOverflow := true } }
    if bytes.length < length.toNat ∨ 2048 < length.toNat then .next (lost (s1.bump Reg.spiFramingErrors))
    else match freeBuffer s1 2 with
      | some b => .next (arrive s1 2 b (bytes.take length.toNat) ecc)
      | none => .next (lost (s1.bump Reg.spiRxDropped))

/-- GET (R346, R347): `clocked` bytes after the command: the length and the oldest waiting frame, which is consumed when all of it was clocked. -/
def execGet (clocked : Nat) (s : State) : Host.Outcome State Fault Refusal :=
  if !spiServes s then .next s
  else
    let x := transOf s 2
    let f := x.tx.headD []
    let s1 := spiOut s (bytesLE 1 (spiStatus s) ++ slice (bytesLE 2 f.length ++ f) 0 clocked)
    if !x.tx.isEmpty ∧ f.length + 2 ≤ clocked then .next (releaseAll (setTrans s1 2 { x with tx := x.tx.drop 1 }) 2) else .next s1

/-- STAT (R346): the status byte; RX_OVERFLOW is cleared. -/
def execStat (s : State) : Host.Outcome State Fault Refusal :=
  if !spiServes s then .next s
  else
    let s1 := spiOut s (bytesLE 1 (spiStatus s))
    .next { s1 with kdp := { s1.kdp with spiOverflow := false } }

/-- SPI_UNKNOWN_COMMAND (R346): ignored and counted; the commands of R346 have rows of their own. -/
def execSpiUnknownCommand (command : Byte) (s : State) : Host.Outcome State Fault Refusal :=
  if !spiServes s || (decide (1 ≤ command.toNat) && decide (command.toNat ≤ 3)) then .next s
  else .next ((spiOut s (bytesLE 1 (spiStatus s))).bump Reg.spiFramingErrors)

end Sys2Proof.Machine
end

