-- ==== Sys2Proof/Machine/Packets.lean ====
section
/-!
DEFINITION. The transaction packets in their order (R229, R230): each pool's packets one at a time, the regions that wait in staging, a readback in
progress, set closes and commits, and the KDP sideband. A command that names a packet says that the device begins to process it; a packet whose
turn has not come is processed when it comes.
-/

namespace Sys2Proof.Machine

/-- Whether packets are received: the link is up. -/
def linkServes (s : State) : Bool := domainOn s 2 && s.lanes.linkState == 2

/-! ### REGION and its landing (R11, R230 to R233, R186) -/

/-- The staged region leaves staging. -/
def unstage (s : State) : State := { s with chans := { s.chans with staging := [] } }

/-- R266: whether a staged region's channel was destroyed before its first write: its landing is refused. -/
def landingGone (s : State) (st : StagedRegion) : Bool :=
  match s.channel (regionFields st.packet).handle with
  | none => true
  | some c => c.destroyed && st.paid == 0

/-- R266, R272, R278: whether a staged region waits: for its tiles' flips, for space on Q9, or for the pixel store. -/
def landingWaits (s : State) (st : StagedRegion) : Bool :=
  match s.channel (regionFields st.packet).handle with
  | some c => !domainOn s 3 || (regionTiles c (regionFields st.packet)).any (tileWaits s c) || qFull s 9
  | none => false

/-- R232, R392: what landing does with the reads `o`: it goes on waiting, is refused, draws its tokens, or writes the region's tiles. -/
def landStaged (o : TileObs) (s : State) : State :=
  match s.chans.staging with
  | [] => s
  | st :: _ =>
    let r := regionFields st.packet
    if landingGone s st then returnCredits (sendStatus (staleHandle (unstage s) r.handle 0) st.packet r.handle 4 0) false st.credits
    else if landingWaits s st then { s with chans := { s.chans with staging := [{ st with called := some o }] } }
    else match s.channel r.handle with
      | none => s
      | some c =>
        let left := regionTokens c r - st.paid
        let (k, s1) := pay s 0 left
        if k < left then { s1 with chans := { s1.chans with staging := [{ st with paid := st.paid + k, called := some o }] } }
        else
          let payload := slice st.packet 24 (rowBytes c.format r.w * r.h)
          let (zeros, s2) := (regionTiles c r).foldl (landTile c r payload o.transient) (0, eccFindAll s1 o.ecc)
          finishRegion s2 c st zeros

/-- R11, R232, R233: a region whose turn it is: verified, refused, or staged for landing. -/
def takeRegion (n : Nat) (p : List Byte) (s : State) : State :=
  let r := regionFields p
  match laneChannel s p r.handle with
  | (none, s1) => returnCredits s1 false n
  | (some c, s1) =>
    match regionRefusal s1 c p with
    | some (status, detail) => returnCredits (sendStatus s1 p r.handle status detail) false n
    | none => { s1 with chans := { s1.chans with staging := [⟨p, n, 0, none⟩] } }

/-! ### SET_CLOSE and SET_COMMIT (R235 to R237) -/

/-- R235: the close record of a named set, or its refusal. -/
def takeSetClose (n : Nat) (p : List Byte) (s : State) : State :=
  let h := field p 8 4
  match laneChannel s p h with
  | (none, s1) => returnCredits s1 false n
  | (some c, s1) =>
    let (status, s2) := closeSet s1 c (field p 12 1) (field p 14 2)
    let detail := if status = 5 then c.type else 0
    returnCredits (if status ≠ 0 ∨ bitAt (field p 1 1) 0 then sendStatus s2 p h status detail else s2) false n

/-- R236: the commit that a SET_COMMIT asks for: `layer.flip_set` of the slot bound to the handle written and the commit requested, or the flip in
the snapshot itself; only a SURFACE has sets to flip (log 116). -/
def setCommit (s : State) (c : Option Channel) (set tag : Nat) : CommitAnswer × State :=
  match c with
  | none => commitFor s tag []
  | some ch =>
    let get (key : Nat) : Nat := match s.kdp.staged.find? (fun x => x.key == key) with
      | some x => x.value
      | none => commitBase s key
    match (List.range 8).find? (fun n => get (Reg.layerHandle n) == ch.handle) with
    | some n => commitFor (stage s 0 (Reg.layerFlipSet n) set) tag []
    | none => commitFor s tag (if ch.type = 1 then [(ch.slot, set)] else [])

/-- R236, R237, R499: the commit is requested and answered with a STATUS in every case. -/
def takeSetCommit (n : Nat) (p : List Byte) (s : State) : State :=
  let h := field p 8 4
  let answer (c : Option Channel) (st : State) : State :=
    let (a, s2) := setCommit (hostActive st) c (field p 12 1) (field p 13 1)
    sendStatus s2 p h (if a.reason = 0 then 0 else 9) a.reason
  if field p 12 1 = 0 then returnCredits (answer none s) false n
  else match laneChannel s p h with
    | (none, s1) => returnCredits s1 false n
    | (some c, s1) => returnCredits (answer (some c) s1) false n

/-! ### Readback (R239, R240) -/

/-- R239: the tokens of C0 that a readback takes: one for each block of 64 bytes, and one for each side record. -/
def readTokens (c : Channel) (count : Nat) : Nat :=
  if c.type ≤ 2 then count * (ceilDiv c.tileBytes 64 + 1) else ceilDiv count 64

/-- R239, R240: the answer to a readback whose tokens have been served. -/
def answerReadback (c : Channel) (j : ReadJob) (s : State) : State :=
  let h := field j.packet 8 4
  let first := field j.packet 12 4
  let count := field j.packet 16 4
  let s1 := eccFindAll s j.obs.ecc
  let (bad, parts, s2) :=
    if c.type ≤ 2 then readTiles c j.obs.transient (span first count) [] s1
    else (none, [((span first count).map (fun i => if chanPoisoned s1 c i 1 then 0 else loadByte s1 (c.addr i)), 0)], s1)
  let data := parts.flatMap (fun p => p.1 ++ (if c.type ≤ 2 then bytesLE 4 p.2 else []))
  returnCredits (match bad with
    | some i => sendStatus s2 j.packet h 0xA i
    | none => linkSend (parts.foldl (fun st p => snoop st 3 h p.1) s2) false (transaction 0x85 0 (field j.packet 2 2) (bytesLE 4 h ++ bytesLE 4 first ++ bytesLE 4 count ++ bytesLE 4 0 ++ data))) false j.credits

/-- R22, R239, R392: a readback in progress draws its tokens, and is answered when they are served. -/
def goOnReading (s : State) : State :=
  match s.lanes.readJob with
  | none => s
  | some j =>
    match s.channel (field j.packet 8 4) with
    | none => returnCredits { s with lanes := { s.lanes with readJob := none } } false j.credits
    | some c =>
      let left := readTokens c (field j.packet 16 4) - j.paid
      if !domainOn s 3 then s
      else
        let (k, s1) := pay s 0 left
        if k < left then { s1 with lanes := { s1.lanes with readJob := some { j with paid := j.paid + k } } }
        else answerReadback c j { s1 with lanes := { s1.lanes with readJob := none } }

/-- READBACK_REQ in its turn (R239, R240): refused, or begun. -/
def takeReadback (n : Nat) (p : List Byte) (o : TileObs) (s : State) : State :=
  let h := field p 8 4
  match laneChannel s p h with
  | (none, s1) => returnCredits s1 false n
  | (some c, s1) =>
    match readbackRefusal c (field p 12 4) (field p 16 4) with
    | some status => returnCredits (sendStatus s1 p h status 0) false n
    | none => goOnReading { s1 with lanes := { s1.lanes with readJob := some ⟨p, n, 0, o⟩ } }

/-! ### Packets in their turn (R230) -/

/-- R230, R238: whether the front packet of a pool must wait: for the region before it to land, for the readback before it, for a receive buffer, or
for space on Q0. -/
def packetWaits (s : State) (ctl : Bool) : Bool :=
  if ctl then (freeBuffer s 3).isNone || qFull s 0 || !(transOf s 2).rxHeld.isEmpty else !s.chans.staging.isEmpty || s.lanes.readJob.isSome

/-- R229, R230: a packet that is answered without its unit: what R230 discards, or one whose TCRC fails. -/
def packetFails (d : Delivered) : Bool := packetUnknown d.ctl d.bytes || !tcrcOk d.bytes

/-- R229 to R241: a packet whose turn it is. -/
def takePacket (d : Delivered) (o : TileObs) (s : State) : State :=
  if packetUnknown d.ctl d.bytes then discardPacket s d.ctl d.credits d.bytes
  else if !tcrcOk d.bytes then returnCredits (tcrcFails s d.bytes) d.ctl d.credits
  else match field d.bytes 0 1 with
    | 1 => takeRegion d.credits d.bytes s
    | 2 => takeSetClose d.credits d.bytes s
    | 3 => takeSetCommit d.credits d.bytes s
    | 5 => takeReadback d.credits d.bytes o s
    | _ => match freeBuffer s 3 with
      | some b => returnCredits (arrive s 3 b (slice d.bytes 8 (d.bytes.length - 12)) o.ecc) true d.credits
      | none => s

/-- The packets of a pool that their commands have called, processed one after the other as far as none has to wait. -/
def servePool (ctl : Bool) : Nat → State → State
  | 0, s => s
  | n + 1, s =>
    if !linkServes s then s
    else match s.lanes.delivered.find? (fun d => d.ctl == ctl) with
      | some d => match d.called with
        | some o =>
          if packetWaits s ctl && !(ctl && packetFails d) then s
          else servePool ctl n (takePacket d o { s with lanes := { s.lanes with delivered := s.lanes.delivered.erase d } })
        | none => s
      | none => s

/-- The called packets of both pools. -/
def servePackets (s : State) : State := servePool true s.lanes.delivered.length (servePool false s.lanes.delivered.length s)

/-- LINK_PACKET (R207, R208, R222, R225, R226): a link packet arrives on a lane of the stripe; one that VOID ends is discarded. Packets that
R230 discards leave in their turn. -/
def execLinkPacket (k : Fin 4) (symbols : List LaneSymbol) (s : State) : Host.Outcome State Fault Refusal :=
  if rxActive s k ∧ s.lanes.linkState = 2 then
    let r := receive .sol symbols
    let s1 := noteErrors r.errors s k
    let x := laneAt s1 k
    if r.nullified || !rxActive s1 k then .next s1
    else if r.sound && packetSound s1 r.bytes && field r.bytes 0 2 % 4096 == x.rxLseq then .next (servePackets (takeLinkPacket k r.bytes s1))
    else if x.nakSent then .next s1
    else .next (sendControl (setLane s1 k { x with nakSent := true }) k 2 0 k x.rxLseq)
  else .next s

/-- The first packet of some with this pool and these bytes that no command has called is called now; a packet that no link packet delivered stands for its
own delivery (log 51). -/
def callFirst (ctl : Bool) (p : List Byte) (o : TileObs) : List Delivered → List Delivered
  | [] => [⟨ctl, 0, p, some o⟩]
  | d :: t => if d.ctl = ctl ∧ d.bytes = p ∧ d.called = none then { d with called := some o } :: t else d :: callFirst ctl p o t

/-- R230: a command that names a packet. -/
def callPacket (ctl : Bool) (p : List Byte) (o : TileObs) (s : State) : State :=
  if linkServes s then servePackets { s with lanes := { s.lanes with delivered := callFirst ctl p o s.lanes.delivered } } else s

/-- REGION (R11, R230 to R233): a region is verified, refused or staged for landing. -/
def execRegion (packet : List Byte) (s : State) : Host.Outcome State Fault Refusal := .next (callPacket false packet ⟨[], []⟩ s)

/-- REGION_LANDED (R186, R232 to R234, R266, R272, R278, R285, R392): the staged region is written, once its tiles are free, Q9 has space and C0 has
served its tokens; the packets behind it follow. -/
def execRegionLanded (o : TileObs) (s : State) : Host.Outcome State Fault Refusal := .next (servePackets (landStaged o s))

/-- SET_CLOSE (R235): the close record of a named set. -/
def execSetClose (packet : List Byte) (s : State) : Host.Outcome State Fault Refusal := .next (callPacket false packet ⟨[], []⟩ s)

/-- SET_COMMIT (R236, R237, R499). -/
def execSetCommit (packet : List Byte) (s : State) : Host.Outcome State Fault Refusal := .next (callPacket false packet ⟨[], []⟩ s)

/-- READBACK_REQ (R239, R240). -/
def execReadbackReq (packet : List Byte) (o : TileObs) (s : State) : Host.Outcome State Fault Refusal := .next (callPacket false packet o s)

/-- KDP_PACKET (R238, R254): `ecc` is what the service's reads of the queue find; without a free receive buffer, or with Q0 full, the packet waits with its control credits held. -/
def execKdpPacket (packet : List Byte) (ecc : List EccFinding) (s : State) : Host.Outcome State Fault Refusal :=
  .next (callPacket true packet ⟨ecc, []⟩ s)

end Sys2Proof.Machine
end

