-- ==== Sys2Proof/Machine/Boundary.lean ====
section
/-!
DEFINITION. The scan boundary (R63): the sequencer's next scan, and then what has waited for a new Toll period or for space: the staged region, a
readback, fills, notices to modules, and what stands at the front of the KDP queues.
-/

namespace Sys2Proof.Machine

/-- R22, R230, R262, R278: the requests that go on with the tokens of a new Toll period. -/
def goOn (o : ScanObs) (s : State) : State :=
  let landing (st : State) : State := servePackets (goOnReading (match st.chans.staging.head?.bind (·.called) with
    | some x => landStaged x st
    | none => st))
  serveFrames (postModuleHeld (finishFills (servePeriod o landing s)))

/-- SCAN_BOUNDARY (R16, R22, R63, R88, R134, R155, R230, R254, R256, R262, R278, R299, R391 to R395, R446, R478): the next scan of the frame begins. -/
def execScanBoundary (o : ScanObs) (s : State) : Host.Outcome State Fault Refusal :=
  if s.scan.running && decide (s.scan.scanInFrame < s.scan.scansThisFrame) then .next (inOrder (fun st => goOn o (beginScan o st)) s) else .next s

end Sys2Proof.Machine
end

