-- ==== Sys2Proof/Machine/Requests.lean ====
section
/-!
DEFINITION. The commands that are requests of the dictionary service or writes of an entry, one meaning for each, and what ends a session, an unlock
block, a save and an import.
-/

namespace Sys2Proof.Machine

/-- READ (R304, R307): the value of an entry. -/
def execRead (h : Hdr) (entry : EntryRef) (s : State) : Host.Outcome State Fault Refusal :=
  .next (hostRequest (requestOf h 1 (entryKey entry) 0 []) s)

/-- READ with STAGED (R307). -/
def execReadStaged (h : Hdr) (entry : EntryRef) (s : State) : Host.Outcome State Fault Refusal :=
  .next (hostRequest (requestOf h 1 (entryKey entry) 4 []) s)

/-- READ with DESCRIBE (R310). -/
def execDescribe (h : Hdr) (entry : EntryRef) (s : State) : Host.Outcome State Fault Refusal :=
  .next (hostRequest (requestOf h 1 (entryKey entry) 8 []) s)

/-- READ with SEGMENTED (R325): TOTAL, and the snapshot of R308. -/
def execSegmentedReadStart (h : Hdr) (entry : EntryRef) (s : State) : Host.Outcome State Fault Refusal :=
  .next (hostRequest (requestOf h 1 (entryKey entry) 1 []) s)

/-- WRITE (R304 to R306). -/
def execWrite (h : Hdr) (entry : EntryRef) (value : List Byte) (s : State) : Host.Outcome State Fault Refusal :=
  .next (hostRequest (requestOf h 2 (entryKey entry) 0 value) s)

/-- WRITE_STAGED (R304, R309). -/
def execWriteStaged (h : Hdr) (entry : EntryRef) (value : List Byte) (s : State) : Host.Outcome State Fault Refusal :=
  .next (hostRequest (requestOf h 3 (entryKey entry) 0 value) s)

/-- COMMIT (R323). -/
def execCommit (h : Hdr) (tag : Byte) (s : State) : Host.Outcome State Fault Refusal :=
  .next (hostRequest (requestOf h 4 0 0 [tag]) s)

/-- WRITE or WRITE_STAGED with SEGMENTED (R324): the start of a segmented write of TOTAL bytes. -/
def execSegmentedWriteStart (h : Hdr) (entry : EntryRef) (staged : Bool) (total : Word) (s : State) : Host.Outcome State Fault Refusal :=
  .next (hostRequest (requestOf h (if staged then 3 else 2) (entryKey entry) 1 (bytesLE 4 total.toNat)) s)

/-- SEGMENT of a segmented write (R324, R326). -/
def execSegmentWrite (h : Hdr) (offset : Word) (data : List Byte) (last : Bool) (s : State) : Host.Outcome State Fault Refusal :=
  .next (hostRequest (requestOf h 5 0 (2 * b2n last) (bytesLE 4 offset.toNat ++ data)) s)

/-- SEGMENT of a segmented read (R325, R326). -/
def execSegmentRead (h : Hdr) (offset : Word) (count : Half) (s : State) : Host.Outcome State Fault Refusal :=
  .next (hostRequest (requestOf h 5 0 0 (bytesLE 4 offset.toNat ++ bytesLE 2 count.toNat)) s)

/-- SESSION_OPEN (R328): a HEARTBEAT with SESSION 0. -/
def execSessionOpen (h : Hdr) (s : State) : Host.Outcome State Fault Refusal :=
  .next (hostRequest { requestOf h 7 0 0 [] with session := 0 } s)

/-- HEARTBEAT (R332). -/
def execHeartbeat (h : Hdr) (flags : Byte) (s : State) : Host.Outcome State Fault Refusal :=
  .next (hostRequest (requestOf h 7 0 flags.toNat []) s)

/-- TAKE_KEY (R332). -/
def execTakeKey (h : Hdr) (s : State) : Host.Outcome State Fault Refusal :=
  .next (hostRequest (requestOf h 7 0 1 []) s)

/-- RELEASE_KEY (R332, R333). -/
def execReleaseKey (h : Hdr) (s : State) : Host.Outcome State Fault Refusal :=
  .next (hostRequest (requestOf h 7 0 2 []) s)

/-- FORCE with TAKE_KEY (R332). -/
def execForce (h : Hdr) (s : State) : Host.Outcome State Fault Refusal :=
  .next (hostRequest (requestOf h 7 0 5 []) s)

/-- DISCARD_STAGED (R332). -/
def execDiscardStaged (h : Hdr) (s : State) : Host.Outcome State Fault Refusal :=
  .next (hostRequest (requestOf h 7 0 8 []) s)

/-- CLOSE (R330, R332). -/
def execClose (h : Hdr) (s : State) : Host.Outcome State Fault Refusal :=
  .next (hostRequest (requestOf h 7 0 0x10 []) s)

/-- DROP_SERVICE (R332, R339). -/
def execDropService (h : Hdr) (s : State) : Host.Outcome State Fault Refusal :=
  .next (hostRequest (requestOf h 7 0 0x20 []) s)

/-- UNLOCK_CHALLENGE (R336): a READ of `unlock.challenge`. -/
def execUnlockChallenge (h : Hdr) (s : State) : Host.Outcome State Fault Refusal :=
  .next (hostRequest (requestOf h 1 Reg.unlockChallenge 0 []) s)

/-- UNLOCK_RESPONSE (R337, R338): a WRITE of `unlock.response`. -/
def execUnlockResponse (h : Hdr) (mac : List Byte) (s : State) : Host.Outcome State Fault Refusal :=
  .next (hostRequest (requestOf h 2 Reg.unlockResponse 0 mac) s)

/-- UNLOCK_KEY_WRITE (R335): a WRITE of `unlock.key`. -/
def execUnlockKeyWrite (h : Hdr) (key : List Byte) (s : State) : Host.Outcome State Fault Refusal :=
  .next (hostRequest (requestOf h 2 Reg.unlockKey 0 key) s)

/-- DICT_SAVE (R311): a write of `dict.save`; the answer follows with DICT_SAVE_DONE. -/
def execDictSave (by_ : Writer) (s : State) : Host.Outcome State Fault Refusal :=
  .next (writeBy by_ false Reg.dictSave [1] s)

/-- DICT_RESTORE (R314). -/
def execDictRestore (by_ : Writer) (s : State) : Host.Outcome State Fault Refusal :=
  .next (writeBy by_ false Reg.dictRestore [1] s)

/-- CAN_MODE_WRITE (R345). -/
def execCanModeWrite (by_ : Writer) (c : Fin 2) (mode : Byte) (s : State) : Host.Outcome State Fault Refusal :=
  .next (writeBy by_ false (Reg.canMode c) [mode] s)

/-- REGISTER_WRITE (R304): a write of an entry under its access class. -/
def execRegisterWrite (by_ : Writer) (entry : EntryRef) (value : List Byte) (s : State) : Host.Outcome State Fault Refusal :=
  .next (writeBy by_ (stagedEntry s (entryKey entry)) (entryKey entry) value s)

/-- COMMIT_REQUEST (R77): a write of `commit.request`. -/
def execCommitRequest (by_ : Writer) (tag : Byte) (s : State) : Host.Outcome State Fault Refusal :=
  .next (writeBy by_ false Reg.commitRequest [tag] s)

/-- DRIVE_RECOMPUTE (R119). -/
def execDriveRecompute (by_ : Writer) (s : State) : Host.Outcome State Fault Refusal :=
  .next (writeBy by_ false Reg.driveRecompute [1] s)

/-- DIAG_CLEAR (R170). -/
def execDiagClear (by_ : Writer) (pixel : Word) (s : State) : Host.Outcome State Fault Refusal :=
  .next (writeBy by_ false Reg.diagClear (bytesLE 4 pixel.toNat) s)

/-- DIAG_DISABLE (R171): a staged write of 0 to `diag.enable`. -/
def execDiagDisable (by_ : Writer) (s : State) : Host.Outcome State Fault Refusal :=
  .next (writeBy by_ true Reg.diagEnable [0] s)

/-- LANE_ENABLE_MASK_WRITE (R246). -/
def execLaneEnableMaskWrite (by_ : Writer) (mask : Byte) (s : State) : Host.Outcome State Fault Refusal :=
  .next (writeBy by_ false Reg.laneEnableMask [mask] s)

/-- CHAN_CREATE (R261 to R263). -/
def execChanCreate (by_ : Writer) (descriptor : List Byte) (s : State) : Host.Outcome State Fault Refusal :=
  .next (writeBy by_ false Reg.chanCreate descriptor s)

/-- CHAN_DESTROY (R266). -/
def execChanDestroy (by_ : Writer) (handle : Word) (s : State) : Host.Outcome State Fault Refusal :=
  .next (writeBy by_ false Reg.chanDestroy (bytesLE 4 handle.toNat) s)

/-- QUEUE_ENTRIES_WRITE (R279). -/
def execQueueEntriesWrite (by_ : Writer) (q : Fin 16) (n : Half) (s : State) : Host.Outcome State Fault Refusal :=
  .next (writeBy by_ false (Reg.queueEntries q) (bytesLE 2 n.toNat) s)

/-- ASSAY_RESET (R291). -/
def execAssayReset (by_ : Writer) (a : Fin 8) (s : State) : Host.Outcome State Fault Refusal :=
  .next (writeBy by_ false (Reg.assayReset a) [1] s)

/-- ASSAY_CONFIG_WRITE (R292). -/
def execAssayConfigWrite (by_ : Writer) (a : Fin 8) (v : Word) (s : State) : Host.Outcome State Fault Refusal :=
  .next (writeBy by_ false (Reg.assayConfig a) (bytesLE 4 v.toNat) s)

/-- RECT_LEARN (R296). -/
def execRectLearn (by_ : Writer) (r : Fin 16) (s : State) : Host.Outcome State Fault Refusal :=
  .next (writeBy by_ false (Reg.rectLearn r) [1] s)

/-- IMAGE_WRITE (R369): a segmented write of `eng.image_write`. -/
def execImageWrite (h : Hdr) (image : List Byte) (s : State) : Host.Outcome State Fault Refusal :=
  .next (segmentedWrite h Reg.engImageWrite image s)

/-- IMAGE_ACTIVATE (R369). -/
def execImageActivate (by_ : Writer) (s : State) : Host.Outcome State Fault Refusal :=
  .next (writeBy by_ false Reg.engImageActivate [1] s)

/-- EVT_CLEAR (R387). -/
def execEvtClear (by_ : Writer) (mask : BitVec 128) (s : State) : Host.Outcome State Fault Refusal :=
  .next (writeBy by_ false Reg.evtClear (bytesLE 16 mask.toNat) s)

/-- ADCG_FIRE (R426): a write of `adcg.fire` of G4 to G7. -/
def execAdcgFire (by_ : Writer) (g : Fin 4) (s : State) : Host.Outcome State Fault Refusal :=
  .next (writeBy by_ false (Reg.adcgFire (4 + g)) [1] s)

/-- ADCG_ENABLE (R439): a write of `adcg.enable` of G4 to G7. -/
def execAdcgEnable (by_ : Writer) (g : Fin 4) (on : Bool) (s : State) : Host.Outcome State Fault Refusal :=
  .next (writeBy by_ false (Reg.adcgEnable (4 + g)) (bytesLE 1 (b2n on)) s)

/-- CAL_IMPORT (R459, R460): a segmented write of `cal.import`. -/
def execCalImport (h : Hdr) (file : List Byte) (s : State) : Host.Outcome State Fault Refusal :=
  .next (segmentedWrite h Reg.calImport file s)

/-- PWR_REQUEST_READY (R476). -/
def execPwrRequestReady (by_ : Writer) (s : State) : Host.Outcome State Fault Refusal :=
  .next (writeBy by_ false Reg.pwrRequest [1] s)

/-- PWR_REQUEST_LIT (R476). -/
def execPwrRequestLit (by_ : Writer) (s : State) : Host.Outcome State Fault Refusal :=
  .next (writeBy by_ false Reg.pwrRequest [2] s)

/-- PWR_REQUEST_SLEEP (R476). -/
def execPwrRequestSleep (by_ : Writer) (s : State) : Host.Outcome State Fault Refusal :=
  .next (writeBy by_ false Reg.pwrRequest [3] s)

/-- ARRAY_MASK_WRITE (R475). -/
def execArrayMaskWrite (by_ : Writer) (mask : Byte) (s : State) : Host.Outcome State Fault Refusal :=
  .next (writeBy by_ false Reg.pwrArrayMask [mask] s)

/-- LANTERN_COMMAND (R503). -/
def execLanternCommand (by_ : Writer) (s : State) : Host.Outcome State Fault Refusal :=
  .next (writeBy by_ false Reg.lanternCommand [1] s)

/-- LANTERN_RELEASE (R504). -/
def execLanternRelease (by_ : Writer) (s : State) : Host.Outcome State Fault Refusal :=
  .next (writeBy by_ false Reg.lanternRelease [1] s)

/-- DUMP_CLEAR (R510): a write of `dump.clear`. -/
def execDumpClear (by_ : Writer) (s : State) : Host.Outcome State Fault Refusal :=
  .next (writeBy by_ false Reg.dumpClear [1] s)

/-- ADC_INJ_REQUEST (R429): a write of `adc.inj_request`, or a hardware source that `adc.inj_config` enables. -/
def execAdcInjRequest (source : InjSource) (s : State) : Host.Outcome State Fault Refusal :=
  match source with
  | .write w => .next (writeBy w false Reg.adcInjRequest [1] s)
  | .loadstep => .next (hardwareInject s 0)
  | .fltIn => .next (hardwareInject s 1)
  | .e2 => .next (hardwareInject s 2)

/-- SESSION_TIMEOUT (R330): no request of the session for `kdp.session_timeout_ms`. Session `s` of the row counts from 0. -/
def execSessionTimeout (n : Fin 8) (s : State) : Host.Outcome State Fault Refusal :=
  let x := sessOf s (n + 1)
  if x.isOpen && (serves s x.transport) then
    let s1 := s.atLeast (x.lastRequest + s.reg Reg.kdpSessionTimeoutMs * 1000000)
    .next (raise 99 (bytesLE 1 (n + 1) ++ bytesLE 1 x.transport) (closeSession s1 (n + 1)))
  else .next s

/-- UNLOCK_BLOCK_END (R338). -/
def execUnlockBlockEnd (s : State) : Host.Outcome State Fault Refusal :=
  if s.kdp.blocked then
    let s1 := s.atLeast s.kdp.blockEnd
    .next { s1.setReg Reg.unlockBlockS 0 with kdp := { s1.kdp with blocked := false, blockEnd := 0 } }
  else .next s

/-- DICT_SAVE_DONE (R311, R312): the set is stored, and the write that asked for it is answered. -/
def execDictSaveDone (s : State) : Host.Outcome State Fault Refusal :=
  match s.kdp.saving with
  | some (n, header, set) =>
    let s1 := storeSaved s set
    .next (lateAnswer { s1 with kdp := { s1.kdp with saving := none } } n header 0 (latePayload header))
  | none => .next s

/-- CAL_IMPORT_WRITE_DONE (R460, R42): the import stands in MRAM, the Lantern frames are due for its calibration, and the final segment is answered. -/
def execCalImportWriteDone (s : State) : Host.Outcome State Fault Refusal :=
  if s.cal.imp.state = 2 then
    let s := dueLantern s
    match s.cal.imp.asker with
    | some (n, header) => .next (lateAnswer (finishImport s) n header 0 (latePayload header))
    | none => .next (finishImport s)
  else .next s

end Sys2Proof.Machine
end

