-- ==== Sys2Proof/Machine/Dispatch.lean ====
section
/-!
DEFINITION. The dispatch: one arm for each row of the opcode table, each a direct call of that row's meaning.
-/

namespace Sys2Proof.Machine

def exec (i : Instr) (s : State) : Host.Outcome State Fault Refusal :=
  match i with
  | .xinLoss => Sys2Proof.Machine.execXinLoss s
  | .xinRestored => Sys2Proof.Machine.execXinRestored s
  | .scanBoundary o => Sys2Proof.Machine.execScanBoundary o s
  | .phaseSlot o => Sys2Proof.Machine.execPhaseSlot o s
  | .coverageRewrite => Sys2Proof.Machine.execCoverageRewrite s
  | .listenRoundEnd => Sys2Proof.Machine.execListenRoundEnd s
  | .massGuardRearm => Sys2Proof.Machine.execMassGuardRearm s
  | .frameBoundary => Sys2Proof.Machine.execFrameBoundary s
  | .clusterSwap g again echo => Sys2Proof.Machine.execClusterSwap g again echo s
  | .teOutRise => Sys2Proof.Machine.execTeOutRise s
  | .commitWindowClose => Sys2Proof.Machine.execCommitWindowClose s
  | .admissionPoint => Sys2Proof.Machine.execAdmissionPoint s
  | .syncEdge => Sys2Proof.Machine.execSyncEdge s
  | .syncEdgeMissing => Sys2Proof.Machine.execSyncEdgeMissing s
  | .syncAcquireTimeout => Sys2Proof.Machine.execSyncAcquireTimeout s
  | .commitRequest by_ tag => Sys2Proof.Machine.execCommitRequest by_ tag s
  | .composeTileDone t o => Sys2Proof.Machine.execComposeTileDone t o s
  | .driveTileDone t o => Sys2Proof.Machine.execDriveTileDone t o s
  | .latchLoadTileDone t o echo => Sys2Proof.Machine.execLatchLoadTileDone t o echo s
  | .driveRecompute by_ => Sys2Proof.Machine.execDriveRecompute by_ s
  | .faultNotice ecc => Sys2Proof.Machine.execFaultNotice ecc s
  | .diagClear by_ pixel => Sys2Proof.Machine.execDiagClear by_ pixel s
  | .diagDisable by_ => Sys2Proof.Machine.execDiagDisable by_ s
  | .writebackDone o => Sys2Proof.Machine.execWritebackDone o s
  | .laneBitLock k net0 net1 => Sys2Proof.Machine.execLaneBitLock k net0 net1 s
  | .trainingSequence k ts => Sys2Proof.Machine.execTrainingSequence k ts s
  | .laneAdaptDone k a => Sys2Proof.Machine.execLaneAdaptDone k a s
  | .laneDeskewDone k => Sys2Proof.Machine.execLaneDeskewDone k s
  | .rungTimeout k => Sys2Proof.Machine.execRungTimeout k s
  | .linkUpWaitEnd => Sys2Proof.Machine.execLinkUpWaitEnd s
  | .emiUpdate k eye => Sys2Proof.Machine.execEmiUpdate k eye s
  | .laneEmiDrop k => Sys2Proof.Machine.execLaneEmiDrop k s
  | .lullSetReceived k lull => Sys2Proof.Machine.execLullSetReceived k lull s
  | .lullSetSend => Sys2Proof.Machine.execLullSetSend s
  | .linkPacket k symbols => Sys2Proof.Machine.execLinkPacket k symbols s
  | .ack k symbols => Sys2Proof.Machine.execAck k symbols s
  | .nak k symbols => Sys2Proof.Machine.execNak k symbols s
  | .credit k symbols => Sys2Proof.Machine.execCredit k symbols s
  | .drop k symbols => Sys2Proof.Machine.execDrop k symbols s
  | .replayTimeout k => Sys2Proof.Machine.execReplayTimeout k s
  | .laneLost k cause => Sys2Proof.Machine.execLaneLost k cause s
  | .laneRejoin k lull => Sys2Proof.Machine.execLaneRejoin k lull s
  | .laneEnableMaskWrite by_ mask => Sys2Proof.Machine.execLaneEnableMaskWrite by_ mask s
  | .partnerAbsent => Sys2Proof.Machine.execPartnerAbsent s
  | .region packet => Sys2Proof.Machine.execRegion packet s
  | .regionLanded o => Sys2Proof.Machine.execRegionLanded o s
  | .setClose packet => Sys2Proof.Machine.execSetClose packet s
  | .setCommit packet => Sys2Proof.Machine.execSetCommit packet s
  | .kdpPacket packet ecc => Sys2Proof.Machine.execKdpPacket packet ecc s
  | .readbackReq packet o => Sys2Proof.Machine.execReadbackReq packet o s
  | .chanCreate by_ descriptor => Sys2Proof.Machine.execChanCreate by_ descriptor s
  | .chanDestroy by_ handle => Sys2Proof.Machine.execChanDestroy by_ handle s
  | .deferredFree slot => Sys2Proof.Machine.execDeferredFree slot s
  | .rowRepairDone row => Sys2Proof.Machine.execRowRepairDone row s
  | .queueEntriesWrite by_ q n => Sys2Proof.Machine.execQueueEntriesWrite by_ q n s
  | .assayReset by_ a => Sys2Proof.Machine.execAssayReset by_ a s
  | .assayConfigWrite by_ a v => Sys2Proof.Machine.execAssayConfigWrite by_ a v s
  | .rectValueCheck r ecc => Sys2Proof.Machine.execRectValueCheck r ecc s
  | .rectLearn by_ r => Sys2Proof.Machine.execRectLearn by_ r s
  | .lightCheck r => Sys2Proof.Machine.execLightCheck r s
  | .read h entry => Sys2Proof.Machine.execRead h entry s
  | .readStaged h entry => Sys2Proof.Machine.execReadStaged h entry s
  | .describe h entry => Sys2Proof.Machine.execDescribe h entry s
  | .write h entry value => Sys2Proof.Machine.execWrite h entry value s
  | .writeStaged h entry value => Sys2Proof.Machine.execWriteStaged h entry value s
  | .commit h tag => Sys2Proof.Machine.execCommit h tag s
  | .segmentedWriteStart h entry staged total => Sys2Proof.Machine.execSegmentedWriteStart h entry staged total s
  | .segmentedReadStart h entry => Sys2Proof.Machine.execSegmentedReadStart h entry s
  | .segmentWrite h offset data last => Sys2Proof.Machine.execSegmentWrite h offset data last s
  | .segmentRead h offset count => Sys2Proof.Machine.execSegmentRead h offset count s
  | .sessionOpen h => Sys2Proof.Machine.execSessionOpen h s
  | .heartbeat h flags => Sys2Proof.Machine.execHeartbeat h flags s
  | .takeKey h => Sys2Proof.Machine.execTakeKey h s
  | .releaseKey h => Sys2Proof.Machine.execReleaseKey h s
  | .force h => Sys2Proof.Machine.execForce h s
  | .discardStaged h => Sys2Proof.Machine.execDiscardStaged h s
  | .close h => Sys2Proof.Machine.execClose h s
  | .dropService h => Sys2Proof.Machine.execDropService h s
  | .sessionTimeout n => Sys2Proof.Machine.execSessionTimeout n s
  | .dictSave by_ => Sys2Proof.Machine.execDictSave by_ s
  | .dictRestore by_ => Sys2Proof.Machine.execDictRestore by_ s
  | .unlockChallenge h => Sys2Proof.Machine.execUnlockChallenge h s
  | .unlockResponse h mac => Sys2Proof.Machine.execUnlockResponse h mac s
  | .unlockKeyWrite h key => Sys2Proof.Machine.execUnlockKeyWrite h key s
  | .unlockBlockEnd => Sys2Proof.Machine.execUnlockBlockEnd s
  | .put length bytes ecc => Sys2Proof.Machine.execPut length bytes ecc s
  | .get clocked => Sys2Proof.Machine.execGet clocked s
  | .stat => Sys2Proof.Machine.execStat s
  | .spiUnknownCommand command => Sys2Proof.Machine.execSpiUnknownCommand command s
  | .canFrameRx c f ecc => Sys2Proof.Machine.execCanFrameRx c f ecc s
  | .canBitrateApply c => Sys2Proof.Machine.execCanBitrateApply c s
  | .canModeWrite by_ c mode => Sys2Proof.Machine.execCanModeWrite by_ c mode s
  | .registerWrite by_ entry value => Sys2Proof.Machine.execRegisterWrite by_ entry value s
  | .add e rd ra rb => Sys2Proof.Machine.execAdd e rd ra rb s
  | .sub e rd ra rb => Sys2Proof.Machine.execSub e rd ra rb s
  | .and e rd ra rb => Sys2Proof.Machine.execAnd e rd ra rb s
  | .or e rd ra rb => Sys2Proof.Machine.execOr e rd ra rb s
  | .xor e rd ra rb => Sys2Proof.Machine.execXor e rd ra rb s
  | .sll e rd ra rb => Sys2Proof.Machine.execSll e rd ra rb s
  | .srl e rd ra rb => Sys2Proof.Machine.execSrl e rd ra rb s
  | .sra e rd ra rb => Sys2Proof.Machine.execSra e rd ra rb s
  | .mul e rd ra rb => Sys2Proof.Machine.execMul e rd ra rb s
  | .mulh e rd ra rb => Sys2Proof.Machine.execMulh e rd ra rb s
  | .mulhu e rd ra rb => Sys2Proof.Machine.execMulhu e rd ra rb s
  | .div e rd ra rb => Sys2Proof.Machine.execDiv e rd ra rb s
  | .divu e rd ra rb => Sys2Proof.Machine.execDivu e rd ra rb s
  | .rem e rd ra rb => Sys2Proof.Machine.execRem e rd ra rb s
  | .remu e rd ra rb => Sys2Proof.Machine.execRemu e rd ra rb s
  | .cmp e ra rb => Sys2Proof.Machine.execCmp e ra rb s
  | .clz e rd ra => Sys2Proof.Machine.execClz e rd ra s
  | .addi e rd ra imm => Sys2Proof.Machine.execAddi e rd ra imm s
  | .andi e rd ra imm => Sys2Proof.Machine.execAndi e rd ra imm s
  | .ori e rd ra imm => Sys2Proof.Machine.execOri e rd ra imm s
  | .xori e rd ra imm => Sys2Proof.Machine.execXori e rd ra imm s
  | .shi e rd ra imm => Sys2Proof.Machine.execShi e rd ra imm s
  | .lui e rd imm => Sys2Proof.Machine.execLui e rd imm s
  | .cmpi e ra imm => Sys2Proof.Machine.execCmpi e ra imm s
  | .lb e rd ra imm m => Sys2Proof.Machine.execLb e rd ra imm m s
  | .lbu e rd ra imm m => Sys2Proof.Machine.execLbu e rd ra imm m s
  | .lh e rd ra imm m => Sys2Proof.Machine.execLh e rd ra imm m s
  | .lhu e rd ra imm m => Sys2Proof.Machine.execLhu e rd ra imm m s
  | .lw e rd ra imm m => Sys2Proof.Machine.execLw e rd ra imm m s
  | .sb e rd ra imm m => Sys2Proof.Machine.execSb e rd ra imm m s
  | .sh e rd ra imm m => Sys2Proof.Machine.execSh e rd ra imm m s
  | .sw e rd ra imm m => Sys2Proof.Machine.execSw e rd ra imm m s
  | .b e cond offset => Sys2Proof.Machine.execB e cond offset s
  | .bl e offset => Sys2Proof.Machine.execBl e offset s
  | .jr e rd ra imm => Sys2Proof.Machine.execJr e rd ra imm s
  | .amoadd e rd ra rb m => Sys2Proof.Machine.execAmoadd e rd ra rb m s
  | .amoswap e rd ra rb m => Sys2Proof.Machine.execAmoswap e rd ra rb m s
  | .cas e rd ra rb m => Sys2Proof.Machine.execCas e rd ra rb m s
  | .amoor e rd ra rb m => Sys2Proof.Machine.execAmoor e rd ra rb m s
  | .amoand e rd ra rb m => Sys2Proof.Machine.execAmoand e rd ra rb m s
  | .qpush e ra imm m => Sys2Proof.Machine.execQpush e ra imm m s
  | .qpop e rd ra imm m => Sys2Proof.Machine.execQpop e rd ra imm m s
  | .qack e ra imm => Sys2Proof.Machine.execQack e ra imm s
  | .ewait e rd ra => Sys2Proof.Machine.execEwait e rd ra s
  | .esig e ra imm m => Sys2Proof.Machine.execEsig e ra imm m s
  | .move e rd ra m => Sys2Proof.Machine.execMove e rd ra m s
  | .mwait e rd ra => Sys2Proof.Machine.execMwait e rd ra s
  | .assay e rd ra rb m => Sys2Proof.Machine.execAssay e rd ra rb m s
  | .toll e rd imm => Sys2Proof.Machine.execToll e rd imm s
  | .twait e => Sys2Proof.Machine.execTwait e s
  | .chkpt e ra m => Sys2Proof.Machine.execChkpt e ra m s
  | .tret e => Sys2Proof.Machine.execTret e s
  | .illegalInstruction e m => Sys2Proof.Machine.execIllegalInstruction e m s
  | .wdogWrite e rd => Sys2Proof.Machine.execWdogWrite e rd s
  | .evrouteWrite e rd => Sys2Proof.Machine.execEvrouteWrite e rd s
  | .timeLoRead e rd => Sys2Proof.Machine.execTimeLoRead e rd s
  | .dictOpRead e => Sys2Proof.Machine.execDictOpRead e s
  | .dictOpWrite e m => Sys2Proof.Machine.execDictOpWrite e m s
  | .dictOpWriteStaged e m => Sys2Proof.Machine.execDictOpWriteStaged e m s
  | .dictOpReadStaged e => Sys2Proof.Machine.execDictOpReadStaged e s
  | .moveComplete e o m => Sys2Proof.Machine.execMoveComplete e o m s
  | .watchdogExpiry e => Sys2Proof.Machine.execWatchdogExpiry e s
  | .wjResume => Sys2Proof.Machine.execWjResume s
  | .wjSelfCheck passed => Sys2Proof.Machine.execWjSelfCheck passed s
  | .pairOutputTimeout => Sys2Proof.Machine.execPairOutputTimeout s
  | .pairSelfCheckDone pass0 pass1 => Sys2Proof.Machine.execPairSelfCheckDone pass0 pass1 s
  | .imageWrite h image => Sys2Proof.Machine.execImageWrite h image s
  | .imageActivate by_ => Sys2Proof.Machine.execImageActivate by_ s
  | .evtClear by_ mask => Sys2Proof.Machine.execEvtClear by_ mask s
  | .stormWindowEnd => Sys2Proof.Machine.execStormWindowEnd s
  | .fieldSensorReading f r => Sys2Proof.Machine.execFieldSensorReading f r s
  | .throttleHoldEnd => Sys2Proof.Machine.execThrottleHoldEnd s
  | .tpVote n => Sys2Proof.Machine.execTpVote n s
  | .tpMonitorReading n r => Sys2Proof.Machine.execTpMonitorReading n r s
  | .adcGridPoint z => Sys2Proof.Machine.execAdcGridPoint z s
  | .adcConversionDone k raw spare => Sys2Proof.Machine.execAdcConversionDone k raw spare s
  | .groupTrigger g => Sys2Proof.Machine.execGroupTrigger g s
  | .adcgFire by_ g => Sys2Proof.Machine.execAdcgFire by_ g s
  | .adcgEnable by_ g on => Sys2Proof.Machine.execAdcgEnable by_ g on s
  | .adcInjRequest source => Sys2Proof.Machine.execAdcInjRequest source s
  | .spareRotation c => Sys2Proof.Machine.execSpareRotation c s
  | .spareHandover => Sys2Proof.Machine.execSpareHandover s
  | .shadowAbandon => Sys2Proof.Machine.execShadowAbandon s
  | .sinkMeasurement f permille => Sys2Proof.Machine.execSinkMeasurement f permille s
  | .fieldRefTrim o => Sys2Proof.Machine.execFieldRefTrim o s
  | .agingNotice ecc => Sys2Proof.Machine.execAgingNotice ecc s
  | .trimMapSave => Sys2Proof.Machine.execTrimMapSave s
  | .mirrorBuildDone o => Sys2Proof.Machine.execMirrorBuildDone o s
  | .calImport h file => Sys2Proof.Machine.execCalImport h file s
  | .vsupValid p => Sys2Proof.Machine.execVsupValid p s
  | .vsupUvWarn mv => Sys2Proof.Machine.execVsupUvWarn mv s
  | .rideThrough mv => Sys2Proof.Machine.execRideThrough mv s
  | .brownOut journal => Sys2Proof.Machine.execBrownOut journal s
  | .domainRampDone d => Sys2Proof.Machine.execDomainRampDone d s
  | .domainDrainDone d => Sys2Proof.Machine.execDomainDrainDone d s
  | .pwrRequestReady by_ => Sys2Proof.Machine.execPwrRequestReady by_ s
  | .pwrRequestLit by_ => Sys2Proof.Machine.execPwrRequestLit by_ s
  | .pwrRequestSleep by_ => Sys2Proof.Machine.execPwrRequestSleep by_ s
  | .arrayMaskWrite by_ mask => Sys2Proof.Machine.execArrayMaskWrite by_ mask s
  | .wakeRise => Sys2Proof.Machine.execWakeRise s
  | .wakeOffTimeout => Sys2Proof.Machine.execWakeOffTimeout s
  | .canWake => Sys2Proof.Machine.execCanWake s
  | .resetNPulse => Sys2Proof.Machine.execResetNPulse s
  | .fltIn => Sys2Proof.Machine.execFltIn s
  | .inputStuck n => Sys2Proof.Machine.execInputStuck n s
  | .inputPulseIgnored n => Sys2Proof.Machine.execInputPulseIgnored n s
  | .loadstepRise => Sys2Proof.Machine.execLoadstepRise s
  | .loadstepFall => Sys2Proof.Machine.execLoadstepFall s
  | .anticipationEnd => Sys2Proof.Machine.execAnticipationEnd s
  | .vcoreAdjust => Sys2Proof.Machine.execVcoreAdjust s
  | .lanternLoadDone bad again => Sys2Proof.Machine.execLanternLoadDone bad again s
  | .bootEnd => Sys2Proof.Machine.execBootEnd s
  | .startBistDone v => Sys2Proof.Machine.execStartBistDone v s
  | .shutdownBist => Sys2Proof.Machine.execShutdownBist s
  | .bistFirmwareWindowEnd => Sys2Proof.Machine.execBistFirmwareWindowEnd s
  | .bistAbort => Sys2Proof.Machine.execBistAbort s
  | .hostTimeout => Sys2Proof.Machine.execHostTimeout s
  | .feedLoss => Sys2Proof.Machine.execFeedLoss s
  | .lanternCommand by_ => Sys2Proof.Machine.execLanternCommand by_ s
  | .lanternRelease by_ => Sys2Proof.Machine.execLanternRelease by_ s
  | .dumpTrigger ecc => Sys2Proof.Machine.execDumpTrigger ecc s
  | .dumpClose ecc => Sys2Proof.Machine.execDumpClose ecc s
  | .dumpClear by_ => Sys2Proof.Machine.execDumpClear by_ s
  | .vsupUvWarnClear mv => Sys2Proof.Machine.execVsupUvWarnClear mv s
  | .rideThroughStart mv => Sys2Proof.Machine.execRideThroughStart mv s
  | .vioLoss => Sys2Proof.Machine.execVioLoss s
  | .vioRestored => Sys2Proof.Machine.execVioRestored s
  | .fltInRelease => Sys2Proof.Machine.execFltInRelease s
  | .wakeFall => Sys2Proof.Machine.execWakeFall s
  | .tpVoteRelease n => Sys2Proof.Machine.execTpVoteRelease n s
  | .ainClamp pin on => Sys2Proof.Machine.execAinClamp pin on s
  | .ainClampHoldEnd => Sys2Proof.Machine.execAinClampHoldEnd s
  | .syncPulseEnd => Sys2Proof.Machine.execSyncPulseEnd s
  | .ewaitTimeout e => Sys2Proof.Machine.execEwaitTimeout e s
  | .hallmarkStepDone v => Sys2Proof.Machine.execHallmarkStepDone v s
  | .engineStart modules => Sys2Proof.Machine.execEngineStart modules s
  | .dictSaveDone => Sys2Proof.Machine.execDictSaveDone s
  | .calImportWriteDone => Sys2Proof.Machine.execCalImportWriteDone s
  | .busOff c => Sys2Proof.Machine.execBusOff c s
  | .busOffRecovery c => Sys2Proof.Machine.execBusOffRecovery c s
  | .tckEdge j => Sys2Proof.Machine.execTckEdge j s

end Sys2Proof.Machine
end

