-- ==== Sys2Proof/Machine/Fetch.lean ====
section
/-!
DEFINITION. The engines' own work between commands (R350, R352, R353, R356): each running engine fetches the word at its program counter and
executes the instruction that it means.
-/

namespace Sys2Proof.Machine

/-- R350, R356: the word of the instruction RAM at an engine's program counter, least significant byte first. -/
def fetchWord (s : State) (e : Nat) : Word := loadValue false (memRange (engOf s e).iram (engOf s e).pc.toNat 4)

/-- Whether an engine fetches: it executes, and from a segment of an image; the recovery loader's ROM holds no code that the spec gives (R368, log 181). -/
def fetches (s : State) (e : Nat) : Bool := engineReady s e && decide ((engOf s e).image < 3)

/-- R350, R353: an engine that fetches executes the instruction at its program counter. -/
def runEngine (s : State) (e : Fin 9) : State :=
  if fetches s e then
    match exec (decodeEngine e (fetchWord s e)) s with
    | .next t => t
    | .fault _ => s
    | .refused _ => s
  else s

/-- One instruction for each engine, W0 first (log 181). -/
def runEngines (s : State) : State := (List.finRange 9).foldl runEngine s

/-- A step with no command waiting: the time code counts on and each engine executes an instruction; nothing in OFF (log 1). -/
def idle (s : State) : State := if s.power.device = 0 then s else runEngines s.tick

end Sys2Proof.Machine
end

