-- ==== Sys2Proof/Laws/Maps.lean ====
section
/-!
SUPPORT. The laws of sparse maps and byte memories: a read after a write, at the same key and at another, and the canonical form that every
write keeps.
-/

namespace Sys2Proof.Laws

open Sys2Proof.Machine

/-- What stands in a list that a condition empties. -/
theorem mem_mid {α : Type} {c : Prop} [Decidable c] {x p : α} (h : p ∈ (if c then [] else [x] : List α)) : p = x ∧ ¬ c := by
  split at h
  · simp at h
  · exact ⟨by simpa using h, by assumption⟩

/-! ### Reading -/

/-- A reading past a part in which the key does not stand. -/
theorem mapGet_append_none (d : Nat → Nat) (l m : NatMap) (k : Nat) (h : ∀ p ∈ l, p.1 ≠ k) : mapGet d (l ++ m) k = mapGet d m k := by
  induction l with
  | nil => rfl
  | cons p t ih =>
    obtain ⟨a, v⟩ := p
    have ha : a ≠ k := h (a, v) (by simp)
    simp only [List.cons_append, mapGet, if_neg ha]
    exact ih (fun q hq => h q (by simp [hq]))

/-- A key that does not stand in a map has its default. -/
theorem mapGet_none (d : Nat → Nat) (m : NatMap) (k : Nat) (h : ∀ p ∈ m, p.1 ≠ k) : mapGet d m k = d k := by
  have := mapGet_append_none d m [] k h
  simpa [mapGet] using this

/-- A reading of a filtered map whose filter keeps the key. -/
theorem mapGet_filter (d : Nat → Nat) (f : Nat × Nat → Bool) (m r : NatMap) (k : Nat) (hk : ∀ v, f (k, v) = true) :
    mapGet d (m.filter f ++ r) k = if m.any (fun p => p.1 == k) then mapGet d m k else mapGet d r k := by
  induction m with
  | nil => simp
  | cons p t ih =>
    obtain ⟨a, v⟩ := p
    by_cases ha : a = k
    · subst ha; simp [List.filter, hk v, mapGet]
    · by_cases hf : f (a, v) = true
      · simp only [List.filter, hf, List.cons_append, mapGet, if_neg ha, ih, List.any_cons, beq_eq_false_iff_ne.2 ha, Bool.false_or]
      · simp only [List.filter, hf, mapGet, if_neg ha, ih, List.any_cons, beq_eq_false_iff_ne.2 ha, Bool.false_or]

/-- A read of the key just put. -/
@[simp] theorem mapGet_put (d : Nat → Nat) (m : NatMap) (k v : Nat) : mapGet d (mapPut d k v m) k = v := by
  unfold mapPut
  rw [List.append_assoc, mapGet_append_none d _ _ k (by intro p hp; simp [List.mem_filter] at hp; omega)]
  by_cases hv : v = d k
  · rw [if_pos hv, List.nil_append, mapGet_none d _ k (by intro p hp; simp [List.mem_filter] at hp; omega), hv]
  · rw [if_neg hv]; simp [mapGet]

/-- A key absent from a map has its default. -/
theorem mapGet_of_not_any (d : Nat → Nat) (m : NatMap) (k : Nat) (h : m.any (fun p => p.1 == k) = false) : mapGet d m k = d k := by
  apply mapGet_none
  intro p hp hk
  have : m.any (fun p => p.1 == k) = true := List.any_eq_true.2 ⟨p, hp, by simp [hk]⟩
  simp [this] at h

/-- A read of another key than the one put. -/
theorem mapGet_put_ne (d : Nat → Nat) (m : NatMap) (k j v : Nat) (h : j ≠ k) : mapGet d (mapPut d k v m) j = mapGet d m j := by
  unfold mapPut
  have hmid : ∀ r, mapGet d ((if v = d k then [] else [(k, v)]) ++ r) j = mapGet d r j := by
    intro r
    apply mapGet_append_none
    intro p hp
    rw [(mem_mid hp).1]; exact fun e => h e.symm
  rw [List.append_assoc]
  by_cases hj : j < k
  · rw [mapGet_filter d _ m _ j (fun _ => by simp [hj])]
    by_cases ha : m.any (fun p => p.1 == j) = true
    · simp [ha]
    · rw [if_neg ha, hmid, mapGet_none d _ j (by intro p hp; simp [List.mem_filter] at hp; omega), mapGet_of_not_any d m j (Bool.eq_false_iff.2 ha)]
  · rw [mapGet_append_none d _ _ j (by intro p hp; simp [List.mem_filter] at hp; omega), hmid]
    have := mapGet_filter d (fun p => decide (k < p.1)) m [] j (fun _ => by simp; omega)
    rw [List.append_nil] at this
    rw [this]
    by_cases ha : m.any (fun p => p.1 == j) = true
    · simp [ha]
    · rw [if_neg ha, mapGet_of_not_any d m j (Bool.eq_false_iff.2 ha)]; rfl

/-- A memory as a sparse map of numbers. -/
theorem memGet_append_none (l m : Memory) (k : Nat) (h : ∀ p ∈ l, p.1 ≠ k) : memGet (l ++ m) k = memGet m k := by
  induction l with
  | nil => rfl
  | cons p t ih =>
    obtain ⟨a, v⟩ := p
    have ha : a ≠ k := h (a, v) (by simp)
    simp only [List.cons_append, memGet, if_neg ha]
    exact ih (fun q hq => h q (by simp [hq]))

/-- An address that is not listed reads 0. -/
theorem memGet_none (m : Memory) (k : Nat) (h : ∀ p ∈ m, p.1 ≠ k) : memGet m k = 0 := by
  have := memGet_append_none m [] k h
  simpa [memGet] using this

/-- A reading of a filtered memory whose filter keeps the address. -/
theorem memGet_filter (f : Nat × Byte → Bool) (m r : Memory) (k : Nat) (hk : ∀ v, f (k, v) = true) :
    memGet (m.filter f ++ r) k = if m.any (fun p => p.1 == k) then memGet m k else memGet r k := by
  induction m with
  | nil => simp
  | cons p t ih =>
    obtain ⟨a, v⟩ := p
    by_cases ha : a = k
    · subst ha; simp [List.filter, hk v, memGet]
    · by_cases hf : f (a, v) = true
      · simp only [List.filter, hf, List.cons_append, memGet, if_neg ha, ih, List.any_cons, beq_eq_false_iff_ne.2 ha, Bool.false_or]
      · simp only [List.filter, hf, memGet, if_neg ha, ih, List.any_cons, beq_eq_false_iff_ne.2 ha, Bool.false_or]

/-- An unlisted address, by a test of the list. -/
theorem memGet_of_not_any (m : Memory) (k : Nat) (h : m.any (fun p => p.1 == k) = false) : memGet m k = 0 := by
  apply memGet_none
  intro p hp hk
  have : m.any (fun p => p.1 == k) = true := List.any_eq_true.2 ⟨p, hp, by simp [hk]⟩
  simp [this] at h

/-- A read of the byte just written. -/
@[simp] theorem memGet_put (m : Memory) (k : Nat) (v : Byte) : memGet (memPut k v m) k = v := by
  unfold memPut
  rw [List.append_assoc, memGet_append_none _ _ k (by intro p hp; simp [List.mem_filter] at hp; omega)]
  by_cases hv : v = 0
  · rw [if_pos hv, List.nil_append, memGet_none _ k (by intro p hp; simp [List.mem_filter] at hp; omega), hv]
  · rw [if_neg hv]; simp [memGet]

/-- A read of another byte than the one written. -/
theorem memGet_put_ne (m : Memory) (k j : Nat) (v : Byte) (h : j ≠ k) : memGet (memPut k v m) j = memGet m j := by
  unfold memPut
  have hmid : ∀ r, memGet ((if v = 0 then [] else [(k, v)]) ++ r) j = memGet r j := by
    intro r
    apply memGet_append_none
    intro p hp
    rw [(mem_mid hp).1]; exact fun e => h e.symm
  rw [List.append_assoc]
  by_cases hj : j < k
  · rw [memGet_filter _ m _ j (fun _ => by simp [hj])]
    by_cases ha : m.any (fun p => p.1 == j) = true
    · simp [ha]
    · rw [if_neg ha, hmid, memGet_none _ j (by intro p hp; simp [List.mem_filter] at hp; omega), memGet_of_not_any m j (Bool.eq_false_iff.2 ha)]
  · rw [memGet_append_none _ _ j (by intro p hp; simp [List.mem_filter] at hp; omega), hmid]
    have := memGet_filter (fun p => decide (k < p.1)) m [] j (fun _ => by simp; omega)
    rw [List.append_nil] at this
    rw [this]
    by_cases ha : m.any (fun p => p.1 == j) = true
    · simp [ha]
    · rw [if_neg ha, memGet_of_not_any m j (Bool.eq_false_iff.2 ha)]; rfl

/-- A byte outside a run just written reads as before. -/
theorem memGet_memWrite_ne (b : List Byte) : ∀ (m : Memory) (a j : Nat), (j < a ∨ a + b.length ≤ j) → memGet (memWrite m a b) j = memGet m j := by
  induction b with
  | nil => intros; rfl
  | cons v t ih =>
    intro m a j h
    simp only [List.length_cons] at h
    rw [memWrite, ih _ _ _ (by omega), memGet_put_ne _ _ _ _ (by omega)]

/-- A byte of a run just written. -/
theorem memGet_memWrite (b : List Byte) : ∀ (m : Memory) (a i : Nat) (h : i < b.length), memGet (memWrite m a b) (a + i) = b[i] := by
  induction b with
  | nil => intro m a i h; simp at h
  | cons v t ih =>
    intro m a i h
    rw [memWrite]
    cases i with
    | zero => rw [memGet_memWrite_ne _ _ _ _ (by omega)]; simp
    | succ n =>
      have := ih (memPut a v m) (a + 1) n (by simpa using h)
      rw [show a + (n + 1) = a + 1 + n by omega, this]; simp

/-! ### The canonical form -/

/-- The canonical form as a property: addresses strictly rise, and no byte is 0. -/
theorem memWfFrom_iff (lo : Option Nat) (m : Memory) : memWfFrom lo m = true ↔
    (∀ b, lo = some b → ∀ p ∈ m, b < p.1) ∧ (m.map (·.1)).Pairwise (· < ·) ∧ ∀ p ∈ m, p.2 ≠ 0 := by
  induction m generalizing lo with
  | nil => simp [memWfFrom]
  | cons p t ih =>
    obtain ⟨a, v⟩ := p
    simp only [memWfFrom, Bool.and_eq_true, ih (some a)]
    constructor
    · rintro ⟨⟨h1, h2⟩, h3, h4, h5⟩
      refine ⟨?_, ?_, ?_⟩
      · intro b hb p hp
        subst hb
        simp at h1
        rcases List.mem_cons.1 hp with rfl | hp
        · exact h1
        · exact Nat.lt_trans h1 (h3 a rfl p hp)
      · simp only [List.map_cons, List.pairwise_cons]
        exact ⟨fun x hx => by obtain ⟨p, hp, rfl⟩ := List.mem_map.1 hx; exact h3 a rfl p hp, h4⟩
      · intro p hp
        rcases List.mem_cons.1 hp with rfl | hp
        · simpa using h2
        · exact h5 p hp
    · rintro ⟨h1, h2, h3⟩
      simp only [List.map_cons, List.pairwise_cons] at h2
      refine ⟨⟨?_, by simpa using h3 (a, v) (by simp)⟩, ?_, h2.2, fun p hp => h3 p (by simp [hp])⟩
      · cases lo with
        | none => rfl
        | some b => simpa using h1 b rfl (a, v) (by simp)
      · intro b hb p hp
        cases hb
        exact h2.1 p.1 (List.mem_map.2 ⟨p, hp, rfl⟩)

/-- A part of a canonical memory is canonical. -/
theorem memWf_filter (f : Nat × Byte → Bool) (m : Memory) (h : Memory.wf m = true) : Memory.wf (m.filter f) = true := by
  unfold Memory.wf at *
  rw [memWfFrom_iff] at *
  refine ⟨by simp, ?_, fun p hp => h.2.2 p (List.mem_filter.1 hp).1⟩
  exact h.2.1.sublist (List.Sublist.map _ List.filter_sublist)

/-- A write keeps the canonical form. -/
theorem memWf_put (k : Nat) (v : Byte) (m : Memory) (h : Memory.wf m = true) : Memory.wf (memPut k v m) = true := by
  unfold Memory.wf at *
  rw [memWfFrom_iff] at *
  obtain ⟨-, h2, h3⟩ := h
  refine ⟨by simp, ?_, ?_⟩
  · unfold memPut
    simp only [List.map_append, List.pairwise_append, List.append_assoc]
    refine ⟨h2.sublist (List.Sublist.map _ List.filter_sublist), ⟨?_, h2.sublist (List.Sublist.map _ List.filter_sublist), ?_⟩, ?_⟩
    · split <;> simp
    · intro a ha b hb
      obtain ⟨q, hq, rfl⟩ := List.mem_map.1 ha
      rw [(mem_mid hq).1]
      simp only [List.mem_map, List.mem_filter] at hb
      obtain ⟨p, ⟨-, hp⟩, rfl⟩ := hb
      simpa using hp
    · intro a ha b hb
      simp only [List.mem_map, List.mem_filter] at ha
      obtain ⟨p, ⟨-, hp⟩, rfl⟩ := ha
      simp only [List.mem_append, List.mem_map, List.mem_filter] at hb
      simp at hp
      rcases hb with ⟨q, hq, rfl⟩ | ⟨q, ⟨-, hq⟩, rfl⟩
      · rw [(mem_mid hq).1]; exact hp
      · simp at hq; omega
  · intro p hp
    simp only [memPut, List.mem_append, List.mem_filter] at hp
    rcases hp with (⟨hp, -⟩ | hp) | ⟨hp, -⟩
    · exact h3 p hp
    · rw [(mem_mid hp).1]; exact (mem_mid hp).2
    · exact h3 p hp

/-- A written run keeps the canonical form. -/
theorem memWf_write (b : List Byte) : ∀ (m : Memory) (a : Nat), Memory.wf m = true → Memory.wf (memWrite m a b) = true := by
  induction b with
  | nil => intro m a h; exact h
  | cons v t ih => intro m a h; exact ih _ _ (memWf_put a v m h)

/-- The canonical form of a map as a property. -/
theorem mapWfFrom_iff (d : Nat → Nat) (lo : Option Nat) (m : NatMap) : mapWfFrom d lo m = true ↔
    (∀ b, lo = some b → ∀ p ∈ m, b < p.1) ∧ (m.map (·.1)).Pairwise (· < ·) ∧ ∀ p ∈ m, p.2 ≠ d p.1 := by
  induction m generalizing lo with
  | nil => simp [mapWfFrom]
  | cons p t ih =>
    obtain ⟨a, v⟩ := p
    simp only [mapWfFrom, Bool.and_eq_true, ih (some a)]
    constructor
    · rintro ⟨⟨h1, h2⟩, h3, h4, h5⟩
      refine ⟨?_, ?_, ?_⟩
      · intro b hb p hp
        subst hb
        simp at h1
        rcases List.mem_cons.1 hp with rfl | hp
        · exact h1
        · exact Nat.lt_trans h1 (h3 a rfl p hp)
      · simp only [List.map_cons, List.pairwise_cons]
        exact ⟨fun x hx => by obtain ⟨p, hp, rfl⟩ := List.mem_map.1 hx; exact h3 a rfl p hp, h4⟩
      · intro p hp
        rcases List.mem_cons.1 hp with rfl | hp
        · simpa using h2
        · exact h5 p hp
    · rintro ⟨h1, h2, h3⟩
      simp only [List.map_cons, List.pairwise_cons] at h2
      refine ⟨⟨?_, by simpa using h3 (a, v) (by simp)⟩, ?_, h2.2, fun p hp => h3 p (by simp [hp])⟩
      · cases lo with
        | none => rfl
        | some b => simpa using h1 b rfl (a, v) (by simp)
      · intro b hb p hp
        cases hb
        exact h2.1 p.1 (List.mem_map.2 ⟨p, hp, rfl⟩)

/-- A value put keeps a map's canonical form. -/
theorem mapWf_put (d : Nat → Nat) (k v : Nat) (m : NatMap) (h : mapWfFrom d none m = true) : mapWfFrom d none (mapPut d k v m) = true := by
  rw [mapWfFrom_iff] at *
  obtain ⟨-, h2, h3⟩ := h
  refine ⟨by simp, ?_, ?_⟩
  · unfold mapPut
    simp only [List.map_append, List.pairwise_append, List.append_assoc]
    refine ⟨h2.sublist (List.Sublist.map _ List.filter_sublist), ⟨?_, h2.sublist (List.Sublist.map _ List.filter_sublist), ?_⟩, ?_⟩
    · split <;> simp
    · intro a ha b hb
      obtain ⟨q, hq, rfl⟩ := List.mem_map.1 ha
      rw [(mem_mid hq).1]
      simp only [List.mem_map, List.mem_filter] at hb
      obtain ⟨p, ⟨-, hp⟩, rfl⟩ := hb
      simpa using hp
    · intro a ha b hb
      simp only [List.mem_map, List.mem_filter] at ha
      obtain ⟨p, ⟨-, hp⟩, rfl⟩ := ha
      simp only [List.mem_append, List.mem_map, List.mem_filter] at hb
      simp at hp
      rcases hb with ⟨q, hq, rfl⟩ | ⟨q, ⟨-, hq⟩, rfl⟩
      · rw [(mem_mid hq).1]; exact hp
      · simp at hq; omega
  · intro p hp
    simp only [mapPut, List.mem_append, List.mem_filter] at hp
    rcases hp with (⟨hp, -⟩ | hp) | ⟨hp, -⟩
    · exact h3 p hp
    · rw [(mem_mid hp).1]; exact (mem_mid hp).2
    · exact h3 p hp

end Sys2Proof.Laws
end

