-- ==== Sys2Proof/Laws/State.lean ====
section
/-!
SUPPORT. One lemma for each field and each shared update of State: what the update leaves alone is true by rfl, and what it sets reads back.
-/

namespace Sys2Proof.Laws

open Sys2Proof.Machine

/-! ### setReg -/

@[simp] theorem setReg_now (s : State) (k v : Nat) : (s.setReg k v).now = s.now := rfl
@[simp] theorem setReg_free (s : State) (k v : Nat) : (s.setReg k v).free = s.free := rfl
@[simp] theorem setReg_pending (s : State) (k v : Nat) : (s.setReg k v).pending = s.pending := rfl
@[simp] theorem setReg_store (s : State) (k v : Nat) : (s.setReg k v).store = s.store := rfl
@[simp] theorem setReg_chans (s : State) (k v : Nat) : (s.setReg k v).chans = s.chans := rfl
@[simp] theorem setReg_queues (s : State) (k v : Nat) : (s.setReg k v).queues = s.queues := rfl
@[simp] theorem setReg_engines (s : State) (k v : Nat) : (s.setReg k v).engines = s.engines := rfl
@[simp] theorem setReg_pair (s : State) (k v : Nat) : (s.setReg k v).pair = s.pair := rfl
@[simp] theorem setReg_takeover (s : State) (k v : Nat) : (s.setReg k v).takeover = s.takeover := rfl
@[simp] theorem setReg_modules (s : State) (k v : Nat) : (s.setReg k v).modules = s.modules := rfl
@[simp] theorem setReg_events (s : State) (k v : Nat) : (s.setReg k v).events = s.events := rfl
@[simp] theorem setReg_tolls (s : State) (k v : Nat) : (s.setReg k v).tolls = s.tolls := rfl
@[simp] theorem setReg_kdp (s : State) (k v : Nat) : (s.setReg k v).kdp = s.kdp := rfl
@[simp] theorem setReg_scan (s : State) (k v : Nat) : (s.setReg k v).scan = s.scan := rfl
@[simp] theorem setReg_commits (s : State) (k v : Nat) : (s.setReg k v).commits = s.commits := rfl
@[simp] theorem setReg_pipe (s : State) (k v : Nat) : (s.setReg k v).pipe = s.pipe := rfl
@[simp] theorem setReg_refs (s : State) (k v : Nat) : (s.setReg k v).refs = s.refs := rfl
@[simp] theorem setReg_latches (s : State) (k v : Nat) : (s.setReg k v).latches = s.latches := rfl
@[simp] theorem setReg_lamp (s : State) (k v : Nat) : (s.setReg k v).lamp = s.lamp := rfl
@[simp] theorem setReg_lanes (s : State) (k v : Nat) : (s.setReg k v).lanes = s.lanes := rfl
@[simp] theorem setReg_therm (s : State) (k v : Nat) : (s.setReg k v).therm = s.therm := rfl
@[simp] theorem setReg_mram (s : State) (k v : Nat) : (s.setReg k v).mram = s.mram := rfl
@[simp] theorem setReg_cal (s : State) (k v : Nat) : (s.setReg k v).cal = s.cal := rfl
@[simp] theorem setReg_adc (s : State) (k v : Nat) : (s.setReg k v).adc = s.adc := rfl
@[simp] theorem setReg_power (s : State) (k v : Nat) : (s.setReg k v).power = s.power := rfl
@[simp] theorem setReg_bist (s : State) (k v : Nat) : (s.setReg k v).bist = s.bist := rfl
@[simp] theorem setReg_host (s : State) (k v : Nat) : (s.setReg k v).host = s.host := rfl
@[simp] theorem setReg_lantern (s : State) (k v : Nat) : (s.setReg k v).lantern = s.lantern := rfl
@[simp] theorem setReg_dump (s : State) (k v : Nat) : (s.setReg k v).dump = s.dump := rfl
@[simp] theorem setReg_jtag (s : State) (k v : Nat) : (s.setReg k v).jtag = s.jtag := rfl

/-! ### bump -/

@[simp] theorem bump_now (s : State) (k : Nat) : (s.bump k).now = s.now := rfl
@[simp] theorem bump_free (s : State) (k : Nat) : (s.bump k).free = s.free := rfl
@[simp] theorem bump_pending (s : State) (k : Nat) : (s.bump k).pending = s.pending := rfl
@[simp] theorem bump_store (s : State) (k : Nat) : (s.bump k).store = s.store := rfl
@[simp] theorem bump_chans (s : State) (k : Nat) : (s.bump k).chans = s.chans := rfl
@[simp] theorem bump_queues (s : State) (k : Nat) : (s.bump k).queues = s.queues := rfl
@[simp] theorem bump_engines (s : State) (k : Nat) : (s.bump k).engines = s.engines := rfl
@[simp] theorem bump_pair (s : State) (k : Nat) : (s.bump k).pair = s.pair := rfl
@[simp] theorem bump_takeover (s : State) (k : Nat) : (s.bump k).takeover = s.takeover := rfl
@[simp] theorem bump_modules (s : State) (k : Nat) : (s.bump k).modules = s.modules := rfl
@[simp] theorem bump_events (s : State) (k : Nat) : (s.bump k).events = s.events := rfl
@[simp] theorem bump_tolls (s : State) (k : Nat) : (s.bump k).tolls = s.tolls := rfl
@[simp] theorem bump_kdp (s : State) (k : Nat) : (s.bump k).kdp = s.kdp := rfl
@[simp] theorem bump_scan (s : State) (k : Nat) : (s.bump k).scan = s.scan := rfl
@[simp] theorem bump_commits (s : State) (k : Nat) : (s.bump k).commits = s.commits := rfl
@[simp] theorem bump_pipe (s : State) (k : Nat) : (s.bump k).pipe = s.pipe := rfl
@[simp] theorem bump_refs (s : State) (k : Nat) : (s.bump k).refs = s.refs := rfl
@[simp] theorem bump_latches (s : State) (k : Nat) : (s.bump k).latches = s.latches := rfl
@[simp] theorem bump_lamp (s : State) (k : Nat) : (s.bump k).lamp = s.lamp := rfl
@[simp] theorem bump_lanes (s : State) (k : Nat) : (s.bump k).lanes = s.lanes := rfl
@[simp] theorem bump_therm (s : State) (k : Nat) : (s.bump k).therm = s.therm := rfl
@[simp] theorem bump_mram (s : State) (k : Nat) : (s.bump k).mram = s.mram := rfl
@[simp] theorem bump_cal (s : State) (k : Nat) : (s.bump k).cal = s.cal := rfl
@[simp] theorem bump_adc (s : State) (k : Nat) : (s.bump k).adc = s.adc := rfl
@[simp] theorem bump_power (s : State) (k : Nat) : (s.bump k).power = s.power := rfl
@[simp] theorem bump_bist (s : State) (k : Nat) : (s.bump k).bist = s.bist := rfl
@[simp] theorem bump_host (s : State) (k : Nat) : (s.bump k).host = s.host := rfl
@[simp] theorem bump_lantern (s : State) (k : Nat) : (s.bump k).lantern = s.lantern := rfl
@[simp] theorem bump_dump (s : State) (k : Nat) : (s.bump k).dump = s.dump := rfl
@[simp] theorem bump_jtag (s : State) (k : Nat) : (s.bump k).jtag = s.jtag := rfl

/-! ### atLeast -/

@[simp] theorem atLeast_free (s : State) (t : Nat) : (s.atLeast t).free = s.free := rfl
@[simp] theorem atLeast_pending (s : State) (t : Nat) : (s.atLeast t).pending = s.pending := rfl
@[simp] theorem atLeast_regs (s : State) (t : Nat) : (s.atLeast t).regs = s.regs := rfl
@[simp] theorem atLeast_store (s : State) (t : Nat) : (s.atLeast t).store = s.store := rfl
@[simp] theorem atLeast_chans (s : State) (t : Nat) : (s.atLeast t).chans = s.chans := rfl
@[simp] theorem atLeast_queues (s : State) (t : Nat) : (s.atLeast t).queues = s.queues := rfl
@[simp] theorem atLeast_engines (s : State) (t : Nat) : (s.atLeast t).engines = s.engines := rfl
@[simp] theorem atLeast_pair (s : State) (t : Nat) : (s.atLeast t).pair = s.pair := rfl
@[simp] theorem atLeast_takeover (s : State) (t : Nat) : (s.atLeast t).takeover = s.takeover := rfl
@[simp] theorem atLeast_modules (s : State) (t : Nat) : (s.atLeast t).modules = s.modules := rfl
@[simp] theorem atLeast_events (s : State) (t : Nat) : (s.atLeast t).events = s.events := rfl
@[simp] theorem atLeast_tolls (s : State) (t : Nat) : (s.atLeast t).tolls = s.tolls := rfl
@[simp] theorem atLeast_kdp (s : State) (t : Nat) : (s.atLeast t).kdp = s.kdp := rfl
@[simp] theorem atLeast_scan (s : State) (t : Nat) : (s.atLeast t).scan = s.scan := rfl
@[simp] theorem atLeast_commits (s : State) (t : Nat) : (s.atLeast t).commits = s.commits := rfl
@[simp] theorem atLeast_pipe (s : State) (t : Nat) : (s.atLeast t).pipe = s.pipe := rfl
@[simp] theorem atLeast_refs (s : State) (t : Nat) : (s.atLeast t).refs = s.refs := rfl
@[simp] theorem atLeast_latches (s : State) (t : Nat) : (s.atLeast t).latches = s.latches := rfl
@[simp] theorem atLeast_lamp (s : State) (t : Nat) : (s.atLeast t).lamp = s.lamp := rfl
@[simp] theorem atLeast_lanes (s : State) (t : Nat) : (s.atLeast t).lanes = s.lanes := rfl
@[simp] theorem atLeast_therm (s : State) (t : Nat) : (s.atLeast t).therm = s.therm := rfl
@[simp] theorem atLeast_mram (s : State) (t : Nat) : (s.atLeast t).mram = s.mram := rfl
@[simp] theorem atLeast_cal (s : State) (t : Nat) : (s.atLeast t).cal = s.cal := rfl
@[simp] theorem atLeast_adc (s : State) (t : Nat) : (s.atLeast t).adc = s.adc := rfl
@[simp] theorem atLeast_power (s : State) (t : Nat) : (s.atLeast t).power = s.power := rfl
@[simp] theorem atLeast_bist (s : State) (t : Nat) : (s.atLeast t).bist = s.bist := rfl
@[simp] theorem atLeast_host (s : State) (t : Nat) : (s.atLeast t).host = s.host := rfl
@[simp] theorem atLeast_lantern (s : State) (t : Nat) : (s.atLeast t).lantern = s.lantern := rfl
@[simp] theorem atLeast_dump (s : State) (t : Nat) : (s.atLeast t).dump = s.dump := rfl
@[simp] theorem atLeast_jtag (s : State) (t : Nat) : (s.atLeast t).jtag = s.jtag := rfl

/-! ### setEng -/

@[simp] theorem setEng_now (s : State) (e : Nat) (x : Engine) : (setEng s e x).now = s.now := rfl
@[simp] theorem setEng_free (s : State) (e : Nat) (x : Engine) : (setEng s e x).free = s.free := rfl
@[simp] theorem setEng_pending (s : State) (e : Nat) (x : Engine) : (setEng s e x).pending = s.pending := rfl
@[simp] theorem setEng_regs (s : State) (e : Nat) (x : Engine) : (setEng s e x).regs = s.regs := rfl
@[simp] theorem setEng_store (s : State) (e : Nat) (x : Engine) : (setEng s e x).store = s.store := rfl
@[simp] theorem setEng_chans (s : State) (e : Nat) (x : Engine) : (setEng s e x).chans = s.chans := rfl
@[simp] theorem setEng_queues (s : State) (e : Nat) (x : Engine) : (setEng s e x).queues = s.queues := rfl
@[simp] theorem setEng_pair (s : State) (e : Nat) (x : Engine) : (setEng s e x).pair = s.pair := rfl
@[simp] theorem setEng_takeover (s : State) (e : Nat) (x : Engine) : (setEng s e x).takeover = s.takeover := rfl
@[simp] theorem setEng_modules (s : State) (e : Nat) (x : Engine) : (setEng s e x).modules = s.modules := rfl
@[simp] theorem setEng_events (s : State) (e : Nat) (x : Engine) : (setEng s e x).events = s.events := rfl
@[simp] theorem setEng_tolls (s : State) (e : Nat) (x : Engine) : (setEng s e x).tolls = s.tolls := rfl
@[simp] theorem setEng_kdp (s : State) (e : Nat) (x : Engine) : (setEng s e x).kdp = s.kdp := rfl
@[simp] theorem setEng_scan (s : State) (e : Nat) (x : Engine) : (setEng s e x).scan = s.scan := rfl
@[simp] theorem setEng_commits (s : State) (e : Nat) (x : Engine) : (setEng s e x).commits = s.commits := rfl
@[simp] theorem setEng_pipe (s : State) (e : Nat) (x : Engine) : (setEng s e x).pipe = s.pipe := rfl
@[simp] theorem setEng_refs (s : State) (e : Nat) (x : Engine) : (setEng s e x).refs = s.refs := rfl
@[simp] theorem setEng_latches (s : State) (e : Nat) (x : Engine) : (setEng s e x).latches = s.latches := rfl
@[simp] theorem setEng_lamp (s : State) (e : Nat) (x : Engine) : (setEng s e x).lamp = s.lamp := rfl
@[simp] theorem setEng_lanes (s : State) (e : Nat) (x : Engine) : (setEng s e x).lanes = s.lanes := rfl
@[simp] theorem setEng_therm (s : State) (e : Nat) (x : Engine) : (setEng s e x).therm = s.therm := rfl
@[simp] theorem setEng_mram (s : State) (e : Nat) (x : Engine) : (setEng s e x).mram = s.mram := rfl
@[simp] theorem setEng_cal (s : State) (e : Nat) (x : Engine) : (setEng s e x).cal = s.cal := rfl
@[simp] theorem setEng_adc (s : State) (e : Nat) (x : Engine) : (setEng s e x).adc = s.adc := rfl
@[simp] theorem setEng_power (s : State) (e : Nat) (x : Engine) : (setEng s e x).power = s.power := rfl
@[simp] theorem setEng_bist (s : State) (e : Nat) (x : Engine) : (setEng s e x).bist = s.bist := rfl
@[simp] theorem setEng_host (s : State) (e : Nat) (x : Engine) : (setEng s e x).host = s.host := rfl
@[simp] theorem setEng_lantern (s : State) (e : Nat) (x : Engine) : (setEng s e x).lantern = s.lantern := rfl
@[simp] theorem setEng_dump (s : State) (e : Nat) (x : Engine) : (setEng s e x).dump = s.dump := rfl
@[simp] theorem setEng_jtag (s : State) (e : Nat) (x : Engine) : (setEng s e x).jtag = s.jtag := rfl

/-! ### setQ -/

@[simp] theorem setQ_now (s : State) (q : Nat) (c : QueueCtl) : (setQ s q c).now = s.now := rfl
@[simp] theorem setQ_free (s : State) (q : Nat) (c : QueueCtl) : (setQ s q c).free = s.free := rfl
@[simp] theorem setQ_pending (s : State) (q : Nat) (c : QueueCtl) : (setQ s q c).pending = s.pending := rfl
@[simp] theorem setQ_regs (s : State) (q : Nat) (c : QueueCtl) : (setQ s q c).regs = s.regs := rfl
@[simp] theorem setQ_store (s : State) (q : Nat) (c : QueueCtl) : (setQ s q c).store = s.store := rfl
@[simp] theorem setQ_chans (s : State) (q : Nat) (c : QueueCtl) : (setQ s q c).chans = s.chans := rfl
@[simp] theorem setQ_engines (s : State) (q : Nat) (c : QueueCtl) : (setQ s q c).engines = s.engines := rfl
@[simp] theorem setQ_pair (s : State) (q : Nat) (c : QueueCtl) : (setQ s q c).pair = s.pair := rfl
@[simp] theorem setQ_takeover (s : State) (q : Nat) (c : QueueCtl) : (setQ s q c).takeover = s.takeover := rfl
@[simp] theorem setQ_modules (s : State) (q : Nat) (c : QueueCtl) : (setQ s q c).modules = s.modules := rfl
@[simp] theorem setQ_events (s : State) (q : Nat) (c : QueueCtl) : (setQ s q c).events = s.events := rfl
@[simp] theorem setQ_tolls (s : State) (q : Nat) (c : QueueCtl) : (setQ s q c).tolls = s.tolls := rfl
@[simp] theorem setQ_kdp (s : State) (q : Nat) (c : QueueCtl) : (setQ s q c).kdp = s.kdp := rfl
@[simp] theorem setQ_scan (s : State) (q : Nat) (c : QueueCtl) : (setQ s q c).scan = s.scan := rfl
@[simp] theorem setQ_commits (s : State) (q : Nat) (c : QueueCtl) : (setQ s q c).commits = s.commits := rfl
@[simp] theorem setQ_pipe (s : State) (q : Nat) (c : QueueCtl) : (setQ s q c).pipe = s.pipe := rfl
@[simp] theorem setQ_refs (s : State) (q : Nat) (c : QueueCtl) : (setQ s q c).refs = s.refs := rfl
@[simp] theorem setQ_latches (s : State) (q : Nat) (c : QueueCtl) : (setQ s q c).latches = s.latches := rfl
@[simp] theorem setQ_lamp (s : State) (q : Nat) (c : QueueCtl) : (setQ s q c).lamp = s.lamp := rfl
@[simp] theorem setQ_lanes (s : State) (q : Nat) (c : QueueCtl) : (setQ s q c).lanes = s.lanes := rfl
@[simp] theorem setQ_therm (s : State) (q : Nat) (c : QueueCtl) : (setQ s q c).therm = s.therm := rfl
@[simp] theorem setQ_mram (s : State) (q : Nat) (c : QueueCtl) : (setQ s q c).mram = s.mram := rfl
@[simp] theorem setQ_cal (s : State) (q : Nat) (c : QueueCtl) : (setQ s q c).cal = s.cal := rfl
@[simp] theorem setQ_adc (s : State) (q : Nat) (c : QueueCtl) : (setQ s q c).adc = s.adc := rfl
@[simp] theorem setQ_power (s : State) (q : Nat) (c : QueueCtl) : (setQ s q c).power = s.power := rfl
@[simp] theorem setQ_bist (s : State) (q : Nat) (c : QueueCtl) : (setQ s q c).bist = s.bist := rfl
@[simp] theorem setQ_host (s : State) (q : Nat) (c : QueueCtl) : (setQ s q c).host = s.host := rfl
@[simp] theorem setQ_lantern (s : State) (q : Nat) (c : QueueCtl) : (setQ s q c).lantern = s.lantern := rfl
@[simp] theorem setQ_dump (s : State) (q : Nat) (c : QueueCtl) : (setQ s q c).dump = s.dump := rfl
@[simp] theorem setQ_jtag (s : State) (q : Nat) (c : QueueCtl) : (setQ s q c).jtag = s.jtag := rfl

/-! ### setSess -/

@[simp] theorem setSess_now (s : State) (n : Nat) (x : Session) : (setSess s n x).now = s.now := rfl
@[simp] theorem setSess_free (s : State) (n : Nat) (x : Session) : (setSess s n x).free = s.free := rfl
@[simp] theorem setSess_pending (s : State) (n : Nat) (x : Session) : (setSess s n x).pending = s.pending := rfl
@[simp] theorem setSess_regs (s : State) (n : Nat) (x : Session) : (setSess s n x).regs = s.regs := rfl
@[simp] theorem setSess_store (s : State) (n : Nat) (x : Session) : (setSess s n x).store = s.store := rfl
@[simp] theorem setSess_chans (s : State) (n : Nat) (x : Session) : (setSess s n x).chans = s.chans := rfl
@[simp] theorem setSess_queues (s : State) (n : Nat) (x : Session) : (setSess s n x).queues = s.queues := rfl
@[simp] theorem setSess_engines (s : State) (n : Nat) (x : Session) : (setSess s n x).engines = s.engines := rfl
@[simp] theorem setSess_pair (s : State) (n : Nat) (x : Session) : (setSess s n x).pair = s.pair := rfl
@[simp] theorem setSess_takeover (s : State) (n : Nat) (x : Session) : (setSess s n x).takeover = s.takeover := rfl
@[simp] theorem setSess_modules (s : State) (n : Nat) (x : Session) : (setSess s n x).modules = s.modules := rfl
@[simp] theorem setSess_events (s : State) (n : Nat) (x : Session) : (setSess s n x).events = s.events := rfl
@[simp] theorem setSess_tolls (s : State) (n : Nat) (x : Session) : (setSess s n x).tolls = s.tolls := rfl
@[simp] theorem setSess_scan (s : State) (n : Nat) (x : Session) : (setSess s n x).scan = s.scan := rfl
@[simp] theorem setSess_commits (s : State) (n : Nat) (x : Session) : (setSess s n x).commits = s.commits := rfl
@[simp] theorem setSess_pipe (s : State) (n : Nat) (x : Session) : (setSess s n x).pipe = s.pipe := rfl
@[simp] theorem setSess_refs (s : State) (n : Nat) (x : Session) : (setSess s n x).refs = s.refs := rfl
@[simp] theorem setSess_latches (s : State) (n : Nat) (x : Session) : (setSess s n x).latches = s.latches := rfl
@[simp] theorem setSess_lamp (s : State) (n : Nat) (x : Session) : (setSess s n x).lamp = s.lamp := rfl
@[simp] theorem setSess_lanes (s : State) (n : Nat) (x : Session) : (setSess s n x).lanes = s.lanes := rfl
@[simp] theorem setSess_therm (s : State) (n : Nat) (x : Session) : (setSess s n x).therm = s.therm := rfl
@[simp] theorem setSess_mram (s : State) (n : Nat) (x : Session) : (setSess s n x).mram = s.mram := rfl
@[simp] theorem setSess_cal (s : State) (n : Nat) (x : Session) : (setSess s n x).cal = s.cal := rfl
@[simp] theorem setSess_adc (s : State) (n : Nat) (x : Session) : (setSess s n x).adc = s.adc := rfl
@[simp] theorem setSess_power (s : State) (n : Nat) (x : Session) : (setSess s n x).power = s.power := rfl
@[simp] theorem setSess_bist (s : State) (n : Nat) (x : Session) : (setSess s n x).bist = s.bist := rfl
@[simp] theorem setSess_host (s : State) (n : Nat) (x : Session) : (setSess s n x).host = s.host := rfl
@[simp] theorem setSess_lantern (s : State) (n : Nat) (x : Session) : (setSess s n x).lantern = s.lantern := rfl
@[simp] theorem setSess_dump (s : State) (n : Nat) (x : Session) : (setSess s n x).dump = s.dump := rfl
@[simp] theorem setSess_jtag (s : State) (n : Nat) (x : Session) : (setSess s n x).jtag = s.jtag := rfl

/-! ### setTrans -/

@[simp] theorem setTrans_now (s : State) (t : Nat) (x : Transport) : (setTrans s t x).now = s.now := rfl
@[simp] theorem setTrans_free (s : State) (t : Nat) (x : Transport) : (setTrans s t x).free = s.free := rfl
@[simp] theorem setTrans_pending (s : State) (t : Nat) (x : Transport) : (setTrans s t x).pending = s.pending := rfl
@[simp] theorem setTrans_regs (s : State) (t : Nat) (x : Transport) : (setTrans s t x).regs = s.regs := rfl
@[simp] theorem setTrans_store (s : State) (t : Nat) (x : Transport) : (setTrans s t x).store = s.store := rfl
@[simp] theorem setTrans_chans (s : State) (t : Nat) (x : Transport) : (setTrans s t x).chans = s.chans := rfl
@[simp] theorem setTrans_queues (s : State) (t : Nat) (x : Transport) : (setTrans s t x).queues = s.queues := rfl
@[simp] theorem setTrans_engines (s : State) (t : Nat) (x : Transport) : (setTrans s t x).engines = s.engines := rfl
@[simp] theorem setTrans_pair (s : State) (t : Nat) (x : Transport) : (setTrans s t x).pair = s.pair := rfl
@[simp] theorem setTrans_takeover (s : State) (t : Nat) (x : Transport) : (setTrans s t x).takeover = s.takeover := rfl
@[simp] theorem setTrans_modules (s : State) (t : Nat) (x : Transport) : (setTrans s t x).modules = s.modules := rfl
@[simp] theorem setTrans_events (s : State) (t : Nat) (x : Transport) : (setTrans s t x).events = s.events := rfl
@[simp] theorem setTrans_tolls (s : State) (t : Nat) (x : Transport) : (setTrans s t x).tolls = s.tolls := rfl
@[simp] theorem setTrans_scan (s : State) (t : Nat) (x : Transport) : (setTrans s t x).scan = s.scan := rfl
@[simp] theorem setTrans_commits (s : State) (t : Nat) (x : Transport) : (setTrans s t x).commits = s.commits := rfl
@[simp] theorem setTrans_pipe (s : State) (t : Nat) (x : Transport) : (setTrans s t x).pipe = s.pipe := rfl
@[simp] theorem setTrans_refs (s : State) (t : Nat) (x : Transport) : (setTrans s t x).refs = s.refs := rfl
@[simp] theorem setTrans_latches (s : State) (t : Nat) (x : Transport) : (setTrans s t x).latches = s.latches := rfl
@[simp] theorem setTrans_lamp (s : State) (t : Nat) (x : Transport) : (setTrans s t x).lamp = s.lamp := rfl
@[simp] theorem setTrans_lanes (s : State) (t : Nat) (x : Transport) : (setTrans s t x).lanes = s.lanes := rfl
@[simp] theorem setTrans_therm (s : State) (t : Nat) (x : Transport) : (setTrans s t x).therm = s.therm := rfl
@[simp] theorem setTrans_mram (s : State) (t : Nat) (x : Transport) : (setTrans s t x).mram = s.mram := rfl
@[simp] theorem setTrans_cal (s : State) (t : Nat) (x : Transport) : (setTrans s t x).cal = s.cal := rfl
@[simp] theorem setTrans_adc (s : State) (t : Nat) (x : Transport) : (setTrans s t x).adc = s.adc := rfl
@[simp] theorem setTrans_power (s : State) (t : Nat) (x : Transport) : (setTrans s t x).power = s.power := rfl
@[simp] theorem setTrans_bist (s : State) (t : Nat) (x : Transport) : (setTrans s t x).bist = s.bist := rfl
@[simp] theorem setTrans_host (s : State) (t : Nat) (x : Transport) : (setTrans s t x).host = s.host := rfl
@[simp] theorem setTrans_lantern (s : State) (t : Nat) (x : Transport) : (setTrans s t x).lantern = s.lantern := rfl
@[simp] theorem setTrans_dump (s : State) (t : Nat) (x : Transport) : (setTrans s t x).dump = s.dump := rfl
@[simp] theorem setTrans_jtag (s : State) (t : Nat) (x : Transport) : (setTrans s t x).jtag = s.jtag := rfl

/-! ### setCan -/

@[simp] theorem setCan_now (s : State) (c : Nat) (x : CanCtl) : (setCan s c x).now = s.now := rfl
@[simp] theorem setCan_free (s : State) (c : Nat) (x : CanCtl) : (setCan s c x).free = s.free := rfl
@[simp] theorem setCan_pending (s : State) (c : Nat) (x : CanCtl) : (setCan s c x).pending = s.pending := rfl
@[simp] theorem setCan_regs (s : State) (c : Nat) (x : CanCtl) : (setCan s c x).regs = s.regs := rfl
@[simp] theorem setCan_store (s : State) (c : Nat) (x : CanCtl) : (setCan s c x).store = s.store := rfl
@[simp] theorem setCan_chans (s : State) (c : Nat) (x : CanCtl) : (setCan s c x).chans = s.chans := rfl
@[simp] theorem setCan_queues (s : State) (c : Nat) (x : CanCtl) : (setCan s c x).queues = s.queues := rfl
@[simp] theorem setCan_engines (s : State) (c : Nat) (x : CanCtl) : (setCan s c x).engines = s.engines := rfl
@[simp] theorem setCan_pair (s : State) (c : Nat) (x : CanCtl) : (setCan s c x).pair = s.pair := rfl
@[simp] theorem setCan_takeover (s : State) (c : Nat) (x : CanCtl) : (setCan s c x).takeover = s.takeover := rfl
@[simp] theorem setCan_modules (s : State) (c : Nat) (x : CanCtl) : (setCan s c x).modules = s.modules := rfl
@[simp] theorem setCan_events (s : State) (c : Nat) (x : CanCtl) : (setCan s c x).events = s.events := rfl
@[simp] theorem setCan_tolls (s : State) (c : Nat) (x : CanCtl) : (setCan s c x).tolls = s.tolls := rfl
@[simp] theorem setCan_scan (s : State) (c : Nat) (x : CanCtl) : (setCan s c x).scan = s.scan := rfl
@[simp] theorem setCan_commits (s : State) (c : Nat) (x : CanCtl) : (setCan s c x).commits = s.commits := rfl
@[simp] theorem setCan_pipe (s : State) (c : Nat) (x : CanCtl) : (setCan s c x).pipe = s.pipe := rfl
@[simp] theorem setCan_refs (s : State) (c : Nat) (x : CanCtl) : (setCan s c x).refs = s.refs := rfl
@[simp] theorem setCan_latches (s : State) (c : Nat) (x : CanCtl) : (setCan s c x).latches = s.latches := rfl
@[simp] theorem setCan_lamp (s : State) (c : Nat) (x : CanCtl) : (setCan s c x).lamp = s.lamp := rfl
@[simp] theorem setCan_lanes (s : State) (c : Nat) (x : CanCtl) : (setCan s c x).lanes = s.lanes := rfl
@[simp] theorem setCan_therm (s : State) (c : Nat) (x : CanCtl) : (setCan s c x).therm = s.therm := rfl
@[simp] theorem setCan_mram (s : State) (c : Nat) (x : CanCtl) : (setCan s c x).mram = s.mram := rfl
@[simp] theorem setCan_cal (s : State) (c : Nat) (x : CanCtl) : (setCan s c x).cal = s.cal := rfl
@[simp] theorem setCan_adc (s : State) (c : Nat) (x : CanCtl) : (setCan s c x).adc = s.adc := rfl
@[simp] theorem setCan_power (s : State) (c : Nat) (x : CanCtl) : (setCan s c x).power = s.power := rfl
@[simp] theorem setCan_bist (s : State) (c : Nat) (x : CanCtl) : (setCan s c x).bist = s.bist := rfl
@[simp] theorem setCan_host (s : State) (c : Nat) (x : CanCtl) : (setCan s c x).host = s.host := rfl
@[simp] theorem setCan_lantern (s : State) (c : Nat) (x : CanCtl) : (setCan s c x).lantern = s.lantern := rfl
@[simp] theorem setCan_dump (s : State) (c : Nat) (x : CanCtl) : (setCan s c x).dump = s.dump := rfl
@[simp] theorem setCan_jtag (s : State) (c : Nat) (x : CanCtl) : (setCan s c x).jtag = s.jtag := rfl

/-! ### setDomain -/

@[simp] theorem setDomain_now (s : State) (d : Nat) (x : Domain) : (setDomain s d x).now = s.now := rfl
@[simp] theorem setDomain_free (s : State) (d : Nat) (x : Domain) : (setDomain s d x).free = s.free := rfl
@[simp] theorem setDomain_pending (s : State) (d : Nat) (x : Domain) : (setDomain s d x).pending = s.pending := rfl
@[simp] theorem setDomain_regs (s : State) (d : Nat) (x : Domain) : (setDomain s d x).regs = s.regs := rfl
@[simp] theorem setDomain_store (s : State) (d : Nat) (x : Domain) : (setDomain s d x).store = s.store := rfl
@[simp] theorem setDomain_chans (s : State) (d : Nat) (x : Domain) : (setDomain s d x).chans = s.chans := rfl
@[simp] theorem setDomain_queues (s : State) (d : Nat) (x : Domain) : (setDomain s d x).queues = s.queues := rfl
@[simp] theorem setDomain_engines (s : State) (d : Nat) (x : Domain) : (setDomain s d x).engines = s.engines := rfl
@[simp] theorem setDomain_pair (s : State) (d : Nat) (x : Domain) : (setDomain s d x).pair = s.pair := rfl
@[simp] theorem setDomain_takeover (s : State) (d : Nat) (x : Domain) : (setDomain s d x).takeover = s.takeover := rfl
@[simp] theorem setDomain_modules (s : State) (d : Nat) (x : Domain) : (setDomain s d x).modules = s.modules := rfl
@[simp] theorem setDomain_events (s : State) (d : Nat) (x : Domain) : (setDomain s d x).events = s.events := rfl
@[simp] theorem setDomain_tolls (s : State) (d : Nat) (x : Domain) : (setDomain s d x).tolls = s.tolls := rfl
@[simp] theorem setDomain_kdp (s : State) (d : Nat) (x : Domain) : (setDomain s d x).kdp = s.kdp := rfl
@[simp] theorem setDomain_scan (s : State) (d : Nat) (x : Domain) : (setDomain s d x).scan = s.scan := rfl
@[simp] theorem setDomain_commits (s : State) (d : Nat) (x : Domain) : (setDomain s d x).commits = s.commits := rfl
@[simp] theorem setDomain_pipe (s : State) (d : Nat) (x : Domain) : (setDomain s d x).pipe = s.pipe := rfl
@[simp] theorem setDomain_refs (s : State) (d : Nat) (x : Domain) : (setDomain s d x).refs = s.refs := rfl
@[simp] theorem setDomain_latches (s : State) (d : Nat) (x : Domain) : (setDomain s d x).latches = s.latches := rfl
@[simp] theorem setDomain_lamp (s : State) (d : Nat) (x : Domain) : (setDomain s d x).lamp = s.lamp := rfl
@[simp] theorem setDomain_lanes (s : State) (d : Nat) (x : Domain) : (setDomain s d x).lanes = s.lanes := rfl
@[simp] theorem setDomain_therm (s : State) (d : Nat) (x : Domain) : (setDomain s d x).therm = s.therm := rfl
@[simp] theorem setDomain_mram (s : State) (d : Nat) (x : Domain) : (setDomain s d x).mram = s.mram := rfl
@[simp] theorem setDomain_cal (s : State) (d : Nat) (x : Domain) : (setDomain s d x).cal = s.cal := rfl
@[simp] theorem setDomain_adc (s : State) (d : Nat) (x : Domain) : (setDomain s d x).adc = s.adc := rfl
@[simp] theorem setDomain_bist (s : State) (d : Nat) (x : Domain) : (setDomain s d x).bist = s.bist := rfl
@[simp] theorem setDomain_host (s : State) (d : Nat) (x : Domain) : (setDomain s d x).host = s.host := rfl
@[simp] theorem setDomain_lantern (s : State) (d : Nat) (x : Domain) : (setDomain s d x).lantern = s.lantern := rfl
@[simp] theorem setDomain_dump (s : State) (d : Nat) (x : Domain) : (setDomain s d x).dump = s.dump := rfl
@[simp] theorem setDomain_jtag (s : State) (d : Nat) (x : Domain) : (setDomain s d x).jtag = s.jtag := rfl

/-! ### setInput -/

@[simp] theorem setInput_now (s : State) (n : Nat) (x : Input) : (setInput s n x).now = s.now := rfl
@[simp] theorem setInput_free (s : State) (n : Nat) (x : Input) : (setInput s n x).free = s.free := rfl
@[simp] theorem setInput_pending (s : State) (n : Nat) (x : Input) : (setInput s n x).pending = s.pending := rfl
@[simp] theorem setInput_regs (s : State) (n : Nat) (x : Input) : (setInput s n x).regs = s.regs := rfl
@[simp] theorem setInput_store (s : State) (n : Nat) (x : Input) : (setInput s n x).store = s.store := rfl
@[simp] theorem setInput_chans (s : State) (n : Nat) (x : Input) : (setInput s n x).chans = s.chans := rfl
@[simp] theorem setInput_queues (s : State) (n : Nat) (x : Input) : (setInput s n x).queues = s.queues := rfl
@[simp] theorem setInput_engines (s : State) (n : Nat) (x : Input) : (setInput s n x).engines = s.engines := rfl
@[simp] theorem setInput_pair (s : State) (n : Nat) (x : Input) : (setInput s n x).pair = s.pair := rfl
@[simp] theorem setInput_takeover (s : State) (n : Nat) (x : Input) : (setInput s n x).takeover = s.takeover := rfl
@[simp] theorem setInput_modules (s : State) (n : Nat) (x : Input) : (setInput s n x).modules = s.modules := rfl
@[simp] theorem setInput_events (s : State) (n : Nat) (x : Input) : (setInput s n x).events = s.events := rfl
@[simp] theorem setInput_tolls (s : State) (n : Nat) (x : Input) : (setInput s n x).tolls = s.tolls := rfl
@[simp] theorem setInput_kdp (s : State) (n : Nat) (x : Input) : (setInput s n x).kdp = s.kdp := rfl
@[simp] theorem setInput_scan (s : State) (n : Nat) (x : Input) : (setInput s n x).scan = s.scan := rfl
@[simp] theorem setInput_commits (s : State) (n : Nat) (x : Input) : (setInput s n x).commits = s.commits := rfl
@[simp] theorem setInput_pipe (s : State) (n : Nat) (x : Input) : (setInput s n x).pipe = s.pipe := rfl
@[simp] theorem setInput_refs (s : State) (n : Nat) (x : Input) : (setInput s n x).refs = s.refs := rfl
@[simp] theorem setInput_latches (s : State) (n : Nat) (x : Input) : (setInput s n x).latches = s.latches := rfl
@[simp] theorem setInput_lamp (s : State) (n : Nat) (x : Input) : (setInput s n x).lamp = s.lamp := rfl
@[simp] theorem setInput_lanes (s : State) (n : Nat) (x : Input) : (setInput s n x).lanes = s.lanes := rfl
@[simp] theorem setInput_therm (s : State) (n : Nat) (x : Input) : (setInput s n x).therm = s.therm := rfl
@[simp] theorem setInput_mram (s : State) (n : Nat) (x : Input) : (setInput s n x).mram = s.mram := rfl
@[simp] theorem setInput_cal (s : State) (n : Nat) (x : Input) : (setInput s n x).cal = s.cal := rfl
@[simp] theorem setInput_adc (s : State) (n : Nat) (x : Input) : (setInput s n x).adc = s.adc := rfl
@[simp] theorem setInput_bist (s : State) (n : Nat) (x : Input) : (setInput s n x).bist = s.bist := rfl
@[simp] theorem setInput_host (s : State) (n : Nat) (x : Input) : (setInput s n x).host = s.host := rfl
@[simp] theorem setInput_lantern (s : State) (n : Nat) (x : Input) : (setInput s n x).lantern = s.lantern := rfl
@[simp] theorem setInput_dump (s : State) (n : Nat) (x : Input) : (setInput s n x).dump = s.dump := rfl
@[simp] theorem setInput_jtag (s : State) (n : Nat) (x : Input) : (setInput s n x).jtag = s.jtag := rfl

/-! ### spend -/

@[simp] theorem spend_now (s : State) (c n : Nat) : (spend s c n).now = s.now := rfl
@[simp] theorem spend_free (s : State) (c n : Nat) : (spend s c n).free = s.free := rfl
@[simp] theorem spend_pending (s : State) (c n : Nat) : (spend s c n).pending = s.pending := rfl
@[simp] theorem spend_regs (s : State) (c n : Nat) : (spend s c n).regs = s.regs := rfl
@[simp] theorem spend_store (s : State) (c n : Nat) : (spend s c n).store = s.store := rfl
@[simp] theorem spend_chans (s : State) (c n : Nat) : (spend s c n).chans = s.chans := rfl
@[simp] theorem spend_queues (s : State) (c n : Nat) : (spend s c n).queues = s.queues := rfl
@[simp] theorem spend_engines (s : State) (c n : Nat) : (spend s c n).engines = s.engines := rfl
@[simp] theorem spend_pair (s : State) (c n : Nat) : (spend s c n).pair = s.pair := rfl
@[simp] theorem spend_takeover (s : State) (c n : Nat) : (spend s c n).takeover = s.takeover := rfl
@[simp] theorem spend_modules (s : State) (c n : Nat) : (spend s c n).modules = s.modules := rfl
@[simp] theorem spend_events (s : State) (c n : Nat) : (spend s c n).events = s.events := rfl
@[simp] theorem spend_kdp (s : State) (c n : Nat) : (spend s c n).kdp = s.kdp := rfl
@[simp] theorem spend_scan (s : State) (c n : Nat) : (spend s c n).scan = s.scan := rfl
@[simp] theorem spend_commits (s : State) (c n : Nat) : (spend s c n).commits = s.commits := rfl
@[simp] theorem spend_pipe (s : State) (c n : Nat) : (spend s c n).pipe = s.pipe := rfl
@[simp] theorem spend_refs (s : State) (c n : Nat) : (spend s c n).refs = s.refs := rfl
@[simp] theorem spend_latches (s : State) (c n : Nat) : (spend s c n).latches = s.latches := rfl
@[simp] theorem spend_lamp (s : State) (c n : Nat) : (spend s c n).lamp = s.lamp := rfl
@[simp] theorem spend_lanes (s : State) (c n : Nat) : (spend s c n).lanes = s.lanes := rfl
@[simp] theorem spend_therm (s : State) (c n : Nat) : (spend s c n).therm = s.therm := rfl
@[simp] theorem spend_mram (s : State) (c n : Nat) : (spend s c n).mram = s.mram := rfl
@[simp] theorem spend_cal (s : State) (c n : Nat) : (spend s c n).cal = s.cal := rfl
@[simp] theorem spend_adc (s : State) (c n : Nat) : (spend s c n).adc = s.adc := rfl
@[simp] theorem spend_power (s : State) (c n : Nat) : (spend s c n).power = s.power := rfl
@[simp] theorem spend_bist (s : State) (c n : Nat) : (spend s c n).bist = s.bist := rfl
@[simp] theorem spend_host (s : State) (c n : Nat) : (spend s c n).host = s.host := rfl
@[simp] theorem spend_lantern (s : State) (c n : Nat) : (spend s c n).lantern = s.lantern := rfl
@[simp] theorem spend_dump (s : State) (c n : Nat) : (spend s c n).dump = s.dump := rfl
@[simp] theorem spend_jtag (s : State) (c n : Nat) : (spend s c n).jtag = s.jtag := rfl

/-! ### storeByte -/

@[simp] theorem storeByte_now (s : State) (a : Nat) (v : Byte) : (storeByte s a v).now = s.now := rfl
@[simp] theorem storeByte_free (s : State) (a : Nat) (v : Byte) : (storeByte s a v).free = s.free := rfl
@[simp] theorem storeByte_pending (s : State) (a : Nat) (v : Byte) : (storeByte s a v).pending = s.pending := rfl
@[simp] theorem storeByte_regs (s : State) (a : Nat) (v : Byte) : (storeByte s a v).regs = s.regs := rfl
@[simp] theorem storeByte_chans (s : State) (a : Nat) (v : Byte) : (storeByte s a v).chans = s.chans := rfl
@[simp] theorem storeByte_queues (s : State) (a : Nat) (v : Byte) : (storeByte s a v).queues = s.queues := rfl
@[simp] theorem storeByte_engines (s : State) (a : Nat) (v : Byte) : (storeByte s a v).engines = s.engines := rfl
@[simp] theorem storeByte_pair (s : State) (a : Nat) (v : Byte) : (storeByte s a v).pair = s.pair := rfl
@[simp] theorem storeByte_takeover (s : State) (a : Nat) (v : Byte) : (storeByte s a v).takeover = s.takeover := rfl
@[simp] theorem storeByte_modules (s : State) (a : Nat) (v : Byte) : (storeByte s a v).modules = s.modules := rfl
@[simp] theorem storeByte_events (s : State) (a : Nat) (v : Byte) : (storeByte s a v).events = s.events := rfl
@[simp] theorem storeByte_tolls (s : State) (a : Nat) (v : Byte) : (storeByte s a v).tolls = s.tolls := rfl
@[simp] theorem storeByte_kdp (s : State) (a : Nat) (v : Byte) : (storeByte s a v).kdp = s.kdp := rfl
@[simp] theorem storeByte_scan (s : State) (a : Nat) (v : Byte) : (storeByte s a v).scan = s.scan := rfl
@[simp] theorem storeByte_commits (s : State) (a : Nat) (v : Byte) : (storeByte s a v).commits = s.commits := rfl
@[simp] theorem storeByte_pipe (s : State) (a : Nat) (v : Byte) : (storeByte s a v).pipe = s.pipe := rfl
@[simp] theorem storeByte_refs (s : State) (a : Nat) (v : Byte) : (storeByte s a v).refs = s.refs := rfl
@[simp] theorem storeByte_latches (s : State) (a : Nat) (v : Byte) : (storeByte s a v).latches = s.latches := rfl
@[simp] theorem storeByte_lamp (s : State) (a : Nat) (v : Byte) : (storeByte s a v).lamp = s.lamp := rfl
@[simp] theorem storeByte_lanes (s : State) (a : Nat) (v : Byte) : (storeByte s a v).lanes = s.lanes := rfl
@[simp] theorem storeByte_therm (s : State) (a : Nat) (v : Byte) : (storeByte s a v).therm = s.therm := rfl
@[simp] theorem storeByte_mram (s : State) (a : Nat) (v : Byte) : (storeByte s a v).mram = s.mram := rfl
@[simp] theorem storeByte_cal (s : State) (a : Nat) (v : Byte) : (storeByte s a v).cal = s.cal := rfl
@[simp] theorem storeByte_adc (s : State) (a : Nat) (v : Byte) : (storeByte s a v).adc = s.adc := rfl
@[simp] theorem storeByte_power (s : State) (a : Nat) (v : Byte) : (storeByte s a v).power = s.power := rfl
@[simp] theorem storeByte_bist (s : State) (a : Nat) (v : Byte) : (storeByte s a v).bist = s.bist := rfl
@[simp] theorem storeByte_host (s : State) (a : Nat) (v : Byte) : (storeByte s a v).host = s.host := rfl
@[simp] theorem storeByte_lantern (s : State) (a : Nat) (v : Byte) : (storeByte s a v).lantern = s.lantern := rfl
@[simp] theorem storeByte_dump (s : State) (a : Nat) (v : Byte) : (storeByte s a v).dump = s.dump := rfl
@[simp] theorem storeByte_jtag (s : State) (a : Nat) (v : Byte) : (storeByte s a v).jtag = s.jtag := rfl

/-! ### What an update sets -/

/-- A value set reads back. -/
@[simp] theorem reg_setReg (s : State) (k v : Nat) : (s.setReg k v).reg k = v := mapGet_put _ _ _ _

/-- Another value is unchanged. -/
theorem reg_setReg_ne (s : State) (k j v : Nat) (h : j ≠ k) : (s.setReg k v).reg j = s.reg j := mapGet_put_ne _ _ _ _ _ h

/-- A counter that wraps. -/
@[simp] theorem reg_bump (s : State) (k : Nat) : (s.bump k).reg k = (s.reg k + 1) % 4294967296 := reg_setReg _ _ _

/-- Another value is unchanged by a count. -/
theorem reg_bump_ne (s : State) (k j : Nat) (h : j ≠ k) : (s.bump k).reg j = s.reg j := reg_setReg_ne _ _ _ _ h

/-- A reading depends on the register file alone. -/
theorem reg_congr {s t : State} (h : t.regs = s.regs) (k : Nat) : t.reg k = s.reg k := by simp [State.reg, h]

@[simp] theorem atLeast_now (s : State) (t : Nat) : (s.atLeast t).now = Nat.max s.now t := rfl

@[simp] theorem atLeast_reg (s : State) (t k : Nat) : (s.atLeast t).reg k = s.reg k := rfl

/-- An element put into a vector reads back inside its range. -/
theorem vget_vset {α : Type} {n : Nat} (v : Vector α n) (d x : α) (i : Nat) (h : i < n) : vget (vset v i x) d i = x := by
  simp [vget, vset, h]

/-- Another element of a vector is unchanged. -/
theorem vget_vset_ne {α : Type} {n : Nat} (v : Vector α n) (d x : α) (i j : Nat) (h : j ≠ i) : vget (vset v i x) d j = vget v d j := by
  simp only [vget, vset]
  by_cases hj : j < n
  · rw [Vector.getElem?_setIfInBounds_ne (by omega)]
  · simp [Vector.getElem?_eq_none (Nat.le_of_not_lt hj)]

/-- An engine set reads back. -/
theorem engOf_setEng (s : State) (e : Nat) (x : Engine) (h : e < 9) : engOf (setEng s e x) e = x := vget_vset _ _ _ _ h

/-- Another engine is unchanged. -/
theorem engOf_setEng_ne (s : State) (e k : Nat) (x : Engine) (h : k ≠ e) : engOf (setEng s e x) k = engOf s k := by
  unfold engOf setEng
  exact vget_vset_ne _ _ _ _ _ h

/-- A queue's control set reads back. -/
theorem qCtl_setQ (s : State) (q : Nat) (c : QueueCtl) (h : q < 16) : qCtl (setQ s q c) q = c := vget_vset _ _ _ _ h

/-- Another queue's control is unchanged. -/
theorem qCtl_setQ_ne (s : State) (q k : Nat) (c : QueueCtl) (h : k ≠ q) : qCtl (setQ s q c) k = qCtl s k := by
  unfold qCtl setQ
  exact vget_vset_ne _ _ _ _ _ h

/-- A session set reads back. -/
theorem sessOf_setSess (s : State) (n : Nat) (x : Session) (h : 1 ≤ n ∧ n ≤ 8) : sessOf (setSess s n x) n = x :=
  vget_vset _ _ _ _ (by omega)

/-- A byte of the pixel store written reads back, where the laid-out byte there does not change. -/
theorem loadByte_storeByte (s : State) (a : Nat) (v : Byte) : loadByte (storeByte s a v) a = v := by
  have hb : background (storeByte s a v) a = background s a := rfl
  simp only [loadByte, hb]
  simp [storeByte, BitVec.xor_assoc]

/-- Another byte of the pixel store is unchanged. -/
theorem loadByte_storeByte_ne (s : State) (a b : Nat) (v : Byte) (h : b ≠ a) : loadByte (storeByte s a v) b = loadByte s b := by
  have hb : background (storeByte s a v) b = background s b := rfl
  simp only [loadByte, hb]
  simp [storeByte, memGet_put_ne _ _ _ _ h]

end Sys2Proof.Laws
end

