-- ==== Sys2Proof/Safety.lean ====
section
/-!
DEFINITION. The terms in which the statements speak: a step that goes on, canonical memories, an engine that executes, the result and the frame of
an engine's instruction, and a raise as the host sees it.
-/

namespace Sys2Proof.Machine

/-- A step that answers a next state. -/
def goesOn (s : State) : Prop := ∃ t, step s = .next t

/-- The pixel store's memory in its canonical form: addresses rising, nothing listed that reads as laid out. -/
def StoreCanonical (s : State) : Prop := Memory.wf s.store.mem = true

/-- The register file in its canonical form: keys rising, no value listed that is its entry's default. -/
def RegsCanonical (s : State) : Prop := regsWf s.regs = true

/-- An engine executes instructions: it runs, waits for nothing, is not halted with the pair, and its pc lies in its instruction RAM (R356). -/
def Executes (s : State) (e : Fin 9) : Prop := engineReady s e = true ∧ (engOf s e).pc.toNat < 65536

/-- An engine that executes and does not belong to the pair, so that its inputs and outputs are its own (R382). -/
def ExecutesAlone (s : State) (e : Fin 9) : Prop := Executes s e ∧ inPair s e = false

/-- R22, R394: a C7 token is left for an access of an engine, in the period and under the engine's cap, and no request of the engine waits for tokens. -/
def HasToken (s : State) (e : Fin 9) : Prop :=
  1 ≤ tokensLeft s 7 ∧ (∀ p ∈ s.tolls.part, p.2.1 ≠ .engine e) ∧ (s.reg (Reg.engC7Cap (if e = 8 then (engOf s e).runsAs else e)) = 0 ∨
    (engOf s e).c7Used + 1 ≤ s.reg (Reg.engC7Cap (if e = 8 then (engOf s e).runsAs else e)))

/-- A running engine outside the pair that waits for nothing and whose moves no cap on C7 holds back, with no Assayer that watches block moves (R289). -/
def Moving (s : State) (e : Fin 9) : Prop :=
  inPair s e = false ∧ (engOf s e).run = .running ∧ (engOf s e).stall = .none ∧ s.reg (Reg.engC7Cap (if e = 8 then (engOf s e).runsAs else e)) = 0 ∧
  ∀ k, k < 8 → bits (s.reg (Reg.assayConfig k)) 15 8 ≠ 4

/-- R350, R351: an instruction completed on engine `e`: register `rd` holds `v` (g0 keeps reading 0), the flags are `fl`, the pc is past the instruction;
every other register, everything else of the engine, and all of the state outside the engine are as before. -/
def Completed (s t : State) (e : Fin 9) (rd : Fin 32) (v : Word) (fl : Flags) : Prop :=
  (engOf t e).get rd = (if rd = 0 then 0 else v) ∧ (∀ r, r ≠ rd → (engOf t e).get r = (engOf s e).get r) ∧
  (engOf t e).flags = fl ∧ (engOf t e).pc = (engOf s e).pc + 4 ∧
  { engOf t e with g := (engOf s e).g, flags := (engOf s e).flags, pc := (engOf s e).pc } = engOf s e ∧ t = setEng s e (engOf t e)

/-- R384: a raise of event `n` as `evt.count` shows it, which counts every raise, masked or not. Between commands no raise is held back. -/
def Raised (n : Nat) (s t : State) : Prop := s.events.gathering = none → t.reg (Reg.evtCount n) = (s.reg (Reg.evtCount n) + 1) % 4294967296

/-! ### What raising events changes (R384, R387 to R389, R508) -/

/-- The dictionary values that a raise may change: `evt.count` and `evt.storm_dropped`. -/
def eventKey (k : Nat) : Prop := k / 256 = 0x2821 ∨ k = Reg.evtStormDropped

/-- The parts of the state that no event touches; of MRAM all but the Ledger, of the dictionary service all but the sessions and the transports. -/
structure Rest where
  now : Nat
  free : Nat
  pending : List Instr
  chans : Channels
  takeover : Option (Nat × Nat)
  modules : List Module
  tolls : Tolls
  scan : Scan
  commits : Commits
  pipe : Pipeline
  refs : Refs
  latches : Latches
  lamp : Lamp
  therm : Therm
  cal : Cal
  adc : Adc
  power : Power
  bist : Bist
  host : HostSup
  lantern : Lantern
  dump : Dump
  jtag : Jtag
  mram : Mram
  kdp : Kdp

/-- Those parts of a state. -/
def rest (s : State) : Rest :=
  { now := s.now, free := s.free, pending := s.pending, chans := s.chans, takeover := s.takeover, modules := s.modules, tolls := s.tolls, scan := s.scan, commits := s.commits, pipe := s.pipe, refs := s.refs, latches := s.latches, lamp := s.lamp, therm := s.therm, cal := s.cal, adc := s.adc, power := s.power, bist := s.bist, host := s.host, lantern := s.lantern, dump := s.dump, jtag := s.jtag,
    mram := { s.mram with ledger := ⟨[], 0, [], []⟩ },
    kdp := { s.kdp with sessions := Vector.replicate 8 State.sessionReset, transports := Vector.replicate 4 State.transportReset, can := Vector.replicate 2 State.canReset } }

/-- A session without what a NOTIFY changes: the device's SEQ and the count of lost ones. -/
def Session.still (x : Session) : Session := { x with devSeq := 0, notifyLost := 0 }

/-- An engine without what an event that reaches it changes: the pending events and, where it waits for one, the end of that wait. -/
def Engine.still (x : Engine) : Engine :=
  { x with g := Vector.replicate 32 0, flags := ⟨false, false, false, false, false⟩, pc := 0, pendingEvents := [], evdata := 0, evtime := 0, stall := .none }

/-- An engine without its pending events. -/
def Engine.calm (x : Engine) : Engine := { x with pendingEvents := [] }

/-- A lane without its retry buffer and LSEQ. -/
def Lane.still (x : Lane) : Lane := { x with txLseq := 0, retry := [] }

/-- The lanes without what sending a packet changes. -/
def Lanes.still (x : Lanes) : Lanes :=
  { x with txSseq := 0, txWait := [], resend := [], lastLane := 0, usedBulk := 0, usedCtl := 0, wire := [], lanes := x.lanes.map Lane.still }

/-- `t` differs from `m` only in what raised events and frames on their way to the host may change: the latches, storm counts and pending events,
the log queue Q5 and the queues Q1 and Q4 to the transports with their rings (which have 1 to 2,048 entries), the Ledger, the sessions and the transports, and the counts of raises. -/
structure UpToFrames (m t : State) : Prop where
  rest : rest t = rest m
  regs : ∀ k, ¬ eventKey k → t.reg k = m.reg k
  queues : ∀ q, q ≠ 1 → q ≠ 4 → q ≠ 5 → qCtl t q = qCtl m q
  pair : t.pair.active = m.pair.active ∧ t.pair.waiting = m.pair.waiting ∧ t.pair.checking = m.pair.checking
  engines : ∀ e, (engOf t e).still = (engOf m e).still
  awake : ∀ e, (∀ rd limit, (engOf m e).stall ≠ .event rd limit) → (engOf t e).calm = (engOf m e).calm
  lanes : t.lanes.still = m.lanes.still
  settled : m.events.gathering = none → t.events.gathering = none
  bytes : (∀ q, q = 1 ∨ q = 4 ∨ q = 5 → 0 < qEntries m q ∧ qEntries m q ≤ 2048) →
    ∀ a, (∀ q, q = 1 ∨ q = 4 ∨ q = 5 → a < queueBase + q * 65536 ∨ queueBase + (q + 1) * 65536 ≤ a) → loadByte t a = loadByte m a

/-- `t` differs from `m` only in what raised events may change: of the sessions only the device's SEQ and the count of lost NOTIFYs. -/
structure UpToEvents (m t : State) : Prop extends UpToFrames m t where
  sessions : ∀ n, (sessOf t n).still = (sessOf m n).still

/-- Raises of the sources `ns`, counted for each source but E100 and E124, which a raise may bring with it; between commands no raise is held back. -/
def Counted (m : State) (ns : List Nat) (t : State) : Prop :=
  m.events.gathering = none → ∀ n, n < 128 → n ≠ 100 → n ≠ 124 → t.reg (Reg.evtCount n) % 4294967296 = (m.reg (Reg.evtCount n) + ns.count n) % 4294967296

/-- `t` is `m` after raises of the sources `ns`. -/
def After (m : State) (ns : List Nat) (t : State) : Prop := UpToEvents m t ∧ Counted m ns t

/-- `t` is `m` after raises of the sources `ns` and after an answer to the host. -/
def Answered (m : State) (ns : List Nat) (t : State) : Prop := UpToFrames m t ∧ Counted m ns t

/-! ### Requests and writes (R309, R315, R318, R331, R499) -/

/-- A request with this header is the next of its open session, the dictionary is served, no frame waits in the transport's queue, and no transfer of
the session and no save is under way. -/
def NextRequest (h : Hdr) (s : State) : Prop :=
  serves s h.transport = true ∧ 1 ≤ h.session.toNat ∧ h.session.toNat ≤ 8 ∧ (sessOf s h.session.toNat).isOpen = true ∧
  (sessOf s h.session.toNat).transport = h.transport ∧ (sessOf s h.session.toNat).seqLast + 1 = h.seq ∧ (sessOf s h.session.toNat).transfer = none ∧
  qNext s (rxQueue h.transport) = none ∧ s.kdp.saving = none

/-- A writer may write entries with the stock firmware booted: a session with the key whose request is the next, with the service level where `service`
says so, or the stock firmware itself. -/
def MayWrite (w : Writer) (service : Bool) (s : State) : Prop :=
  bootedSlot s ≠ none ∧ match w with
  | .host h => NextRequest h s ∧ s.kdp.keyholder = h.session.toNat ∧ (service = true → (sessOf s h.session.toNat).service = true)
  | .firmware => (∃ n, n < 4 ∧ firmwareRuns s n = true) ∧ recovery s = false

/-- What a writer's accepted write leaves: the effect `f` with raises of `ns`; a host's counts as host activity, its session remembers the SEQ, and the
answer goes out. -/
def Wrote (w : Writer) (f : State → State) (ns : List Nat) (s t : State) : Prop := match w with
  | .host h => Answered (f (hostActive s)) ns t ∧ (sessOf t h.session.toNat).seqLast = h.seq
  | .firmware => After (f s) ns t

/-- The state on which the service of a next request works: the session's last request is now, and the request of the keyholder, or while nobody holds the
key, counts as host activity (R499). -/
def served (s : State) (n : Nat) : State := activity (setSess s n { sessOf s n with lastRequest := s.now }) n

/-- The state after a request of a session that was executed is answered: the session remembers the SEQ and the response, which goes out (R318, R320). -/
def answerTo (h : Hdr) (svc key status : Nat) (p : List Byte) (m : State) : State :=
  respond (setSess m h.session.toNat { sessOf m h.session.toNat with seqLast := h.seq, lastResponse := [] }) h.session.toNat svc h.seq.toNat key status p true

/-- A SEGMENT with this header is the next request of a session whose transfer is `x`. -/
def NextSegment (h : Hdr) (x : Transfer) (s : State) : Prop :=
  (sessOf s h.session.toNat).transfer = some x ∧ NextRequest h (setSess s h.session.toNat { sessOf s h.session.toNat with transfer := none })

/-- The session that the header names holds the key. -/
def HoldsKey (h : Hdr) (s : State) : Prop := s.kdp.keyholder = h.session.toNat

/-- A session replaced. -/
def inSession (h : Hdr) (f : Session → Session) (m : State) : State := setSess m h.session.toNat (f (sessOf m h.session.toNat))

/-- The session of a writer, 0 for the stock firmware. -/
def writerSession : Writer → Nat
  | .host h => h.session.toNat
  | .firmware => 0

/-- A value that an entry may take by its row, where no extension module declares the entry (R305, R372). -/
def Valid (s : State) (key v : Nat) : Prop := (∃ r, rowFor s key = some r ∧ r.inRange key v = true) ∧ ∀ m ∈ s.modules, rowIn m.rows key = none

/-- An RW entry whose write sets its value and does nothing else: not one of the CAN, notification, event, Assayer and acquisition entries, of the beam
profile, nor `scan.kc_relax_ms`, `lane.enable_mask`, `pwr.array_mask` or `lantern.on_bist_fail`. -/
def HeldOnly (key : Nat) : Prop :=
  let i := key / 256
  i ∉ [0x1020, 0x1021, 0x2820] ∧ (i < 0x1041 ∨ 0x1048 < i) ∧ (i < 0x2720 ∨ 0x2727 < i) ∧ (i < 0x2A34 ∨ 0x2A37 < i) ∧
  key ∉ [Reg.scanKcRelaxMs, Reg.laneEnableMask, Reg.pwrArrayMask, Reg.lanternOnBistFail] ∧ inProfile key = false

/-- Every domain is ON and wanted, with nothing queued (R471 to R473). -/
def AllOn (s : State) : Prop := ∀ d, 1 ≤ d → d ≤ 7 → domainOf s d = ⟨2, true, false⟩

/-! ### Composition and drive arithmetic as the rules state them (R104 to R117, R176 to R180) -/

/-- R104: the value of `b` fractional bits nearest to a value that is not negative, ties upwards. -/
def nearest (b : Nat) (x : Rat) : Rat := ((x * (2 ^ b : Nat) + 1 / 2).floor : Rat) / (2 ^ b : Nat)

/-- R179: the six operations without rounding: `a` and `m` from 0 to 1, the layer's value `v` over the running value `d`. -/
def exactBlend (op : Nat) (a m v d : Rat) : Rat :=
  match op with
  | 0 => v
  | 1 => a * v + (1 - a) * d
  | 2 => d * (1 - a + a * m)
  | 3 => (1 - a) * d + a * (if d < v then d else v)
  | 4 => (1 - a) * d + a * (if d < v then v else d)
  | _ => d + a * v

/-- R179, R180: a layer's luminance `y` and alpha over the running value: gain and operation, rounded once and saturated. -/
def layerOver (op gain y alpha d : Nat) : Nat :=
  let v : Nat := Nat.min 65535 (nearest 0 ((y : Rat) * gain / 32768)).floor.toNat
  Nat.min 65535 (nearest 0 (exactBlend op ((alpha : Rat) / 65536) ((v + v / 32768 : Nat) / 65536) v d)).floor.toNat

/-- R176: luminance and alpha of sample `i` of a source tile's bytes. -/
def sampleOf (fmt palette : Nat) (d : List Byte) (i : Nat) : Nat × Nat :=
  match fmt with
  | 0 => (field d i 1 * 257, 65536)
  | 1 => (field d (2 * i) 2 % 4096 * 16 + field d (2 * i) 2 % 4096 / 256, 65536)
  | 2 => (field d (2 * i) 2, 65536)
  | 3 => (field d (2 * i) 1 * 257, field d (2 * i + 1) 1 * 257 + field d (2 * i + 1) 1 / 128)
  | 4 => (if field d (i / 8) 1 / 2 ^ (i % 8) % 2 = 1 then 65535 else 0, 65536)
  | _ =>
    let e := palette / 2 ^ (32 * (field d (i / 2) 1 / 16 ^ (i % 2) % 16)) % 2 ^ 32
    (e % 65536, e / 65536 + e / 65536 / 32768)

/-- The slot of a source tile that the frame being prepared shows: SEL, and the other one while PEND is set (R271). -/
def shownSlot (s : State) (ch : Channel) (i : Nat) : Nat :=
  let x := sideState s (.surface ch i 0)
  (x % 2 + x / 2 % 2) % 2

/-- R177, R178: a layer's luminance and alpha at a place of its footprint: the samples it takes with their weights, which add up to 65,536. -/
def layerValue (s : State) (ch : Channel) (l : LayerCfg) (i j : Nat) : Nat × Nat :=
  let at' (x y : Nat) : Nat × Nat :=
    let k := y / 16 * (ch.width / 16) + x / 16
    sampleOf ch.format l.palette (tileData s (.surface ch k (shownSlot s ch k))) (y % 16 * 16 + x % 16)
  let taps := if l.scaled then sourceTaps l i j else [(l.srcX + i, l.srcY + j, 65536)]
  (((taps.map (fun p => (at' p.1 p.2.1).1 * p.2.2)).sum + 32768) / 65536, ((taps.map (fun p => (at' p.1 p.2.1).2 * p.2.2)).sum + 32768) / 65536)

/-- R116: class and quarter-LSB count of a demand from class `a0` up, by the counts `n` of the classes; class 15 at full count where none fits. -/
def classFrom (n : Nat → Nat) (a0 : Nat) : Nat × Nat :=
  match (List.range 16).find? (fun a => decide (a0 ≤ a) && decide (n a ≤ 4095)) with
  | some a => (a, n a)
  | none => (15, 4095)

/-- R116, R117: the drive word of a demand; `least` is the least diagnosable class, 0 under LONGEST_ON, and `w` the least diagnosable width in LSB. -/
def wordOf (eta : Nat → Nat) (least w : Nat) (x : Rat) : Nat :=
  let n (a : Nat) : Nat := (nearest 0 (x * 4096 * 32768 / eta a)).floor.toNat
  let p := classFrom n least
  let q := if 0 < least ∧ p.2 / 4 < w then classFrom n 0 else p
  if q.2 = 0 then 0 else q.1 * 4096 + q.2

/-- R109: whether the pixel at a place of the array counts as failed for tile `k`: its calibration word is read only within the tile. -/
def failsFor (s : State) (k p : Nat) : Bool := if pixelTile p = k then failedAt s k (pixelPlace p) else pixelFailed s p

/-- R110: what the failed neighbours of pixel `p` offer it before its own correction, `y` being the target of a pixel: the neighbour in the north
gives its southern weight, and so on round. -/
def offered (s : State) (k : Nat) (y : Nat → Rat) (p : Nat) : Rat :=
  let get := frameCfg s
  let give (on : Bool) (q d : Nat) : Rat :=
    if on && failsFor s k q then
      let slot := get Reg.driveCompSelect / 4 ^ (fieldOf (q % 2048) (q / 2048)) % 4
      ((get (Reg.driveCompKernel slot) / 256 ^ d % 256 : Nat) : Rat) / 256 * y q
    else 0
  give (decide (2048 ≤ p)) (p - 2048) 2 + give (decide (p % 2048 < 2047)) (p + 1) 3 + give (decide (p / 2048 < 511)) (p + 2048) 0 + give (decide (0 < p % 2048)) (p - 1) 1

/-! ### Evidence (R146, R147) -/

/-- The fault map and the evidence map lie apart from each other, from themselves and from the queues' rings, which have 1 to 2,048 entries each. -/
def MapsApart (s : State) (c e : Channel) : Prop :=
  (∀ a b, a < 524288 → b < 524288 → c.addr a = c.addr b → a = b) ∧ (∀ a b, a < 524288 → b < 2228224 → c.addr a ≠ e.addr b) ∧
  (∀ a, a < 524288 → c.addr a < queueBase ∨ queueBase + 16 * 65536 ≤ c.addr a) ∧
  (∀ a, a < 2228224 → e.addr a < queueBase ∨ queueBase + 16 * 65536 ≤ e.addr a) ∧
  ∀ q, q < 16 → 0 < qEntries s q ∧ qEntries s q ≤ 2048

/-- R147: the class, FAILS, TAKEN and SUBTH that a sample leaves of a unit before they are held against M and N, where it counts at all. -/
def SampleCounts (s : State) (x : Sample) (cls fails taken : Nat) (subth : Bool) : Prop :=
  let w := evGet s x.sink x.unit
  let susp := w / 4096
  let sub := decide (x.method = 1)
  (susp = 0 ∧ x.vote ≠ 0 ∧ knownClass s x.sink x.unit x.vote = false ∧ cls = x.vote ∧ fails = 1 ∧ taken = 1 ∧ subth = (decide (x.vote = 3) && sub)) ∨
  (susp ≠ 0 ∧ susp ≠ 3 ∧ (susp ∈ x.tests ∨ x.vote ≠ 0) ∧ cls = susp ∧ fails = bits w 11 8 + (if x.vote = susp then 1 else 0) ∧ taken = bits w 7 4 + 1 ∧ subth = false) ∨
  (susp = 3 ∧ 3 ∈ x.tests ∧ sub = bitAt w 3 ∧ cls = 3 ∧ fails = bits w 11 8 + (if x.vote = 3 then 1 else 0) ∧ taken = bits w 7 4 + 1 ∧ subth = sub) ∨
  (susp = 3 ∧ 3 ∈ x.tests ∧ sub ≠ bitAt w 3 ∧ x.vote = 3 ∧ knownClass s x.sink x.unit 3 = false ∧ cls = 3 ∧ fails = 1 ∧ taken = 1 ∧ subth = sub)

end Sys2Proof.Machine
end

