-- ==== Sys2Proof/Laws/Raise.lean ====
section
/-!
SUPPORT. What raising an event leaves alone (R384, R388, R389, R508): it counts, latches, routes, logs, notifies and records, and changes nothing else.
-/

namespace Sys2Proof.Laws

open Sys2Proof.Machine

/-- A fold of steps that leave those parts alone leaves them alone. -/
theorem rest_foldl {α : Type} (f : State → α → State) (h : ∀ s a, rest (f s a) = rest s) (l : List α) (s : State) : rest (l.foldl f s) = rest s := by
  induction l generalizing s with
  | nil => rfl
  | cons a t ih => rw [List.foldl_cons, ih, h]

@[simp] theorem rest_setReg (s : State) (k v : Nat) : rest (s.setReg k v) = rest s := rfl
@[simp] theorem rest_bump (s : State) (k : Nat) : rest (s.bump k) = rest s := rfl
@[simp] theorem rest_setEng (s : State) (e : Nat) (x : Engine) : rest (setEng s e x) = rest s := rfl
@[simp] theorem rest_setQ (s : State) (q : Nat) (c : QueueCtl) : rest (setQ s q c) = rest s := rfl
@[simp] theorem rest_setSess (s : State) (n : Nat) (x : Session) : rest (setSess s n x) = rest s := rfl
@[simp] theorem rest_setTrans (s : State) (n : Nat) (x : Transport) : rest (setTrans s n x) = rest s := rfl
@[simp] theorem rest_setCan (s : State) (n : Nat) (x : CanCtl) : rest (setCan s n x) = rest s := rfl
@[simp] theorem rest_storeByte (s : State) (a : Nat) (v : Byte) : rest (storeByte s a v) = rest s := rfl

@[simp] theorem rest_storeBytes (b : List Byte) : ∀ (s : State) (a : Nat), rest (storeBytes s a b) = rest s := by
  induction b with
  | nil => intros; rfl
  | cons v t ih => intro s a; rw [storeBytes, ih, rest_storeByte]

@[simp] theorem rest_shareEvent (s : State) (o : Nat) (p : PendingEvent) : rest (shareEvent s o p) = rest s := by
  unfold shareEvent; simp only []; split <;> rfl

@[simp] theorem rest_wakeEvents (es : List Nat) (s : State) : rest (wakeEvents es s) = rest s := by
  unfold wakeEvents
  apply rest_foldl
  intro st k
  dsimp only
  split
  · split <;> simp
  · rfl

@[simp] theorem rest_pendEngines (s : State) (e : Nat) (d : BitVec 64) : rest (pendEngines s e d) = rest s := by
  unfold pendEngines; simp only [rest_wakeEvents]; rfl

@[simp] theorem rest_qPut (s : State) (q : Nat) (b : List Byte) : rest (qPut s q b) = rest s := by
  unfold qPut; simp

@[simp] theorem rest_logEvent (s : State) (e : Nat) (d : BitVec 64) : rest (logEvent s e d) = rest s := by
  unfold logEvent; split <;> simp

@[simp] theorem rest_ledgerAppend (s : State) (r : List Byte) (a : Nat) : rest (ledgerAppend s r a) = rest s := by
  unfold ledgerAppend; simp only []; split <;> rfl

theorem rest_setLedger (s : State) (l : Ledger) : rest { s with mram := { s.mram with ledger := l } } = rest s := rfl

@[simp] theorem rest_eventRecord (s : State) (e : Nat) (d : BitVec 64) : rest (eventRecord s e d) = rest s := by
  unfold eventRecord
  dsimp only
  split
  · split
    · rfl
    · split
      · exact (rest_setLedger _ _).trans (rest_ledgerAppend _ _ _)
      · split <;> rfl
  · split
    · rfl
    · split
      · exact (rest_setLedger _ _).trans (rest_ledgerAppend _ _ _)
      · split <;> rfl

@[simp] theorem rest_canDrain (s : State) (c : Nat) : rest (canDrain s c) = rest s := by
  unfold canDrain; split <;> simp

@[simp] theorem rest_linkSend (s : State) (ctl : Bool) (p : List Byte) : rest (linkSend s ctl p) = rest s := by
  unfold linkSend; split <;> rfl

@[simp] theorem rest_qTake (s : State) (q : Nat) : rest (qTake s q).2 = rest s := by
  unfold qTake
  split
  · rfl
  · simp only [qAck, qLease]; split <;> (try split) <;> (try split) <;> simp

@[simp] theorem rest_placeFrame (s : State) (t : Nat) (f : List Byte) : rest (placeFrame s t f) = rest s := by
  unfold placeFrame
  simp only []
  split
  · simp
  · split <;> simp

@[simp] theorem rest_sendFrame (s : State) (t : Nat) (f : List Byte) : rest (sendFrame s t f) = rest s := by
  unfold sendFrame
  simp only []
  split <;> simp

@[simp] theorem rest_notifySession (e : Nat) (d : BitVec 64) (s : State) (n : Nat) : rest (notifySession e d s n) = rest s := by
  unfold notifySession
  simp only []
  split
  · split <;> simp
  · rfl

@[simp] theorem rest_deliver (e : Nat) (d : BitVec 64) (log : Bool) (s : State) : rest (deliver e d log s) = rest s := by
  unfold deliver
  rw [rest_foldl _ (fun s a => rest_notifySession _ _ _ _)]
  simp only [rest_eventRecord]
  split <;> simp <;> rfl

@[simp] theorem rest_raiseWith (log : Bool) (e : Nat) (d : BitVec 64) (s : State) : rest (raiseWith log e d s) = rest s := by
  unfold raiseWith
  simp only []
  split
  · rfl
  · split <;> simp <;> rfl

@[simp] theorem rest_logOverflow (s : State) : rest (logOverflow s) = rest s := by
  unfold logOverflow; simp only []; split <;> simp

@[simp] theorem rest_raiseNow (e : Nat) (d : BitVec 64) (s : State) : rest (raiseNow e d s) = rest s := by
  unfold raiseNow; simp only []; split <;> simp

@[simp] theorem rest_raiseData (e : Nat) (d : BitVec 64) (s : State) : rest (raiseData e d s) = rest s := by
  unfold raiseData
  split
  · rfl
  · exact rest_raiseNow e d s

/-- What a raise leaves alone. -/
@[simp] theorem rest_raise (e : Nat) (b : List Byte) (s : State) : rest (raise e b s) = rest s := rest_raiseData _ _ _

@[simp] theorem raise_now (e : Nat) (b : List Byte) (s : State) : (raise e b s).now = s.now := congrArg Rest.now (rest_raise e b s)
@[simp] theorem raise_free (e : Nat) (b : List Byte) (s : State) : (raise e b s).free = s.free := congrArg Rest.free (rest_raise e b s)
@[simp] theorem raise_pending (e : Nat) (b : List Byte) (s : State) : (raise e b s).pending = s.pending := congrArg Rest.pending (rest_raise e b s)
@[simp] theorem raise_chans (e : Nat) (b : List Byte) (s : State) : (raise e b s).chans = s.chans := congrArg Rest.chans (rest_raise e b s)
@[simp] theorem raise_takeover (e : Nat) (b : List Byte) (s : State) : (raise e b s).takeover = s.takeover := congrArg Rest.takeover (rest_raise e b s)
@[simp] theorem raise_modules (e : Nat) (b : List Byte) (s : State) : (raise e b s).modules = s.modules := congrArg Rest.modules (rest_raise e b s)
@[simp] theorem raise_tolls (e : Nat) (b : List Byte) (s : State) : (raise e b s).tolls = s.tolls := congrArg Rest.tolls (rest_raise e b s)
@[simp] theorem raise_scan (e : Nat) (b : List Byte) (s : State) : (raise e b s).scan = s.scan := congrArg Rest.scan (rest_raise e b s)
@[simp] theorem raise_commits (e : Nat) (b : List Byte) (s : State) : (raise e b s).commits = s.commits := congrArg Rest.commits (rest_raise e b s)
@[simp] theorem raise_pipe (e : Nat) (b : List Byte) (s : State) : (raise e b s).pipe = s.pipe := congrArg Rest.pipe (rest_raise e b s)
@[simp] theorem raise_refs (e : Nat) (b : List Byte) (s : State) : (raise e b s).refs = s.refs := congrArg Rest.refs (rest_raise e b s)
@[simp] theorem raise_latches (e : Nat) (b : List Byte) (s : State) : (raise e b s).latches = s.latches := congrArg Rest.latches (rest_raise e b s)
@[simp] theorem raise_lamp (e : Nat) (b : List Byte) (s : State) : (raise e b s).lamp = s.lamp := congrArg Rest.lamp (rest_raise e b s)
@[simp] theorem raise_therm (e : Nat) (b : List Byte) (s : State) : (raise e b s).therm = s.therm := congrArg Rest.therm (rest_raise e b s)
@[simp] theorem raise_cal (e : Nat) (b : List Byte) (s : State) : (raise e b s).cal = s.cal := congrArg Rest.cal (rest_raise e b s)
@[simp] theorem raise_adc (e : Nat) (b : List Byte) (s : State) : (raise e b s).adc = s.adc := congrArg Rest.adc (rest_raise e b s)
@[simp] theorem raise_power (e : Nat) (b : List Byte) (s : State) : (raise e b s).power = s.power := congrArg Rest.power (rest_raise e b s)
@[simp] theorem raise_bist (e : Nat) (b : List Byte) (s : State) : (raise e b s).bist = s.bist := congrArg Rest.bist (rest_raise e b s)
@[simp] theorem raise_host (e : Nat) (b : List Byte) (s : State) : (raise e b s).host = s.host := congrArg Rest.host (rest_raise e b s)
@[simp] theorem raise_lantern (e : Nat) (b : List Byte) (s : State) : (raise e b s).lantern = s.lantern := congrArg Rest.lantern (rest_raise e b s)
@[simp] theorem raise_dump (e : Nat) (b : List Byte) (s : State) : (raise e b s).dump = s.dump := congrArg Rest.dump (rest_raise e b s)
@[simp] theorem raise_jtag (e : Nat) (b : List Byte) (s : State) : (raise e b s).jtag = s.jtag := congrArg Rest.jtag (rest_raise e b s)

/-! ### The register file -/

theorem regs_foldl {α : Type} (f : State → α → State) (h : ∀ s a, (f s a).regs = s.regs) (l : List α) (s : State) : (l.foldl f s).regs = s.regs := by
  induction l generalizing s with
  | nil => rfl
  | cons a t ih => rw [List.foldl_cons, ih, h]

@[simp] theorem regs_storeBytes (b : List Byte) : ∀ (s : State) (a : Nat), (storeBytes s a b).regs = s.regs := by
  induction b with
  | nil => intros; rfl
  | cons v t ih => intro s a; rw [storeBytes, ih]; rfl

@[simp] theorem regs_shareEvent (s : State) (o : Nat) (p : PendingEvent) : (shareEvent s o p).regs = s.regs := by
  unfold shareEvent; simp only []; split <;> rfl

@[simp] theorem regs_wakeEvents (es : List Nat) (s : State) : (wakeEvents es s).regs = s.regs := by
  unfold wakeEvents
  apply regs_foldl
  intro st k
  dsimp only
  split
  · split <;> simp
  · rfl

@[simp] theorem regs_pendEngines (s : State) (e : Nat) (d : BitVec 64) : (pendEngines s e d).regs = s.regs := by
  unfold pendEngines; simp only [regs_wakeEvents]

@[simp] theorem regs_qPut (s : State) (q : Nat) (b : List Byte) : (qPut s q b).regs = s.regs := by
  unfold qPut; simp

@[simp] theorem regs_logEvent (s : State) (e : Nat) (d : BitVec 64) : (logEvent s e d).regs = s.regs := by
  unfold logEvent; split <;> simp

/-- A record of type 0x10 is not counted as a shutdown. -/
theorem regs_eventRecord (s : State) (e : Nat) (d : BitVec 64) : (eventRecord s e d).regs = s.regs := by
  have h : ∀ r : List Byte, field (bytesLE 1 0x10 ++ r) 0 1 = 16 := by
    intro r; simp [field, slice, bytesLE, natLE]
  unfold eventRecord
  dsimp only
  split
  · split
    · rfl
    · split
      · simp [ledgerAppend, h, List.append_assoc]
      · split <;> rfl
  · split
    · rfl
    · split
      · simp [ledgerAppend, h, List.append_assoc]
      · split <;> rfl

@[simp] theorem regs_canDrain (s : State) (c : Nat) : (canDrain s c).regs = s.regs := by
  unfold canDrain; split <;> simp

@[simp] theorem regs_linkSend (s : State) (ctl : Bool) (p : List Byte) : (linkSend s ctl p).regs = s.regs := by
  unfold linkSend; split <;> rfl

@[simp] theorem regs_qTake (s : State) (q : Nat) : (qTake s q).2.regs = s.regs := by
  unfold qTake
  split
  · rfl
  · simp only [qAck, qLease]; split <;> (try split) <;> (try split) <;> simp

@[simp] theorem regs_placeFrame (s : State) (t : Nat) (f : List Byte) : (placeFrame s t f).regs = s.regs := by
  unfold placeFrame
  simp only []
  split
  · simp
  · split <;> simp

@[simp] theorem regs_sendFrame (s : State) (t : Nat) (f : List Byte) : (sendFrame s t f).regs = s.regs := by
  unfold sendFrame
  simp only []
  split <;> simp

@[simp] theorem regs_notifySession (e : Nat) (d : BitVec 64) (s : State) (n : Nat) : (notifySession e d s n).regs = s.regs := by
  unfold notifySession
  simp only []
  split
  · split <;> simp
  · rfl

/-- Delivering an event changes no dictionary value. -/
@[simp] theorem regs_deliver (e : Nat) (d : BitVec 64) (log : Bool) (s : State) : (deliver e d log s).regs = s.regs := by
  unfold deliver
  rw [regs_foldl _ (fun s a => regs_notifySession _ _ _ _)]
  simp only [regs_eventRecord]
  split <;> simp

theorem not_eventKey_count {k e : Nat} (he : e < 128) (h : ¬ eventKey k) : k ≠ Reg.evtCount e := by
  intro hk; apply h; left; subst hk; unfold Reg.evtCount; omega

theorem raiseWith_reg (log : Bool) (e : Nat) (d : BitVec 64) (s : State) (k : Nat) (he : e < 128) (h : ¬ eventKey k) :
    (raiseWith log e d s).reg k = s.reg k := by
  have h1 := not_eventKey_count he h
  have h2 : k ≠ Reg.evtStormDropped := fun hk => h (Or.inr hk)
  have h3 := not_eventKey_count (e := 124) (by decide) h
  unfold raiseWith
  simp only []
  split
  · rw [reg_bump_ne _ _ _ h2, ← reg_bump_ne s _ _ h1]; rfl
  · split
    · rw [reg_congr (regs_deliver _ _ _ _), reg_bump_ne _ _ _ h3, reg_bump_ne _ _ _ h2, ← reg_bump_ne s _ _ h1]; rfl
    · rw [reg_congr (regs_deliver _ _ _ _), ← reg_bump_ne s _ _ h1]; rfl

theorem logOverflow_reg (s : State) (k : Nat) (h : ¬ eventKey k) : (logOverflow s).reg k = s.reg k := by
  unfold logOverflow
  simp only []
  split
  · rfl
  · rw [raiseWith_reg _ _ _ _ _ (by decide) h]; rfl

/-- A raise changes no dictionary value but the counts of raises. -/
theorem raise_reg (e : Nat) (b : List Byte) (s : State) (k : Nat) (he : e < 128) (h : ¬ eventKey k) : (raise e b s).reg k = s.reg k := by
  unfold raise raiseData
  split
  · rfl
  unfold raiseNow
  simp only []
  split
  · exact raiseWith_reg _ _ _ _ _ he h
  · rw [logOverflow_reg _ _ h]; exact raiseWith_reg _ _ _ _ _ he h

theorem count_ne {e f : Nat} (h : f ≠ e) : Reg.evtCount f ≠ Reg.evtCount e := by unfold Reg.evtCount; omega

theorem count_dropped (e : Nat) (h : e < 128) : Reg.evtCount e ≠ Reg.evtStormDropped := by unfold Reg.evtCount Reg.evtStormDropped; omega

/-- Another source's count is unchanged by a raise, but for E124. -/
theorem raiseWith_count_ne (log : Bool) (e f : Nat) (d : BitVec 64) (s : State) (hf : f < 128) (h : f ≠ e) (h2 : f ≠ 124) :
    (raiseWith log e d s).reg (Reg.evtCount f) = s.reg (Reg.evtCount f) := by
  have h1 := count_ne h
  have h3 := count_ne h2
  have h4 := count_dropped f hf
  unfold raiseWith
  simp only []
  split
  · rw [reg_bump_ne _ _ _ h4, ← reg_bump_ne s _ _ h1]; rfl
  · split
    · rw [reg_congr (regs_deliver _ _ _ _), reg_bump_ne _ _ _ h3, reg_bump_ne _ _ _ h4, ← reg_bump_ne s _ _ h1]; rfl
    · rw [reg_congr (regs_deliver _ _ _ _), ← reg_bump_ne s _ _ h1]; rfl

/-- R384: `evt.count` counts every raise, masked or not. -/
theorem raiseWith_count (log : Bool) (e : Nat) (d : BitVec 64) (s : State) (he : e < 128) (h : e ≠ 124) :
    (raiseWith log e d s).reg (Reg.evtCount e) = (s.reg (Reg.evtCount e) + 1) % 4294967296 := by
  have h3 := count_ne h
  have h4 := count_dropped e he
  unfold raiseWith
  simp only []
  split
  · rw [reg_bump_ne _ _ _ h4, ← reg_bump s]; rfl
  · split
    · rw [reg_congr (regs_deliver _ _ _ _), reg_bump_ne _ _ _ h3, reg_bump_ne _ _ _ h4, ← reg_bump s]; rfl
    · rw [reg_congr (regs_deliver _ _ _ _), ← reg_bump s]; rfl

theorem logOverflow_count_ne (s : State) (f : Nat) (hf : f < 128) (h : f ≠ 100) (h2 : f ≠ 124) :
    (logOverflow s).reg (Reg.evtCount f) = s.reg (Reg.evtCount f) := by
  unfold logOverflow
  simp only []
  split
  · rfl
  · rw [raiseWith_count_ne _ _ _ _ _ hf h h2]; rfl

/-- R384: every raise is counted, of any source but the two that a raise may bring with it (E100, E124). -/
theorem raise_count (e : Nat) (b : List Byte) (s : State) (he : e < 128) (h : e ≠ 100) (h2 : e ≠ 124) (hg : s.events.gathering = none) :
    (raise e b s).reg (Reg.evtCount e) = (s.reg (Reg.evtCount e) + 1) % 4294967296 := by
  unfold raise raiseData raiseNow
  rw [hg]
  simp only []
  split
  · exact raiseWith_count _ _ _ _ he h2
  · rw [logOverflow_count_ne _ _ he h h2]; exact raiseWith_count _ _ _ _ he h2

/-- Another source's count is unchanged by a raise, but for E100 and E124. -/
theorem raise_count_ne (e f : Nat) (b : List Byte) (s : State) (hf : f < 128) (h : f ≠ e) (h1 : f ≠ 100) (h2 : f ≠ 124) :
    (raise e b s).reg (Reg.evtCount f) = s.reg (Reg.evtCount f) := by
  unfold raise raiseData
  split
  · rfl
  unfold raiseNow
  simp only []
  split
  · exact raiseWith_count_ne _ _ _ _ _ hf h h2
  · rw [logOverflow_count_ne _ _ hf h1 h2]; exact raiseWith_count_ne _ _ _ _ _ hf h h2

end Sys2Proof.Laws
end

