-- ==== Sys2Proof/Laws/Engines.lean ====
section
/-!
SUPPORT. What the frame of an engine's instruction does: where it executes, what a result changes, what a trap saves.
-/

namespace Sys2Proof.Laws

open Sys2Proof.Machine

/-- Where an engine executes, an instruction is its effect. -/
theorem instruct_executes {s : State} {e : Fin 9} (h : Executes s e) (f : State → State) : instruct e f s = .next (f s) := by
  have h1 : (!engineReady s e) = false := by simp [h.1]
  have h2 : ¬ (65536 ≤ (engOf s e).pc.toNat) := by have := h.2; omega
  unfold instruct
  simp [h1, h2]

/-- An engine that does not execute executes nothing. -/
theorem instruct_idle {s : State} {e : Fin 9} (h : engineReady s e = false) (f : State → State) : instruct e f s = .next s := by
  unfold instruct; simp [h]

theorem put_get (x : Engine) (rd : Fin 32) (v : Word) : (x.put rd v).get rd = if rd = 0 then 0 else v := by
  unfold Engine.put Engine.get
  by_cases h : rd = 0
  · simp [h]
  · simp [h]

theorem put_get_ne (x : Engine) (rd r : Fin 32) (v : Word) (h : r ≠ rd) : (x.put rd v).get r = x.get r := by
  unfold Engine.put Engine.get
  by_cases h0 : rd = 0
  · simp [h0]
  · simp only [h0, if_false]
    by_cases hr : r = 0
    · simp [hr]
    · have : (rd : Nat) ≠ r := fun hh => h (Fin.ext hh.symm)
      simp only [hr, if_false]
      exact Vector.getElem_set_ne _ _ this

@[simp] theorem put_pc (x : Engine) (rd : Fin 32) (v : Word) : (x.put rd v).pc = x.pc := by unfold Engine.put; split <;> rfl
@[simp] theorem put_flags (x : Engine) (rd : Fin 32) (v : Word) : (x.put rd v).flags = x.flags := by unfold Engine.put; split <;> rfl
@[simp] theorem put_stall (x : Engine) (rd : Fin 32) (v : Word) : (x.put rd v).stall = x.stall := by unfold Engine.put; split <;> rfl
@[simp] theorem put_dram (x : Engine) (rd : Fin 32) (v : Word) : (x.put rd v).dram = x.dram := by unfold Engine.put; split <;> rfl

/-- A result and nothing else. -/
theorem finish_completed (s : State) (e : Fin 9) (rd : Fin 32) (v : Word) (fl : Flags) : Completed s (finish e rd v fl s) e rd v fl := by
  have he : engOf (finish e rd v fl s) e = (({ engOf s e with flags := fl }.put rd v).next) := engOf_setEng _ _ _ e.isLt
  have hg : ∀ (x : Engine) (r : Fin 32), x.next.get r = x.get r := fun _ _ => rfl
  refine ⟨?_, ?_, ?_, ?_, ?_, ?_⟩
  · rw [he, hg, put_get]
  · intro r hr; rw [he, hg, put_get_ne _ _ _ _ hr]; rfl
  · rw [he]; simp [Engine.next]
  · rw [he]; simp [Engine.next]
  · rw [he]; unfold Engine.put Engine.next; split <;> rfl
  · rw [he]; rfl

/-- Flags alone. -/
theorem finishFlags_completed (s : State) (e : Fin 9) (fl : Flags) : Completed s (finishFlags e fl s) e 0 0 fl := by
  have : finishFlags e fl s = finish e 0 0 fl s := rfl
  rw [this]; exact finish_completed s e 0 0 fl

/-- R355: a trap outside the handler with a handler set: TPC, TCAUSE, TVAL and the jump, and nothing else. -/
theorem trap_taken (s : State) (e cause : Nat) (v : Word) (h : (engOf s e).inTrap = false) (h2 : (engOf s e).tvec ≠ 0) :
    trap e cause v s = setEng s e { engOf s e with tpc := (engOf s e).pc, tcause := BitVec.ofNat 32 cause, tval := v, inTrap := true, pc := (engOf s e).tvec } := by
  have h3 : ((engOf s e).inTrap || (engOf s e).tvec == 0) = false := by rw [h, Bool.false_or]; exact beq_eq_false_iff_ne.2 h2
  unfold trap
  simp only [h3, Bool.false_eq_true, if_false]

/-- R355: a trap in the handler, or with TVEC 0, is a failure with cause 2. -/
theorem trap_fails (s : State) (e cause : Nat) (v : Word) (h : (engOf s e).inTrap = true ∨ (engOf s e).tvec = 0) : trap e cause v s = failEngine e 2 s := by
  unfold trap
  rcases h with h | h <;> simp [h]

end Sys2Proof.Laws
end

