-- ==== Sys2Proof/Laws/Events.lean ====
section
/-!
SUPPORT. A raise changes only what `UpToEvents` names, and counts itself (R384, R387 to R389, R508).
-/

namespace Sys2Proof.Machine

open Sys2Proof.Laws

theorem UpToEvents.refl (s : State) : UpToEvents s s :=
  ⟨⟨rfl, fun _ _ => rfl, fun _ _ _ _ => rfl, ⟨rfl, rfl, rfl⟩, fun _ => rfl, fun _ _ => rfl, rfl, fun h => h, fun _ _ _ => rfl⟩, fun _ => rfl⟩

theorem queueEntries_not_eventKey (q : Nat) (h : q < 16) : ¬ eventKey (Reg.queueEntries q) := by
  unfold eventKey Reg.queueEntries Reg.evtStormDropped; omega

theorem UpToEvents.entries {m t : State} (h : UpToEvents m t) (q : Nat) (hq : q < 16) : qEntries t q = qEntries m q := h.regs _ (queueEntries_not_eventKey q hq)

/-- The rings of Q1, Q4 and Q5 have 1 to 2,048 entries. -/
def RingsSized (s : State) : Prop := ∀ q, q = 1 ∨ q = 4 ∨ q = 5 → 0 < qEntries s q ∧ qEntries s q ≤ 2048

theorem UpToEvents.sized {m t : State} (h : UpToEvents m t) (hm : RingsSized m) : RingsSized t := fun q hq => by
  rw [h.entries q (by omega)]; exact hm q hq

theorem UpToEvents.trans {a b c : State} (h : UpToEvents a b) (k : UpToEvents b c) : UpToEvents a c where
  rest := k.rest.trans h.rest
  regs := fun x hx => (k.regs x hx).trans (h.regs x hx)
  queues := fun q h1 h4 h5 => (k.queues q h1 h4 h5).trans (h.queues q h1 h4 h5)
  pair := ⟨k.pair.1.trans h.pair.1, k.pair.2.1.trans h.pair.2.1, k.pair.2.2.trans h.pair.2.2⟩
  sessions := fun n => (k.sessions n).trans (h.sessions n)
  engines := fun n => (k.engines n).trans (h.engines n)
  awake := fun n hn => by
    have h1 := h.awake n hn
    have h2 : (engOf b n).stall = (engOf a n).stall := by have h3 := congrArg Engine.stall h1; exact h3
    exact (k.awake n (by rw [h2]; exact hn)).trans h1
  lanes := k.lanes.trans h.lanes
  settled := fun hm => k.settled (h.settled hm)
  bytes := fun hm x hx => (k.bytes (h.sized hm) x hx).trans (h.bytes hm x hx)

theorem UpToEvents.foldl {α : Type} (f : State → α → State) (h : ∀ s a, UpToEvents s (f s a)) (l : List α) (s : State) : UpToEvents s (l.foldl f s) := by
  induction l generalizing s with
  | nil => exact UpToEvents.refl s
  | cons a t ih => exact (h s a).trans (ih _)

/-! ### The pieces of a raise -/

theorem upTo_setQ (s : State) (q : Nat) (c : QueueCtl) (hq : q = 1 ∨ q = 4 ∨ q = 5) : UpToEvents s (setQ s q c) :=
  { UpToEvents.refl s with
    rest := rfl, queues := fun _ h1 h4 h5 => qCtl_setQ_ne _ _ _ _ (by rcases hq with rfl | rfl | rfl <;> assumption), bytes := fun _ _ _ => rfl }

theorem upTo_setTrans (s : State) (n : Nat) (x : Transport) : UpToEvents s (setTrans s n x) :=
  { UpToEvents.refl s with rest := rfl, bytes := fun _ _ _ => rfl }

theorem upTo_setCan (s : State) (n : Nat) (x : CanCtl) : UpToEvents s (setCan s n x) :=
  { UpToEvents.refl s with rest := rfl, bytes := fun _ _ _ => rfl }

theorem upTo_events (s : State) (e : Events) (h : s.events.gathering = none → e.gathering = none) : UpToEvents s { s with events := e } :=
  { UpToEvents.refl s with rest := rfl, settled := h, bytes := fun _ _ _ => rfl }

theorem upTo_ledger (s : State) (l : Ledger) : UpToEvents s { s with mram := { s.mram with ledger := l } } :=
  { UpToEvents.refl s with rest := rfl, bytes := fun _ _ _ => rfl }

theorem upTo_bump (s : State) (k : Nat) (h : eventKey k) : UpToEvents s (s.bump k) :=
  { UpToEvents.refl s with
    rest := rfl, regs := fun _ hx => reg_bump_ne s _ _ (fun hk => hx (hk ▸ h)), bytes := fun _ _ _ => rfl }

theorem upTo_setEng (s : State) (e : Nat) (x : Engine) (h : x.still = (engOf s e).still)
    (h2 : (∀ rd limit, (engOf s e).stall ≠ .event rd limit) → x.calm = (engOf s e).calm) : UpToEvents s (setEng s e x) := by
  have key : ∀ k, engOf (setEng s e x) k = x ∧ k = e ∨ engOf (setEng s e x) k = engOf s k := by
    intro k
    by_cases hk : k = e
    · subst hk
      by_cases hb : k < 9
      · left; exact ⟨engOf_setEng _ _ _ hb, rfl⟩
      · right; unfold engOf setEng vget vset; simp [hb]
    · right; exact engOf_setEng_ne _ _ _ _ hk
  exact
  { UpToEvents.refl s with
    rest := rfl
    engines := fun k => by rcases key k with ⟨h1, rfl⟩ | h1 <;> rw [h1]; exact h
    awake := fun k hk => by
      rcases key k with ⟨h1, rfl⟩ | h1 <;> rw [h1]
      exact h2 hk
    bytes := fun _ _ _ => rfl }

theorem upTo_setSess (s : State) (n : Nat) (x : Session) (h : x.still = (sessOf s n).still) : UpToEvents s (setSess s n x) :=
  { UpToEvents.refl s with
    rest := rfl
    sessions := fun k => by
      by_cases hk : k - 1 = n - 1
      · have e1 : ∀ st : State, sessOf st k = sessOf st n := fun st => by unfold sessOf; rw [hk]
        rw [e1, e1]
        by_cases hb : n - 1 < 8
        · unfold sessOf setSess; rw [vget_vset _ _ _ _ hb]; exact h
        · have : sessOf (setSess s n x) n = sessOf s n := by
            unfold sessOf setSess vget vset; simp [hb]
          rw [this]
      · have : sessOf (setSess s n x) k = sessOf s k := by
          unfold sessOf setSess; exact vget_vset_ne _ _ _ _ _ hk
        rw [this]
    bytes := fun _ _ _ => rfl }

theorem upTo_pair (s : State) (p : List (Nat × PairInput)) : UpToEvents s { s with pair := { s.pair with inputs := p } } :=
  { UpToEvents.refl s with rest := rfl, bytes := fun _ _ _ => rfl }

theorem upTo_lanes (s : State) (l : Lanes) (h : l.still = s.lanes.still) : UpToEvents s { s with lanes := l } :=
  { UpToEvents.refl s with rest := rfl, lanes := h, bytes := fun _ _ _ => rfl }

/-! ### Lanes -/

theorem still_linkPut (l : Lanes) (k now sseq flags : Nat) (p : List Byte) : (linkPut l k now sseq flags p).still = l.still := by
  have : (vset l.lanes k { laneOf l k with txLseq := ((laneOf l k).txLseq + 1) % 4096, retry := (laneOf l k).retry ++ [⟨(laneOf l k).txLseq, linkPacketBytes (laneOf l k).txLseq sseq flags p, 0, now⟩] }).map Lane.still = l.lanes.map Lane.still := by
    apply Vector.ext
    intro i hi
    unfold vset
    rw [Vector.getElem_map, Vector.getElem_map, Vector.getElem_setIfInBounds hi]
    split
    · rename_i hk; subst hk; simp [laneOf, vget, Lane.still, hi]
    · rfl
  unfold linkPut Lanes.still
  simp only [this]

theorem still_linkPump (n now : Nat) : ∀ l : Lanes, (linkPump n now l).still = l.still := by
  induction n with
  | zero => intro l; rfl
  | succ n ih =>
    intro l
    unfold linkPump
    split
    · rfl
    · split
      · split
        · rfl
        · rw [ih]; exact still_linkPut l _ _ _ _ _
      · split
        · rfl
        · split
          · rfl
          · simp only []
            split <;> (rw [ih]; exact still_linkPut l _ _ _ _ _)

theorem upTo_linkSend (s : State) (ctl : Bool) (p : List Byte) : UpToEvents s (linkSend s ctl p) := by
  unfold linkSend
  split
  · exact UpToEvents.refl s
  · exact upTo_lanes s _ (by rw [still_linkPump]; rfl)

theorem upTo_canDrain (s : State) (c : Nat) : UpToEvents s (canDrain s c) := by
  unfold canDrain
  split
  · exact (upTo_setTrans _ _ _).trans (upTo_setCan _ _ _)
  · exact UpToEvents.refl s

theorem upTo_storeByte (s : State) (q a : Nat) (v : Byte) (hq : q = 1 ∨ q = 4 ∨ q = 5)
    (h : 0 < qEntries s q → qEntries s q ≤ 2048 → queueBase + q * 65536 ≤ a ∧ a < queueBase + (q + 1) * 65536) : UpToEvents s (storeByte s a v) :=
  { UpToEvents.refl s with
    rest := rfl
    bytes := fun hm x hx => loadByte_storeByte_ne s a x v (by have := h (hm q hq).1 (hm q hq).2; have := hx q hq; omega) }

theorem upTo_storeBytes (q : Nat) (hq : q = 1 ∨ q = 4 ∨ q = 5) (b : List Byte) : ∀ (s : State) (a : Nat),
    (0 < qEntries s q → qEntries s q ≤ 2048 → queueBase + q * 65536 ≤ a ∧ a + b.length ≤ queueBase + (q + 1) * 65536) → UpToEvents s (storeBytes s a b) := by
  induction b with
  | nil => intro s a _; exact UpToEvents.refl s
  | cons v t ih =>
    intro s a h
    rw [storeBytes]
    have h1 := upTo_storeByte s q a v hq (fun h0 h1 => by have := h h0 h1; rw [List.length_cons] at this; omega)
    refine h1.trans (ih _ _ ?_)
    intro h0 h2
    rw [h1.entries q (by omega)] at h0 h2
    have := h h0 h2
    rw [List.length_cons] at this
    omega

theorem slice_length (b : List Byte) (o n : Nat) : (slice b o n).length = n := by
  unfold slice; simp <;> omega

theorem upTo_qPut (s : State) (q : Nat) (hq : q = 1 ∨ q = 4 ∨ q = 5) (b : List Byte) : UpToEvents s (qPut s q b) := by
  unfold qPut
  refine UpToEvents.trans (upTo_storeBytes q hq _ _ _ ?_) (upTo_setQ _ _ _ hq)
  intro h0 h1
  rw [slice_length]
  unfold qAddr
  have := Nat.mod_lt (qCtl s q).tail.toNat h0
  omega

theorem upTo_qTake (s : State) (q : Nat) (hq : q = 1 ∨ q = 4 ∨ q = 5) : UpToEvents s (qTake s q).2 := by
  have h1 : ∀ st : State, UpToEvents st (qLease st q 0) := fun st => by
    unfold qLease
    simp only []
    split
    · exact upTo_setQ _ _ _ hq
    · split
      · exact UpToEvents.refl st
      · exact upTo_setQ _ _ _ hq
  have h2 : ∀ (st : State) (k : BitVec 16), UpToEvents st (qAck st q k) := fun st k => by
    unfold qAck
    simp only []
    split
    · exact upTo_setQ _ _ _ hq
    · exact UpToEvents.refl st
  unfold qTake
  split
  · exact UpToEvents.refl s
  · exact (h1 s).trans (h2 _ _)

theorem upTo_placeFrame (s : State) (t : Nat) (f : List Byte) : UpToEvents s (placeFrame s t f) := by
  have hq : txQueue t = 1 ∨ txQueue t = 4 ∨ txQueue t = 5 := by unfold txQueue; split <;> simp
  unfold placeFrame
  simp only []
  generalize qEntry s (txQueue t) 0xA01 (bytesLE 1 t ++ bytesLE 1 (txUsed s t) ++ bytesLE 2 f.length) = e
  have h := (upTo_qPut s _ hq e).trans (upTo_qTake _ _ hq)
  refine h.trans ?_
  split
  · exact upTo_linkSend _ _ _
  · split
    · exact (upTo_setTrans _ _ _).trans (upTo_canDrain _ _)
    · exact upTo_setTrans _ _ _

theorem upTo_sendFrame (s : State) (t : Nat) (f : List Byte) : UpToEvents s (sendFrame s t f) := by
  unfold sendFrame
  simp only []
  split
  · exact upTo_placeFrame _ _ _
  · exact upTo_setTrans _ _ _

theorem upTo_notifySession (e : Nat) (d : BitVec 64) (s : State) (n : Nat) : UpToEvents s (notifySession e d s n) := by
  unfold notifySession
  simp only []
  split
  · split
    · exact (upTo_setSess s n _ (by rfl)).trans (upTo_sendFrame _ _ _)
    · exact upTo_setSess s n _ (by rfl)
  · exact UpToEvents.refl s

/-! ### Engines -/

theorem still_put (x : Engine) (rd : Fin 32) (v : Word) : (x.put rd v).still = x.still := by unfold Engine.put; split <;> rfl

theorem still_endWait (x : Engine) (rd : Fin 32) (v : Word) (b : Bool) : (x.endWait rd v b).still = x.still := by
  unfold Engine.endWait; exact (still_put _ rd v)

theorem still_takeEvent (x : Engine) (p : PendingEvent) : (x.takeEvent p).still = x.still := rfl

theorem upTo_shareEvent (s : State) (o : Nat) (p : PendingEvent) : UpToEvents s (shareEvent s o p) := by
  unfold shareEvent
  simp only []
  split
  · rename_i hs
    exact upTo_setEng s o _ (by rw [still_endWait, still_takeEvent]) (fun h => absurd hs (h _ _))
  · exact (upTo_setEng s o _ (by rfl) (fun _ => by rfl)).trans (upTo_pair _ _)

theorem upTo_wakeEvents (es : List Nat) (s : State) : UpToEvents s (wakeEvents es s) := by
  unfold wakeEvents
  apply UpToEvents.foldl
  intro st k
  dsimp only
  split
  · rename_i rd dl p hs _
    have h : UpToEvents st (setEng st k (((engOf st k).takeEvent p).endWait rd (BitVec.ofNat 32 p.event) false)) :=
      upTo_setEng st k _ (by rw [still_endWait, still_takeEvent]) (fun h => absurd hs (h _ _))
    split
    · exact h.trans (upTo_shareEvent _ _ _)
    · exact h
  · exact UpToEvents.refl st

theorem upTo_pendEngines (s : State) (e : Nat) (d : BitVec 64) : UpToEvents s (pendEngines s e d) := by
  unfold pendEngines
  refine UpToEvents.trans ?_ (upTo_wakeEvents _ _)
  have : ∀ (es : List Nat) (st : State), UpToEvents st { st with engines := es.foldl (fun v k =>
      vset v k (pendEvent (vget v (State.engineReset k) k) ⟨e, d, BitVec.ofNat 32 (timeUs s)⟩)) st.engines } := by
    intro es
    induction es with
    | nil => intro st; exact UpToEvents.refl st
    | cons k t ih => intro st; exact (upTo_setEng st k _ (by rfl) (fun _ => by rfl)).trans (ih _)
  exact this _ s

/-! ### The log -/

theorem upTo_logEvent (s : State) (e : Nat) (d : BitVec 64) : UpToEvents s (logEvent s e d) := by
  unfold logEvent
  split
  · exact upTo_setQ _ _ _ (by simp)
  · exact upTo_qPut _ _ (by simp) _

theorem upTo_ledgerAppend (s : State) (r : List Byte) (x : Nat) (h : field r 0 1 = 16) : UpToEvents s (ledgerAppend s r x) := by
  unfold ledgerAppend
  simp only []
  split
  · rename_i hh; rw [h] at hh; simp at hh
  · exact upTo_ledger s _

theorem upTo_eventRecord (s : State) (e : Nat) (d : BitVec 64) : UpToEvents s (eventRecord s e d) := by
  have h : ∀ r : List Byte, field (bytesLE 1 0x10 ++ r) 0 1 = 16 := by
    intro r; simp [field, slice, bytesLE, natLE]
  unfold eventRecord
  dsimp only
  split
  · split
    · exact UpToEvents.refl s
    · split
      · exact (upTo_ledgerAppend _ _ _ (by simp only [List.append_assoc]; exact h _)).trans (upTo_ledger _ _)
      · split
        · exact upTo_events s _ id
        · exact UpToEvents.refl s
  · split
    · exact UpToEvents.refl s
    · split
      · exact (upTo_ledgerAppend _ _ _ (by simp only [List.append_assoc]; exact h _)).trans (upTo_ledger _ _)
      · split
        · exact upTo_events s _ id
        · exact UpToEvents.refl s

theorem upTo_deliver (e : Nat) (d : BitVec 64) (log : Bool) (s : State) : UpToEvents s (deliver e d log s) := by
  unfold deliver
  simp only []
  refine UpToEvents.trans ?_ (UpToEvents.foldl _ (fun st a => upTo_notifySession _ _ _ _) _ _)
  refine UpToEvents.trans ?_ (upTo_eventRecord _ _ _)
  have h := (upTo_events s { s.events with status := bvPut s.events.status e true } id).trans (upTo_pendEngines _ e d)
  split
  · exact h.trans (upTo_logEvent _ _ _)
  · exact h

theorem eventKey_count (e : Nat) (h : e < 128) : eventKey (Reg.evtCount e) := by left; unfold Reg.evtCount; omega

theorem upTo_raiseWith (log : Bool) (e : Nat) (d : BitVec 64) (s : State) (he : e < 128) : UpToEvents s (raiseWith log e d s) := by
  have h0 := upTo_bump s (Reg.evtCount e) (eventKey_count e he)
  unfold raiseWith
  simp only []
  split
  · exact (h0.trans (upTo_events _ _ (by exact id))).trans (upTo_bump _ _ (Or.inr rfl))
  · split
    · exact (((h0.trans (upTo_events _ _ (by exact id))).trans (upTo_events _ _ (by exact id))).trans (upTo_bump _ _ (Or.inr rfl))).trans
        ((upTo_bump _ _ (eventKey_count 124 (by decide))).trans (upTo_deliver _ _ _ _))
    · exact (h0.trans (upTo_events _ _ (by exact id))).trans (upTo_deliver _ _ _ _)

theorem upTo_logOverflow (s : State) : UpToEvents s (logOverflow s) := by
  unfold logOverflow
  simp only []
  split
  · exact UpToEvents.refl s
  · exact (upTo_setQ _ _ _ (by simp)).trans (upTo_raiseWith _ _ _ _ (by decide))

/-- What a raise handled at once changes. -/
theorem upTo_raiseNow (e : Nat) (d : BitVec 64) (s : State) (he : e < 128) : UpToEvents s (raiseNow e d s) := by
  unfold raiseNow
  simp only []
  split
  · exact upTo_raiseWith _ _ _ _ he
  · exact (upTo_raiseWith _ _ _ _ he).trans (upTo_logOverflow _)

/-- What a raise changes. -/
theorem upTo_raise (e : Nat) (b : List Byte) (s : State) (he : e < 128) : UpToEvents s (raise e b s) := by
  unfold raise raiseData
  split
  · rename_i l hl
    exact upTo_events s _ (fun hm => absurd (hl.symm.trans hm) (by simp))
  · exact upTo_raiseNow e _ s he

/-- A raise handled at once, of whatever source, leaves no raise held back where none was. -/
theorem raiseNow_settled (e : Nat) (d : BitVec 64) (s : State) (h : s.events.gathering = none) : (raiseNow e d s).events.gathering = none := by
  have hw : ∀ log, (raiseWith log e d s).events.gathering = none := by
    intro log
    unfold raiseWith
    simp only []
    split
    · exact h
    · split
      · exact (upTo_deliver _ _ _ _).settled h
      · exact (upTo_deliver _ _ _ _).settled h
  unfold raiseNow
  simp only []
  split
  · exact hw _
  · exact (upTo_logOverflow _).settled (hw _)

/-- Commands that gather their raises handle them at their end: none is held back. -/
theorem inOrder_settled (f : State → State) (s : State) : (inOrder f s).events.gathering = none := by
  have hf : ∀ (l : List (Nat × BitVec 64)) (t : State), t.events.gathering = none → (l.foldl (fun st p => raiseNow p.1 p.2 st) t).events.gathering = none := by
    intro l
    induction l with
    | nil => intro t h; exact h
    | cons p l ih => intro t h; exact ih _ (raiseNow_settled _ _ _ h)
  unfold inOrder
  simp only []
  exact hf _ _ rfl

/-! ### Raises counted -/

theorem After.refl (s : State) : After s [] s := ⟨UpToEvents.refl s, fun _ _ _ _ _ => by simp⟩

/-- One more raise. -/
theorem After.raise {m t : State} {ns : List Nat} (h : After m ns t) (e : Nat) (b : List Byte) (he : e < 128) (h1 : e ≠ 100) (h2 : e ≠ 124) :
    After m (e :: ns) (raise e b t) := by
  refine ⟨h.1.trans (upTo_raise e b t he), ?_⟩
  intro hg n hn hn1 hn2
  have := h.2 hg n hn hn1 hn2
  by_cases hne : n = e
  · subst hne
    rw [raise_count _ _ _ he h1 h2 (h.1.settled hg), List.count_cons_self]
    omega
  · rw [raise_count_ne _ _ _ _ hn hne hn1 hn2, List.count_cons_of_ne (fun hh => hne hh.symm), this]

/-- A raise alone. -/
theorem after_raise (m : State) (e : Nat) (b : List Byte) (he : e < 128) (h1 : e ≠ 100) (h2 : e ≠ 124) : After m [e] (raise e b m) :=
  (After.refl m).raise e b he h1 h2

/-! ### Writes after raises -/

/-- A dictionary value written on both sides; the numbers of entries of Q1, Q4 and Q5 are not written so. -/
theorem After.setReg {m t : State} {ns : List Nat} (h : After m ns t) (k v : Nat) (hk : ¬ eventKey k) (h5 : ∀ q, q = 1 ∨ q = 4 ∨ q = 5 → k ≠ Reg.queueEntries q) :
    After (m.setReg k v) ns (t.setReg k v) := by
  have hr : RingsSized (m.setReg k v) → RingsSized m := fun hm q hq => by
    have := hm q hq
    rwa [show qEntries (m.setReg k v) q = qEntries m q from reg_setReg_ne _ _ _ _ (fun x => h5 q hq x.symm)] at this
  refine ⟨{ h.1 with
    rest := h.1.rest
    regs := fun x hx => ?_
    bytes := fun hm a ha => h.1.bytes (hr hm) a ha }, ?_⟩
  · by_cases hxk : x = k
    · subst hxk; rw [reg_setReg, reg_setReg]
    · rw [reg_setReg_ne _ _ _ _ hxk, reg_setReg_ne _ _ _ _ hxk]; exact h.1.regs x hx
  · intro hg n hn h1 h2
    have : Reg.evtCount n ≠ k := fun hh => hk (hh ▸ eventKey_count n hn)
    rw [reg_setReg_ne _ _ _ _ this, reg_setReg_ne _ _ _ _ this]
    exact h.2 hg n hn h1 h2

/-- A counter counted on both sides. -/
theorem After.bump {m t : State} {ns : List Nat} (h : After m ns t) (k : Nat) (hk : ¬ eventKey k) (h5 : ∀ q, q = 1 ∨ q = 4 ∨ q = 5 → k ≠ Reg.queueEntries q) :
    After (m.bump k) ns (t.bump k) := by
  unfold State.bump
  rw [h.1.regs k hk]
  exact h.setReg k _ hk h5

/-- An engine written on both sides. -/
theorem After.setEng {m t : State} {ns : List Nat} (h : After m ns t) (e : Nat) (x : Engine) (h1 : x.still = (engOf t e).still)
    (h2 : (∀ rd limit, (engOf t e).stall ≠ .event rd limit) → x.calm = (engOf t e).calm) : After m ns (setEng t e x) :=
  ⟨h.1.trans (upTo_setEng t e x h1 h2), h.2⟩

theorem After.now {m t : State} {ns : List Nat} (h : After m ns t) (v : Nat) : After { m with now := v } ns { t with now := v } :=
  ⟨{ h.1 with rest := congrArg (fun r : Rest => { r with now := v }) h.1.rest, bytes := h.1.bytes }, h.2⟩

theorem After.free {m t : State} {ns : List Nat} (h : After m ns t) (v : Nat) : After { m with free := v } ns { t with free := v } :=
  ⟨{ h.1 with rest := congrArg (fun r : Rest => { r with free := v }) h.1.rest, bytes := h.1.bytes }, h.2⟩

theorem After.pending {m t : State} {ns : List Nat} (h : After m ns t) (v : List Instr) : After { m with pending := v } ns { t with pending := v } :=
  ⟨{ h.1 with rest := congrArg (fun r : Rest => { r with pending := v }) h.1.rest, bytes := h.1.bytes }, h.2⟩

theorem After.takeover {m t : State} {ns : List Nat} (h : After m ns t) (v : Option (Nat × Nat)) : After { m with takeover := v } ns { t with takeover := v } :=
  ⟨{ h.1 with rest := congrArg (fun r : Rest => { r with takeover := v }) h.1.rest, bytes := h.1.bytes }, h.2⟩

theorem After.modules {m t : State} {ns : List Nat} (h : After m ns t) (v : List Module) : After { m with modules := v } ns { t with modules := v } :=
  ⟨{ h.1 with rest := congrArg (fun r : Rest => { r with modules := v }) h.1.rest, bytes := h.1.bytes }, h.2⟩

theorem After.tolls {m t : State} {ns : List Nat} (h : After m ns t) (v : Tolls) : After { m with tolls := v } ns { t with tolls := v } :=
  ⟨{ h.1 with rest := congrArg (fun r : Rest => { r with tolls := v }) h.1.rest, bytes := h.1.bytes }, h.2⟩

theorem After.scan {m t : State} {ns : List Nat} (h : After m ns t) (v : Scan) : After { m with scan := v } ns { t with scan := v } :=
  ⟨{ h.1 with rest := congrArg (fun r : Rest => { r with scan := v }) h.1.rest, bytes := h.1.bytes }, h.2⟩

theorem After.commits {m t : State} {ns : List Nat} (h : After m ns t) (v : Commits) : After { m with commits := v } ns { t with commits := v } :=
  ⟨{ h.1 with rest := congrArg (fun r : Rest => { r with commits := v }) h.1.rest, bytes := h.1.bytes }, h.2⟩

theorem After.pipe {m t : State} {ns : List Nat} (h : After m ns t) (v : Pipeline) : After { m with pipe := v } ns { t with pipe := v } :=
  ⟨{ h.1 with rest := congrArg (fun r : Rest => { r with pipe := v }) h.1.rest, bytes := h.1.bytes }, h.2⟩

theorem After.refs {m t : State} {ns : List Nat} (h : After m ns t) (v : Refs) : After { m with refs := v } ns { t with refs := v } :=
  ⟨{ h.1 with rest := congrArg (fun r : Rest => { r with refs := v }) h.1.rest, bytes := h.1.bytes }, h.2⟩

theorem After.latches {m t : State} {ns : List Nat} (h : After m ns t) (v : Latches) : After { m with latches := v } ns { t with latches := v } :=
  ⟨{ h.1 with rest := congrArg (fun r : Rest => { r with latches := v }) h.1.rest, bytes := h.1.bytes }, h.2⟩

theorem After.lamp {m t : State} {ns : List Nat} (h : After m ns t) (v : Lamp) : After { m with lamp := v } ns { t with lamp := v } :=
  ⟨{ h.1 with rest := congrArg (fun r : Rest => { r with lamp := v }) h.1.rest, bytes := h.1.bytes }, h.2⟩

theorem After.therm {m t : State} {ns : List Nat} (h : After m ns t) (v : Therm) : After { m with therm := v } ns { t with therm := v } :=
  ⟨{ h.1 with rest := congrArg (fun r : Rest => { r with therm := v }) h.1.rest, bytes := h.1.bytes }, h.2⟩

theorem After.cal {m t : State} {ns : List Nat} (h : After m ns t) (v : Cal) : After { m with cal := v } ns { t with cal := v } :=
  ⟨{ h.1 with rest := congrArg (fun r : Rest => { r with cal := v }) h.1.rest, bytes := h.1.bytes }, h.2⟩

theorem After.adc {m t : State} {ns : List Nat} (h : After m ns t) (v : Adc) : After { m with adc := v } ns { t with adc := v } :=
  ⟨{ h.1 with rest := congrArg (fun r : Rest => { r with adc := v }) h.1.rest, bytes := h.1.bytes }, h.2⟩

theorem After.power {m t : State} {ns : List Nat} (h : After m ns t) (v : Power) : After { m with power := v } ns { t with power := v } :=
  ⟨{ h.1 with rest := congrArg (fun r : Rest => { r with power := v }) h.1.rest, bytes := h.1.bytes }, h.2⟩

theorem After.bist {m t : State} {ns : List Nat} (h : After m ns t) (v : Bist) : After { m with bist := v } ns { t with bist := v } :=
  ⟨{ h.1 with rest := congrArg (fun r : Rest => { r with bist := v }) h.1.rest, bytes := h.1.bytes }, h.2⟩

theorem After.host {m t : State} {ns : List Nat} (h : After m ns t) (v : HostSup) : After { m with host := v } ns { t with host := v } :=
  ⟨{ h.1 with rest := congrArg (fun r : Rest => { r with host := v }) h.1.rest, bytes := h.1.bytes }, h.2⟩

theorem After.lantern {m t : State} {ns : List Nat} (h : After m ns t) (v : Lantern) : After { m with lantern := v } ns { t with lantern := v } :=
  ⟨{ h.1 with rest := congrArg (fun r : Rest => { r with lantern := v }) h.1.rest, bytes := h.1.bytes }, h.2⟩

theorem After.dump {m t : State} {ns : List Nat} (h : After m ns t) (v : Dump) : After { m with dump := v } ns { t with dump := v } :=
  ⟨{ h.1 with rest := congrArg (fun r : Rest => { r with dump := v }) h.1.rest, bytes := h.1.bytes }, h.2⟩

theorem After.jtag {m t : State} {ns : List Nat} (h : After m ns t) (v : Jtag) : After { m with jtag := v } ns { t with jtag := v } :=
  ⟨{ h.1 with rest := congrArg (fun r : Rest => { r with jtag := v }) h.1.rest, bytes := h.1.bytes }, h.2⟩

end Sys2Proof.Machine
end

