-- ==== Sys2Proof/Certificates/Slice0/Obligations.lean ====
section
/-!
DEFINITION. The statements about the machine, for the provers.
-/

section

open Sys2Proof Sys2Proof.Machine

/-- A step executes the command at the front of the queue (01_architecture.md, 11_wright_engines.md). With a command at the front of the queue, a step is that command executed on the state with the rest of the queue. -/
def Obligations.StepTakesFront : Prop :=
  ∀ (c : Instr) (rest : List Instr) (s : State), s.pending = c :: rest → step s = exec c { s with pending := rest }

/-- With no command waiting the engines run their programs (11_wright_engines.md, 01_architecture.md). The model's choice (logs 1 and 181): with no command waiting nothing happens in OFF, and otherwise the time code counts on by 1 ns and each engine that fetches, W0 first, executes the instruction at its program counter. Where no engine fetches, the time code alone moves. Where a run of engines that do not fetch comes before an engine that does, and none after it fetches, the step is that engine's instruction. An engine fetches when it runs, waits for nothing, is not held for a self-check or takeover of the pair, and was started from an image. The word fetched is the four bytes of the instruction RAM from the program counter, least significant byte first. -/
def Obligations.IdleRunsEngines : Prop :=
  (∀ s : State, s.pending = [] → s.power.device = 0 → step s = .next s) ∧
  (∀ s : State, s.pending = [] → s.power.device ≠ 0 → (∀ k : Fin 9, fetches s k = false) → step s = .next { s with now := s.now + 1 }) ∧
  (∀ (e : Fin 9) (s t : State), s.pending = [] → s.power.device ≠ 0 → fetches s e = true → (∀ k : Fin 9, k < e → fetches s k = false) →
    exec (decodeEngine e (fetchWord s e)) { s with now := s.now + 1 } = .next t → (∀ k : Fin 9, e < k → fetches t k = false) → step s = .next t) ∧
  (∀ (e : Fin 9) (s : State), fetches s e = true ↔
    (engOf s e).run = .running ∧ (engOf s e).stall = .none ∧ ¬ (s.pair.checking = true ∧ inPair s e = true) ∧ (engOf s e).image < 3) ∧
  (∀ (e : Fin 9) (s : State) (j : Fin 4), (fetchWord s e).extractLsb' (8 * j) 8 = memGet (engOf s e).iram ((engOf s e).pc.toNat + j))

/-- Addition, subtraction and comparison (R351). Where an engine executes, ADD, SUB, ADDI, CMP and CMPI complete: the sum or difference goes to rd (no register for the comparisons), Z and N describe it, C is the carry out of bit 31 or the absence of a borrow, V the signed overflow, E stays; nothing else changes. A write of g0 changes no register. -/
def Obligations.CarryAndBorrow : Prop :=
  ∀ (e : Fin 9) (rd ra rb : Fin 32) (imm : Half) (s : State), Executes s e →
    let x := engOf s e
    let a := x.get ra
    let b := x.get rb
    let i : Word := imm.signExtend 32
    let sum (p q : Word) : Flags := ⟨decide (p + q = 0), (p + q).msb, decide (2 ^ 32 ≤ p.toNat + q.toNat), p.msb == q.msb && (p + q).msb != p.msb, x.flags.e⟩
    let dif (p q : Word) : Flags := ⟨decide (p = q), (p - q).msb, decide (q.toNat ≤ p.toNat), p.msb != q.msb && (p - q).msb != p.msb, x.flags.e⟩
    (∃ t, exec (.add e rd ra rb) s = .next t ∧ Completed s t e rd (a + b) (sum a b)) ∧
    (∃ t, exec (.sub e rd ra rb) s = .next t ∧ Completed s t e rd (a - b) (dif a b)) ∧
    (∃ t, exec (.addi e rd ra imm) s = .next t ∧ Completed s t e rd (a + i) (sum a i)) ∧
    (∃ t, exec (.cmp e ra rb) s = .next t ∧ Completed s t e 0 0 (dif a b)) ∧
    (∃ t, exec (.cmpi e ra imm) s = .next t ∧ Completed s t e 0 0 (dif a i))

/-- Logic and shifts (R351). Where an engine executes, AND, OR, XOR, the shifts by rb [4:0] and their immediate forms complete with their result bit for bit; Z and N describe it, C, V and E stay; nothing else changes. SHI with a shift code of 0 to 2 shifts by imm [4:0]; the code 3, which the specification does not list, is left to the statement TrapSaves. -/
def Obligations.LogicKeepsCarry : Prop :=
  ∀ (e : Fin 9) (rd ra rb : Fin 32) (imm : Half) (s : State), Executes s e →
    let x := engOf s e
    let a := x.get ra
    let b := x.get rb
    let i : Word := imm.setWidth 32
    let zn (r : Word) : Flags := { x.flags with z := decide (r = 0), n := r.msb }
    let n := (b &&& 31#32).toNat
    let m := (i &&& 31#32).toNat
    let done (c : Instr) (r : Word) : Prop := ∃ t, exec c s = .next t ∧ Completed s t e rd r (zn r)
    done (.and e rd ra rb) (a &&& b) ∧ done (.or e rd ra rb) (a ||| b) ∧ done (.xor e rd ra rb) (a ^^^ b) ∧
    done (.sll e rd ra rb) (a <<< n) ∧ done (.srl e rd ra rb) (a >>> n) ∧ done (.sra e rd ra rb) (a.sshiftRight n) ∧
    done (.andi e rd ra imm) (a &&& i) ∧ done (.ori e rd ra imm) (a ||| i) ∧ done (.xori e rd ra imm) (a ^^^ i) ∧
    (imm.toNat / 32 % 4 = 0 → done (.shi e rd ra imm) (a <<< m)) ∧
    (imm.toNat / 32 % 4 = 1 → done (.shi e rd ra imm) (a >>> m)) ∧
    (imm.toNat / 32 % 4 = 2 → done (.shi e rd ra imm) (a.sshiftRight m))

/-- Multiplication, division, CLZ and LUI (R351, R353). Where an engine executes, MUL gives the low 32 bits of the product, MULH and MULHU its high 32 bits signed and unsigned, DIV and REM truncate toward zero on signed values, DIVU and REMU on unsigned ones, CLZ counts the leading zeros and LUI places imm in the upper half; no flag changes and nothing else does. Division is stated here for a divisor other than 0, and signed division away from 0x80000000 by -1 (see DivisionCorners). -/
def Obligations.MultiplyDivide : Prop :=
  ∀ (e : Fin 9) (rd ra rb : Fin 32) (imm : Half) (s : State), Executes s e →
    let x := engOf s e
    let a := x.get ra
    let b := x.get rb
    let done (c : Instr) (P : Word → Prop) : Prop := ∃ t r, exec c s = .next t ∧ Completed s t e rd r x.flags ∧ P r
    done (.mul e rd ra rb) (fun r => r.toNat = a.toNat * b.toNat % 2 ^ 32) ∧
    done (.mulhu e rd ra rb) (fun r => r.toNat = a.toNat * b.toNat / 2 ^ 32) ∧
    done (.mulh e rd ra rb) (fun r => r.toInt = a.toInt * b.toInt / 2 ^ 32) ∧
    (b ≠ 0 → done (.divu e rd ra rb) (fun r => r.toNat = a.toNat / b.toNat) ∧ done (.remu e rd ra rb) (fun r => r.toNat = a.toNat % b.toNat) ∧
      done (.rem e rd ra rb) (fun r => r.toInt = a.toInt.tmod b.toInt) ∧
      (¬ (a = 0x80000000#32 ∧ b = 0xFFFFFFFF#32) → done (.div e rd ra rb) (fun r => r.toInt = a.toInt.tdiv b.toInt))) ∧
    done (.clz e rd ra) (fun r => r.toNat ≤ 32 ∧ a.toNat < 2 ^ (32 - r.toNat) ∧ (a ≠ 0 → 2 ^ (31 - r.toNat) ≤ a.toNat ∧ r.toNat < 32)) ∧
    (∃ t, exec (.lui e rd imm) s = .next t ∧ Completed s t e rd (BitVec.ofNat 32 (imm.toNat * 65536)) x.flags)

/-- The corners of division (R354). Where an engine executes, DIV and DIVU by zero give 0xFFFFFFFF, REM and REMU by zero give the dividend, DIV of 0x80000000 by -1 gives 0x80000000, and each completes without a trap. -/
def Obligations.DivisionCorners : Prop :=
  ∀ (e : Fin 9) (rd ra rb : Fin 32) (s : State), Executes s e →
    let x := engOf s e
    let a := x.get ra
    let b := x.get rb
    let done (c : Instr) (r : Word) : Prop := ∃ t, exec c s = .next t ∧ Completed s t e rd r x.flags
    (b = 0 → done (.div e rd ra rb) 0xFFFFFFFF#32 ∧ done (.divu e rd ra rb) 0xFFFFFFFF#32 ∧
      done (.rem e rd ra rb) a ∧ done (.remu e rd ra rb) a) ∧
    (a = 0x80000000#32 ∧ b = 0xFFFFFFFF#32 → done (.div e rd ra rb) 0x80000000#32)

/-- Branches, jumps and the return from a trap (R350, R352, R353, R355). Where an engine executes, B goes to the offset in words from the next instruction when its condition holds and to the next instruction otherwise, BL does so always and leaves the next address in g31, JR goes to ra + imm and leaves the next address in rd and in g31, TRET goes to TPC and leaves the handler. No other register, no flag and nothing outside the engine changes. -/
def Obligations.BranchesAndJumps : Prop :=
  ∀ (e : Fin 9) (rd ra : Fin 32) (imm : Half) (c : Cond) (o : BitVec 22) (l : BitVec 26) (s : State), Executes s e →
    let x := engOf s e
    let f := x.flags
    let taken : Bool := match c with
      | .al => true | .eq => f.z | .ne => !f.z | .lt => f.n != f.v | .ge => f.n == f.v | .ltu => !f.c | .geu => f.c
      | .mi => f.n | .pl => !f.n | .es => f.e | .ec => !f.e
    exec (.b e c o) s = .next (setEng s e { x with pc := if taken then BitVec.ofInt 32 (x.pc.toInt + 4 + 4 * o.toInt) else x.pc + 4 }) ∧
    (∃ t, exec (.bl e l) s = .next t ∧ (engOf t e).pc = BitVec.ofInt 32 (x.pc.toInt + 4 + 4 * l.toInt) ∧ (engOf t e).get 31 = x.pc + 4 ∧
      (∀ r, r ≠ 31 → (engOf t e).get r = x.get r) ∧ { engOf t e with g := x.g, pc := x.pc } = x ∧ t = setEng s e (engOf t e)) ∧
    (∃ t, exec (.jr e rd ra imm) s = .next t ∧ (engOf t e).pc = x.get ra + imm.signExtend 32 ∧ (engOf t e).get rd = (if rd = 0 then 0 else x.pc + 4) ∧
      (engOf t e).get 31 = x.pc + 4 ∧ (∀ r, r ≠ rd → r ≠ 31 → (engOf t e).get r = x.get r) ∧ { engOf t e with g := x.g, pc := x.pc } = x ∧ t = setEng s e (engOf t e)) ∧
    exec (.tret e) s = .next (setEng s e { x with pc := x.tpc, inTrap := false })

/-- Taking a trap (R353, R355, R356). An illegal instruction that the instruction RAM gives back (and, by log 63, SHI with the unlisted shift code 3) outside the trap handler, with TVEC set, saves its own address in TPC and cause 1 in TCAUSE and jumps to TVEC; a load or store at a misaligned address does so with cause 2 and the address in TVAL, and one at an address that the memory map does not hold, or a store into the instruction RAM, with cause 3. No register, no flag, no memory changes. TVAL of an illegal instruction is free (log 61). -/
def Obligations.TrapSaves : Prop :=
  ∀ (e : Fin 9) (rd ra : Fin 32) (imm : Half) (m : MemObs) (s : State), Executes s e → (engOf s e).inTrap = false → (engOf s e).tvec ≠ 0 →
    let x := engOf s e
    let a := x.get ra + imm.signExtend 32
    let trapped (cause v : Word) : Engine := { x with tpc := x.pc, tcause := cause, tval := v, inTrap := true, pc := x.tvec }
    (∀ m', m' ≠ MemObs.fatal → ∃ t v, exec (.illegalInstruction e m') s = .next t ∧ t = { setEng s e (trapped 1 v) with free := s.free + 1 }) ∧
    (imm.toNat / 32 % 4 = 3 → ∃ t v, exec (.shi e rd ra imm) s = .next t ∧ t = { setEng s e (trapped 1 v) with free := s.free + 1 }) ∧
    (a.toNat % 2 = 1 → ∀ c ∈ ([.lh e rd ra imm m, .lhu e rd ra imm m, .sh e rd ra imm m] : List Instr), exec c s = .next (setEng s e (trapped 2 a))) ∧
    (a.toNat % 4 ≠ 0 → ∀ c ∈ ([.lw e rd ra imm m, .sw e rd ra imm m] : List Instr), exec c s = .next (setEng s e (trapped 2 a))) ∧
    (a.toNat % 4 = 0 → (0x10000 ≤ a.toNat ∧ a.toNat < 0x10000000 ∨ 0x10010000 ≤ a.toNat ∧ a.toNat < 0x20000000 ∨
        0x20000100 ≤ a.toNat ∧ a.toNat < 0x40000000 ∨ 0x44000000 ≤ a.toNat) →
      ∀ c ∈ ([.lb e rd ra imm m, .lbu e rd ra imm m, .lh e rd ra imm m, .lhu e rd ra imm m, .lw e rd ra imm m,
        .sb e rd ra imm m, .sh e rd ra imm m, .sw e rd ra imm m] : List Instr), exec c s = .next (setEng s e (trapped 3 a))) ∧
    (a.toNat % 4 = 0 ∧ a.toNat < 0x10000 →
      ∀ c ∈ ([.sb e rd ra imm m, .sh e rd ra imm m, .sw e rd ra imm m] : List Instr), exec c s = .next (setEng s e (trapped 3 a)))

/-- A trap in the handler is an engine failure (R355, R375, R380). An illegal instruction that the instruction RAM gives back, in the trap handler or with TVEC 0, on an engine for which no spare stands by, halts the engine as failed: its bit of eng.failed_mask is set, E120 is raised and a dump is due; the module of an extension engine stops with E104. -/
def Obligations.TrapInHandlerFails : Prop :=
  ∀ (e : Fin 9) (m : MemObs) (s : State), m ≠ .fatal → ExecutesAlone s e → (engOf s e).inTrap = true ∨ (engOf s e).tvec = 0 → (engOf s 8).run ≠ .standby →
    ∃ t, exec (.illegalInstruction e m) s = .next t ∧ (engOf t e).run = .failed ∧ bitAt (t.reg Reg.engFailedMask) e = true ∧ Raised 120 s t ∧
      (4 ≤ (engOf s e).runsAs ∧ (engOf s e).runsAs < 8 → Raised 104 s t ∧ t.modules = s.modules.filter (fun m => m.engine != (engOf s e).runsAs)) ∧
      t.dump.due.isSome = true

/-- Loads from the instruction and data RAM (R353, R356, R351, R357). Where an engine executes and the load meets no uncorrectable error, a load from the instruction RAM (0x0000 0000) or the data RAM (0x1000 0000) at an aligned address completes: LW, LH and LB give the little-endian word, half and byte, the latter two sign-extended, LHU and LBU zero-extended; no flag, no other register and nothing else changes. A load from the data RAM that meets an uncorrectable error, on an engine outside the pair and with no spare, raises E117 and the engine fails. -/
def Obligations.LocalLoads : Prop :=
  ∀ (e : Fin 9) (rd ra : Fin 32) (imm : Half) (m : MemObs) (s : State), Executes s e →
    let x := engOf s e
    let a := (x.get ra + imm.signExtend 32).toNat
    let b (k : Nat) : Byte := memGet (if a < 0x10000 then x.iram else x.dram) (a % 0x10000 + k)
    let done (c : Instr) (v : Word) : Prop := ∃ t, exec c s = .next t ∧ Completed s t e rd v x.flags
    (m ≠ .fatal → (a < 0x10000 ∨ 0x10000000 ≤ a ∧ a < 0x10010000) →
      done (.lb e rd ra imm m) ((b 0).signExtend 32) ∧ done (.lbu e rd ra imm m) ((b 0).setWidth 32) ∧
      (a % 2 = 0 → done (.lh e rd ra imm m) ((b 1 ++ b 0).signExtend 32) ∧ done (.lhu e rd ra imm m) ((b 1 ++ b 0).setWidth 32)) ∧
      (a % 4 = 0 → done (.lw e rd ra imm m) (b 3 ++ b 2 ++ b 1 ++ b 0))) ∧
    (inPair s e = false → (engOf s 8).run ≠ .standby → 0x10000000 ≤ a ∧ a < 0x10010000 → a % 4 = 0 →
      ∃ t, exec (.lw e rd ra imm .fatal) s = .next t ∧ (engOf t e).run = .failed ∧ Raised 117 s t ∧ Raised 120 s t)

/-- Stores into the data RAM (R353, R356, R350, R357). Where an engine executes and the data RAM gives back the word that SB and SH read, these and SW, which reads none, at an aligned address of the data RAM complete: the low 1, 2 or 4 bytes of rd stand there, little-endian; every other byte of the data RAM, every register and flag and everything outside the engine are as before. SB or SH of a word with an uncorrectable error, on an engine outside the pair and with no spare, raises E117 and the engine fails. -/
def Obligations.LocalStores : Prop :=
  ∀ (e : Fin 9) (rd ra : Fin 32) (imm : Half) (m : MemObs) (s : State), Executes s e →
    let x := engOf s e
    let a := (x.get ra + imm.signExtend 32).toNat
    let stored (c : Instr) (w : Nat) : Prop := ∃ t, exec c s = .next t ∧
      (∀ k, k < w → memGet (engOf t e).dram (a % 0x10000 + k) = (x.get rd).extractLsb' (8 * k) 8) ∧
      (∀ o, o < a % 0x10000 ∨ a % 0x10000 + w ≤ o → memGet (engOf t e).dram o = memGet x.dram o) ∧
      (engOf t e).pc = x.pc + 4 ∧ { engOf t e with dram := x.dram, pc := x.pc } = x ∧ t = setEng s e (engOf t e)
    0x10000000 ≤ a ∧ a < 0x10010000 →
      (m ≠ .fatal → stored (.sb e rd ra imm m) 1 ∧ (a % 2 = 0 → stored (.sh e rd ra imm m) 2)) ∧ (a % 4 = 0 → stored (.sw e rd ra imm m) 4) ∧
      (inPair s e = false → (engOf s 8).run ≠ .standby → ∀ c ∈ ([.sb e rd ra imm .fatal] ++ (if a % 2 = 0 then [.sh e rd ra imm .fatal] else []) : List Instr),
        ∃ t, exec c s = .next t ∧ (engOf t e).run = .failed ∧ Raised 117 s t ∧ Raised 120 s t)

/-- Loads, stores and atomics through a window (R353, R355, R356, R359, R360, R391). For an engine outside the pair with a C7 token, which each access costs, and a window that maps a channel: a load at an aligned address reads the bytes of the channel at the window's offset, little-endian, sign- or zero-extended, where none is poisoned; a load of a poisoned word traps with cause 4; a store at a place of its width into a BLOB or DIAG channel that the engine may store into places the low bytes of rd there; an atomic on an aligned word of such a BLOB channel reads the old word into rd and stores in its place the sum with rb (AMOADD), rb (AMOSWAP), rb where the old word equals rd (CAS), the or and the and with rb. Every other byte of the pixel store, the other registers, the flags, the queues and the dictionary are as before. A stale handle raises E68 and the access traps with cause 3; a store into a SURFACE traps with cause 3. -/
def Obligations.WindowAccesses : Prop :=
  ∀ (e : Fin 9) (rd ra rb : Fin 32) (imm : Half) (k : Fin 4) (s : State), ExecutesAlone s e → domainOn s 3 = true → HasToken s e →
    let x := engOf s e
    let a := (x.get ra + imm.signExtend 32).toNat
    let z := (x.get ra).toNat
    let window (p : Nat) : Prop := 0x40000000 + k * 0x1000000 ≤ p ∧ p < 0x41000000 + k * 0x1000000
    let offset (p : Nat) : Nat := x.winOffset[k].toNat + p % 0x1000000
    let trapped (t : State) (cause : Nat) (p : Nat) : Prop := (engOf t e).tcause = BitVec.ofNat 32 cause ∧ (engOf t e).tval = BitVec.ofNat 32 p ∧
      (engOf t e).tpc = x.pc ∧ (engOf t e).pc = x.tvec ∧ (engOf t e).inTrap = true ∧ (engOf t e).g = x.g ∧ t.store = s.store
    (∀ c, areaOf s x.winHandle[k].toNat = some (.chan c) →
      let byte (p j : Nat) : Byte := loadByte s (c.addr (offset p + j))
      let clean (p : Nat) : Prop := ∀ j, j < 4 → areaPoisoned s (.chan c) (offset p + j) = false
      let mine : Prop := x.runsAs < 4 ∨ c.type = 4 ∧ c.owner = some x.runsAs
      let loaded (i : Instr) (v : Word) : Prop := ∃ t, exec i s = .next t ∧ (engOf t e).get rd = (if rd = 0 then 0 else v) ∧
        (∀ r, r ≠ rd → (engOf t e).get r = x.get r) ∧ { engOf t e with g := x.g } = { x with pc := x.pc + 4, c7Used := x.c7Used + 1 } ∧
        tokensLeft t 7 + 1 = tokensLeft s 7 ∧ t.store = s.store ∧ t.regs = s.regs ∧ t.queues = s.queues
      let stored (i : Instr) (w : Nat) : Prop := offset a % w = 0 → offset a + w ≤ c.bytes → ∃ t, exec i s = .next t ∧
        (∀ j, j < w → loadByte t (c.addr (offset a) + j) = (x.get rd).extractLsb' (8 * j) 8) ∧
        (∀ q, q < c.addr (offset a) ∨ c.addr (offset a) + w ≤ q → loadByte t q = loadByte s q) ∧
        engOf t e = { x with pc := x.pc + 4, c7Used := x.c7Used + 1 } ∧ tokensLeft t 7 + 1 = tokensLeft s 7 ∧ t.regs = s.regs ∧ t.queues = s.queues
      let changed (i : Instr) (f : Word → Word) : Prop :=
        let p := c.addr (offset z)
        let old : Word := loadByte s (p + 3) ++ loadByte s (p + 2) ++ loadByte s (p + 1) ++ loadByte s p
        ∃ t, exec i s = .next t ∧ (∀ j, j < 4 → loadByte t (p + j) = (f old).extractLsb' (8 * j) 8) ∧ (∀ q, q < p ∨ p + 4 ≤ q → loadByte t q = loadByte s q) ∧
          (engOf t e).get rd = (if rd = 0 then 0 else old) ∧ (∀ r, r ≠ rd → (engOf t e).get r = x.get r) ∧ (engOf t e).flags = x.flags ∧
          (engOf t e).pc = x.pc + 4 ∧ tokensLeft t 7 + 1 = tokensLeft s 7 ∧ t.regs = s.regs ∧ t.queues = s.queues
      (window a → clean a →
        (offset a + 1 ≤ c.bytes → loaded (.lb e rd ra imm .sound) ((byte a 0).signExtend 32) ∧ loaded (.lbu e rd ra imm .sound) ((byte a 0).setWidth 32)) ∧
        (a % 2 = 0 → offset a + 2 ≤ c.bytes → loaded (.lh e rd ra imm .sound) ((byte a 1 ++ byte a 0).signExtend 32) ∧
          loaded (.lhu e rd ra imm .sound) ((byte a 1 ++ byte a 0).setWidth 32)) ∧
        (a % 4 = 0 → offset a + 4 ≤ c.bytes → loaded (.lw e rd ra imm .sound) (byte a 3 ++ byte a 2 ++ byte a 1 ++ byte a 0))) ∧
      (window a → a % 4 = 0 → offset a + 4 ≤ c.bytes → areaPoisoned s (.chan c) (offset a) = true → x.inTrap = false → x.tvec ≠ 0 →
        ∃ t, exec (.lw e rd ra imm .sound) s = .next t ∧ trapped t 4 a) ∧
      (window a → c.type = 3 ∨ c.type = 4 → mine →
        stored (.sb e rd ra imm .sound) 1 ∧ (a % 2 = 0 → stored (.sh e rd ra imm .sound) 2) ∧ (a % 4 = 0 → stored (.sw e rd ra imm .sound) 4)) ∧
      (window a → a % 4 = 0 → c.type = 1 → x.inTrap = false → x.tvec ≠ 0 → ∃ t, exec (.sw e rd ra imm .sound) s = .next t ∧ trapped t 3 a) ∧
      (window z → z % 4 = 0 → offset z % 4 = 0 → c.type = 4 → mine → offset z + 4 ≤ c.bytes → areaPoisoned s (.chan c) (offset z) = false →
        changed (.amoadd e rd ra rb .sound) (· + x.get rb) ∧ changed (.amoswap e rd ra rb .sound) (fun _ => x.get rb) ∧
        changed (.cas e rd ra rb .sound) (fun old => if old = x.get rd then x.get rb else old) ∧
        changed (.amoor e rd ra rb .sound) (· ||| x.get rb) ∧ changed (.amoand e rd ra rb .sound) (· &&& x.get rb))) ∧
    (areaOf s x.winHandle[k].toNat = none → x.inTrap = false → x.tvec ≠ 0 → window a → a % 4 = 0 → ∀ i ∈ ([.lw e rd ra imm .sound, .sw e rd ra imm .sound] : List Instr),
      ∃ t, exec i s = .next t ∧ (engOf t e).tcause = 3 ∧ (engOf t e).tpc = x.pc ∧ (engOf t e).g = x.g ∧ Raised 68 s t)

/-- The engine ports (R351, R353, R358, R374, R384). Outside the pair, a word loaded from a port that may be read is its value, and nothing else changes but that TIME_LO latches the upper half of the time code in TIME_HI: ENG_ID, the time, FRAME, the trap registers, FLAGS, the event mask, the data and time of the last event, the windows, the checkpoint and the dictionary ports. A word stored to a port that may be written stands in it and nothing else changes: a store to WDOG restarts the watchdog at the present time, one to EVROUTE sets or clears, by bit 7, the ENGINE bit of the engine number in evt.config of the event in bits 6 to 0. A load of WDOG, EVROUTE or DICT_OP and a store to a port that is only read trap with cause 3, and an access of a byte or half to a port with cause 2. -/
def Obligations.PortAccesses : Prop :=
  ∀ (e : Fin 9) (rd ra : Fin 32) (imm : Half) (w k : Fin 4) (s : State), ExecutesAlone s e →
    let x := engOf s e
    let a := (x.get ra + imm.signExtend 32).toNat
    let v := x.get rd
    let low (p : Nat) : Word := BitVec.ofNat 32 p
    let bit (b : Bool) (n : Nat) : Nat := if b then 2 ^ n else 0
    let routed (n : Nat) : State := s.setReg (Reg.evtConfig (n % 128))
      (s.reg (Reg.evtConfig (n % 128)) - (if (s.reg (Reg.evtConfig (n % 128))).testBit (16 + x.runsAs) then 2 ^ (16 + x.runsAs) else 0) +
        (if n.testBit 7 then 2 ^ (16 + x.runsAs) else 0))
    let trapped (cause : Nat) : State := setEng s e { x with tpc := x.pc, tcause := low cause, tval := low a, inTrap := true, pc := x.tvec }
    (∀ p ∈ ([(0x00, low (x.runsAs + (if e = 8 then 256 else 0))), (0x08, x.timeHi), (0x0C, low s.scan.frameCount), (0x14, x.tvec), (0x18, x.tpc),
        (0x1C, x.tcause), (0x20, x.tval), (0x24, low (bit x.flags.z 0 + bit x.flags.n 1 + bit x.flags.c 2 + bit x.flags.v 3 + bit x.flags.e 4)),
        (0x30 + 4 * k.val, x.evmask.extractLsb' (32 * k) 32), (0x40, x.evdata.extractLsb' 0 32), (0x44, x.evdata.extractLsb' 32 32), (0x48, x.evtime),
        (0x60 + 8 * w.val, x.winHandle[w]), (0x64 + 8 * w.val, x.winOffset[w]), (0x80, x.ckptBase), (0x84, x.ckptLen), (0x88, x.ckptCount),
        (0xA0, x.dictEntry), (0xA4, x.dictBuf), (0xA8, x.dictLen), (0xB0, x.dictStatus)] : List (Nat × Word)),
      a = 0x20000000 + p.1 → ∃ t, exec (.lw e rd ra imm .sound) s = .next t ∧ Completed s t e rd p.2 x.flags) ∧
    (∀ i ∈ ([.timeLoRead e rd] ++ (if a = 0x20000004 then [.lw e rd ra imm .sound] else []) : List Instr),
      ∃ t, exec i s = .next t ∧ (engOf t e).get rd = (if rd = 0 then 0 else low s.now) ∧
        (∀ r, r ≠ rd → (engOf t e).get r = x.get r) ∧ (engOf t e).timeHi = low (s.now / 2 ^ 32) ∧ (engOf t e).pc = x.pc + 4 ∧
        { engOf t e with g := x.g, timeHi := x.timeHi, pc := x.pc } = x ∧ t = setEng s e (engOf t e)) ∧
    (∀ p ∈ ([(0x10, { x with wdogStart := s.now }), (0x14, { x with tvec := v }),
        (0x24, { x with flags := ⟨v.getLsbD 0, v.getLsbD 1, v.getLsbD 2, v.getLsbD 3, v.getLsbD 4⟩ }),
        (0x60 + 8 * w.val, { x with winHandle := x.winHandle.set w v }), (0x64 + 8 * w.val, { x with winOffset := x.winOffset.set w v }),
        (0x80, { x with ckptBase := v }), (0x84, { x with ckptLen := v }),
        (0xA0, { x with dictEntry := v }), (0xA4, { x with dictBuf := v }), (0xA8, { x with dictLen := v })] : List (Nat × Engine)),
      a = 0x20000000 + p.1 → exec (.sw e rd ra imm .sound) s = .next (setEng s e { p.2 with pc := x.pc + 4 })) ∧
    (a = 0x20000030 + 4 * k.val → ∃ y, exec (.sw e rd ra imm .sound) s = .next (setEng s e { x with evmask := y, pc := x.pc + 4 }) ∧
      ∀ n, n < 128 → y.getLsbD n = if n / 32 = k.val then v.getLsbD (n % 32) else x.evmask.getLsbD n) ∧
    exec (.wdogWrite e rd) s = .next (setEng s e { x with wdogStart := s.now, pc := x.pc + 4 }) ∧
    (∀ i ∈ ([.evrouteWrite e rd] ++ (if a = 0x20000050 then [.sw e rd ra imm .sound] else []) : List Instr),
      exec i s = .next (setEng (routed v.toNat) e { x with pc := x.pc + 4 })) ∧
    (x.inTrap = false → x.tvec ≠ 0 →
      (a ∈ [0x20000010, 0x20000050, 0x200000AC] → exec (.lw e rd ra imm .sound) s = .next (trapped 3)) ∧
      (a ∈ [0x20000000, 0x20000004, 0x20000008, 0x2000000C, 0x20000018, 0x2000001C, 0x20000020, 0x20000040, 0x20000044, 0x20000048, 0x20000088, 0x200000B0] →
        exec (.sw e rd ra imm .sound) s = .next (trapped 3)) ∧
      (0x20000000 ≤ a → a < 0x20000100 → ∀ c ∈ ([.lb e rd ra imm .sound, .lbu e rd ra imm .sound, .sb e rd ra imm .sound] : List Instr), exec c s = .next (trapped 2)))

/-- QPUSH (R273, R275, R276, R278, R353, R391). Outside the pair, with the pixel store powered, QPUSH by an engine that may push to a queue without a hardware consumer, from 32 bytes of data RAM, completes: with the queue full E is 1 and nothing else changes; otherwise, with a C7 token left, which it costs, the entry stands at TAIL with KIND and body from the data RAM, the SEQ of the queue and the time in µs, TAIL advances, the high-water mark follows, E is 0, and no byte of the pixel store outside the entry changes. -/
def Obligations.QueuePush : Prop :=
  ∀ (e : Fin 9) (ra : Fin 32) (imm : Half) (m : MemObs) (s : State), ExecutesAlone s e → domainOn s 3 = true → m ≠ .fatal →
    let x := engOf s e
    let q := imm.toNat % 16
    let a := (x.get ra).toNat
    let body (k : Nat) : Byte := memGet x.dram (a % 0x10000 + k)
    (x.runsAs < 4 ∨ 8 ≤ x.runsAs ∨ 10 ≤ q ∧ q ≤ 13) → q ≠ 1 → q ≠ 4 → q ≠ 15 → 0x10000000 ≤ a ∧ a + 32 ≤ 0x10010000 →
    (qFull s q = true → exec (.qpush e ra imm m) s = .next (setEng s e { x with flags := { x.flags with e := true }, pc := x.pc + 4 })) ∧
    (qFull s q = false → HasToken s e → ∃ t, exec (.qpush e ra imm m) s = .next t ∧
      qCtl t q = { qCtl s q with tail := (qCtl s q).tail + 1, highWater := Nat.max (qCtl s q).highWater ((qCtl s q).tail + 1 - (qCtl s q).head).toNat } ∧
      (∀ k, k ≠ q → qCtl t k = qCtl s k) ∧
      (let p := qAddr s q (qCtl s q).tail
       loadByte t p = body 0 ∧ loadByte t (p + 1) = body 1 ∧ loadByte t (p + 2) = (qCtl s q).tail.extractLsb' 0 8 ∧ loadByte t (p + 3) = (qCtl s q).tail.extractLsb' 8 8 ∧
       (∀ k, k < 4 → loadByte t (p + 4 + k) = BitVec.ofNat 8 (s.now / 1000 % 2 ^ 32 / 256 ^ k)) ∧ (∀ k, 8 ≤ k → k < 32 → loadByte t (p + k) = body k) ∧
       (∀ r, r < p ∨ p + 32 ≤ r → loadByte t r = loadByte s r)) ∧
      engOf t e = { x with flags := { x.flags with e := false }, pc := x.pc + 4, c7Used := x.c7Used + 1 } ∧ tokensLeft t 7 + 1 = tokensLeft s 7 ∧ t.regs = s.regs)

/-- QPOP and QACK (R255, R276, R277, R353, R377, R391). Outside the pair, with the pixel store powered: QPOP of a queue with neither returned nor fresh entries gives 0xFFFFFFFF with E 1; QPOP of one with a fresh entry and none returned, a C7 token left and nothing found by its read, costs the token, leases the entry to the engine, places its 32 bytes in the data RAM, those of a poisoned word as 0, and its SEQ in rd, with E 0. QACK without checkpointing of the entry at HEAD, leased, with no later entry acknowledged and no frame waiting for the queue, advances HEAD by one; with checkpointing on it is only held. -/
def Obligations.QueuePopAndAcknowledge : Prop :=
  ∀ (e : Fin 9) (rd ra : Fin 32) (imm : Half) (m : MemObs) (s : State), ExecutesAlone s e → domainOn s 3 = true →
    let x := engOf s e
    let q := imm.toNat % 16
    let c := qCtl s q
    let a := (x.get ra).toNat
    let v := (x.get ra).setWidth 16
    (x.runsAs < 4 ∨ 8 ≤ x.runsAs ∨ q = x.runsAs + 6) →
    (0x10000000 ≤ a ∧ a + 32 ≤ 0x10010000 → c.returned = [] → c.lease = c.tail →
      ∃ t, exec (.qpop e rd ra imm m) s = .next t ∧ (engOf t e).get rd = (if rd = 0 then 0 else 0xFFFFFFFF#32) ∧ (engOf t e).flags = { x.flags with e := true } ∧ t.queues = s.queues ∧
        (engOf t e).dram = x.dram ∧ t.store = s.store) ∧
    (0x10000000 ≤ a ∧ a + 32 ≤ 0x10010000 → c.returned = [] → c.lease ≠ c.tail → HasToken s e →
      ∃ t, exec (.qpop e rd ra imm .sound) s = .next t ∧ tokensLeft t 7 + 1 = tokensLeft s 7 ∧ (engOf t e).get rd = (if rd = 0 then 0 else c.lease.setWidth 32) ∧ (engOf t e).flags = { x.flags with e := false } ∧
        qCtl t q = { c with lease := c.lease + 1, lessees := c.lessees ++ [(c.lease, e.val)] } ∧ (∀ k, k ≠ q → qCtl t k = qCtl s k) ∧
        (∀ k, k < 32 → memGet (engOf t e).dram (a % 0x10000 + k) = if poisoned s (qAddr s q c.lease + k) 1 then 0 else loadByte s (qAddr s q c.lease + k)) ∧
        (∀ o, o < a % 0x10000 ∨ a % 0x10000 + 32 ≤ o → memGet (engOf t e).dram o = memGet x.dram o) ∧ t.store = s.store) ∧
    (x.ckptLen = 0 → v = c.head → (∀ k, k < 4 → rxQueue k = q → (transOf s k).rxHeld = []) → c.lessees.any (fun l => l.1 == v) = true → c.acked = [] →
      ∃ t, exec (.qack e ra imm) s = .next t ∧ qCtl t q = { c with head := c.head + 1, lessees := c.lessees.filter (fun l => l.1 != v) } ∧ (∀ k, k ≠ q → qCtl t k = qCtl s k) ∧
        engOf t e = { x with pc := x.pc + 4 } ∧ t.store = s.store) ∧
    (x.ckptLen ≠ 0 → exec (.qack e ra imm) s = .next (setEng s e { x with heldAcks := x.heldAcks ++ [(q, v)], pc := x.pc + 4 }))

/-- EWAIT and ESIG (R353, R385, R386). Outside the pair: EWAIT with a masked event pending, whatever its timeout, gives its number with E 0, fills EVDATA and EVTIME and takes it from the pending events; with none pending it waits, or with a timeout of 0 gives 0xFFFFFFFF with E 1; the end of a waiting EWAIT gives 0xFFFFFFFF with E 1 at its deadline. ESIG of E105 to E111 with DATA that the data RAM gives back raises that event once and moves on. -/
def Obligations.EventInstructions : Prop :=
  ∀ (e : Fin 9) (rd ra : Fin 32) (imm : Half) (m : MemObs) (s : State),
    let x := engOf s e
    let us := (x.get ra).toNat
    let n := imm.toNat % 128
    (ExecutesAlone s e → ∀ p, nextEvent s x = some p →
      ∃ t, exec (.ewait e rd ra) s = .next t ∧ Completed (setEng s e { x with pendingEvents := x.pendingEvents.filter (fun q => q.event != p.event), evdata := p.data, evtime := p.timeUs })
        t e rd (BitVec.ofNat 32 p.event) { x.flags with e := false }) ∧
    (ExecutesAlone s e → nextEvent s x = none → us ≠ 0 →
      exec (.ewait e rd ra) s = .next (setEng s e { x with stall := .event rd (if us = 0xFFFFFFFF then none else some (s.now + us * 1000)) })) ∧
    (ExecutesAlone s e → nextEvent s x = none → us = 0 →
      ∃ t, exec (.ewait e rd ra) s = .next t ∧ Completed s t e rd 0xFFFFFFFF#32 { x.flags with e := true }) ∧
    (∀ r d, x.run = .running → x.stall = .event r (some d) → inPair s e = false →
      ∃ t, exec (.ewaitTimeout e) s = .next t ∧ t.now = Nat.max s.now d ∧ Completed (setEng (s.atLeast d) e { x with stall := .none }) t e r 0xFFFFFFFF#32 { x.flags with e := true }) ∧
    (ExecutesAlone s e → m ≠ .fatal → 105 ≤ n ∧ n ≤ 111 → 0x10000000 ≤ us ∧ us + 8 ≤ 0x10010000 →
      ∃ t, exec (.esig e ra imm m) s = .next t ∧ After (setEng s e { x with pc := x.pc + 4 }) [n] t)

/-- MOVE, MWAIT and the completion of a move (R353, R361, R363, R394). Outside the pair: MOVE with fewer than four moves outstanding starts the move whose descriptor stands at ra, gives its ID and goes on; MWAIT of a completed move gives its status. The oldest move of an engine completes with status 0 where its data RAM gives back what it reads and no Assayer watches block moves: from one place of the data RAM to another it draws no token; between the data RAM and a BLOB or DIAG channel it draws one token of C7 for each 64 bytes; its bytes stand at the destination, and the rest of the data RAM and of the pixel store is as before. -/
def Obligations.BlockMoves : Prop :=
  ∀ (e : Fin 9) (rd ra : Fin 32) (obs : MemObs) (o : TileObs) (s : State),
    let x := engOf s e
    let a := (x.get ra).toNat
    (ExecutesAlone s e → obs ≠ .fatal → x.moves.length < 4 → 0x10000000 ≤ a ∧ a + 32 ≤ 0x10010000 → areaOf s (field (memRange x.dram (a % 0x10000) 32) 0 4) ≠ none →
      areaOf s (field (memRange x.dram (a % 0x10000) 32) 8 4) ≠ none →
      ∃ t v, exec (.move e rd ra obs) s = .next t ∧ Completed (setEng s e { x with moves := x.moves ++ [⟨x.nextMove, memRange x.dram (a % 0x10000) 32, v, 0, none⟩], nextMove := x.nextMove + 1 }) t e rd x.nextMove x.flags) ∧
    (ExecutesAlone s e → ∀ v, x.doneMoves.lookup (x.get ra) = some v → ∃ t, exec (.mwait e rd ra) s = .next t ∧ Completed s t e rd v x.flags) ∧
    (Moving s e → obs ≠ .fatal → o.ecc = [] → ∀ m rest, x.moves = m :: rest → m.refused = 0 → m.cut = none → m.paid = 0 → field m.descriptor 20 1 = 0 →
      let src := field m.descriptor 0 4
      let dst := field m.descriptor 8 4
      let so := field m.descriptor 4 4
      let d := field m.descriptor 12 4
      let n := field m.descriptor 16 4
      let ended (f : State → Prop) : Prop := ∃ t, exec (.moveComplete e o obs) s = .next t ∧ (engOf t e).moves = rest ∧ (engOf t e).doneMoves = (m.id, 0) :: x.doneMoves ∧
        (engOf t e).g = x.g ∧ (engOf t e).pc = x.pc ∧ t.regs = s.regs ∧ f t
      (src = 0 → dst = 0 → so + n ≤ 65536 → d + n ≤ 65536 → ended (fun t => t.store = s.store ∧ t.tolls = s.tolls ∧
        (∀ i, i < n → memGet (engOf t e).dram (d + i) = memGet x.dram (so + i)) ∧ ∀ i, i < d ∨ d + n ≤ i → memGet (engOf t e).dram i = memGet x.dram i)) ∧
      (∀ c, c.type = 3 ∨ c.type = 4 → domainOn s 3 = true → ceilDiv n 64 ≤ tokensLeft s 7 →
        (src = 0 → movingArea s dst = some (.chan c) → so + n ≤ 65536 → (∀ i j, i < n → j < n → c.addr (d + i) = c.addr (d + j) → i = j) →
          ended (fun t => (engOf t e).dram = x.dram ∧ tokensLeft t 7 + ceilDiv n 64 = tokensLeft s 7 ∧
            (∀ i, i < n → loadByte t (c.addr (d + i)) = memGet x.dram (so + i)) ∧ ∀ q, (∀ i, i < n → q ≠ c.addr (d + i)) → loadByte t q = loadByte s q)) ∧
        (dst = 0 → movingArea s src = some (.chan c) → d + n ≤ 65536 → (∀ i, i < n → areaPoisoned s (.chan c) (so + i) = false) →
          ended (fun t => t.store = s.store ∧ tokensLeft t 7 + ceilDiv n 64 = tokensLeft s 7 ∧
            (∀ i, i < n → memGet (engOf t e).dram (d + i) = loadByte s (c.addr (so + i))) ∧
            ∀ i, i < d ∨ d + n ≤ i → memGet (engOf t e).dram i = memGet x.dram i))))

/-- Moves in TILE mode and into MRAM (R283, R284, R285, R361, R362, R363, R364). For an engine outside the pair with its tokens of C7 in hand and no Assayer that watches block moves, the oldest move in TILE mode of one tile completes. From the drive frame into a Lantern frame of MRAM the 512 bytes and the check word of the front drive tile stand there unchanged, nine tokens are drawn, and no byte of the pixel store changes; with VERIFY a tile that fails its check is not written, the status is 5 with its index, and the failure is counted. From the data RAM into a SURFACE, whose tile no update is to flip and no named set owns, the bytes stand in the back slot with their new CRC-32C, the tile is loose, the front slot stays, and a token is drawn for each 64 bytes and one for the side record. A move whose handle named nothing, that was denied or that left its area, ends with its status and does nothing. -/
def Obligations.TileMoves : Prop :=
  ∀ (e : Fin 9) (obs : MemObs) (o : TileObs) (s : State), Moving s e → o.ecc = [] → o.transient = [] → s.store.poison = [] →
    let x := engOf s e
    ∀ m rest, x.moves = m :: rest → m.cut = none → m.paid = 0 →
      let src := field m.descriptor 0 4
      let dst := field m.descriptor 8 4
      let so := field m.descriptor 4 4
      let d := field m.descriptor 12 4
      let mode := field m.descriptor 20 1
      let frame (t : State) : Memory := vget t.mram.lantern [] (dst - 0xFE000004)
      let ended (status : Nat) (f : State → Prop) : Prop := ∃ t, exec (.moveComplete e o obs) s = .next t ∧ (engOf t e).moves = rest ∧
        (engOf t e).doneMoves = (m.id, BitVec.ofNat 32 status) :: x.doneMoves ∧ (engOf t e).g = x.g ∧ (engOf t e).pc = x.pc ∧ f t
      (m.refused ≠ 0 → ended m.refused (fun t => t = setEng s e (engOf t e) ∧ (engOf t e).dram = x.dram)) ∧
      (m.refused = 0 → field m.descriptor 16 4 = 1 → domainOn s 3 = true →
        (src = 0xFF000002 → dst = 0xFE000004 ∨ dst = 0xFE000005 → so < 4096 → d < 4096 → 9 ≤ tokensLeft s 7 →
          (mode = 2 ∨ mode = 6 ∧ tileSound s (driveFront s so) = true →
            ended 0 (fun t => tokensLeft t 7 + 9 = tokensLeft s 7 ∧ t.store = s.store ∧ t.regs = s.regs ∧
              (∀ i, i < 512 → memGet (frame t) (512 * d + i) = loadByte s ((driveFront s so).base + i)) ∧
              (∀ i, i < 4 → memGet (frame t) (2097152 + 4 * d + i) = (BitVec.ofNat 32 (tileCheck s (driveFront s so))).extractLsb' (8 * i) 8) ∧
              ∀ p, (p < 512 * d ∨ 512 * d + 512 ≤ p) → (p < 2097152 + 4 * d ∨ 2097152 + 4 * d + 4 ≤ p) → memGet (frame t) p = memGet (frame s) p)) ∧
          (mode = 6 → tileSound s (driveFront s so) = false →
            ended (5 + 256 * so) (fun t => t.mram.lantern = s.mram.lantern ∧ t.reg Reg.integTileFail = (s.reg Reg.integTileFail + 1) % 4294967296))) ∧
        (∀ c, src = 0 → movingArea s dst = some (.chan c) → c.type = 1 → c.format ≠ 1 → mode = 2 → obs ≠ .fatal → tileWaits s c d = false →
          bitAt (sideState s (.surface c d 0)) 3 = false → c.destroyed = false →
          let n := formatBytes c.format
          let sel := sideState s (.surface c d 0) % 2
          let back := TileRef.surface c d (1 - sel)
          let front := TileRef.surface c d sel
          let data := memRange x.dram (so * n) n
          so * n + n ≤ 65536 → ceilDiv n 64 + 1 ≤ tokensLeft s 7 → (∀ i, i < n → ∀ j, j < 16 → back.base + i ≠ back.side + j ∧ front.base + i ≠ back.side + j) →
          (∀ i, i < n → ∀ j, j < n → back.base + i ≠ front.base + j) → (c.slot, d) ∉ s.chans.loose →
          ended 0 (fun t => tokensLeft t 7 + (ceilDiv n 64 + 1) = tokensLeft s 7 ∧ tileData t back = data ∧ tileCheck t back = crc32c data ∧
            tileData t front = tileData s front ∧ t.chans.loose = s.chans.loose ++ [(c.slot, d)] ∧ (engOf t e).dram = x.dram)))

/-- TOLL, TWAIT, CHKPT and ASSAY (R290, R353, R376, R391). Outside the pair: TOLL gives the tokens left to its class in this period; TWAIT waits for the next period with the pc past it; CHKPT with checkpointing on, no move outstanding and no acknowledgement held keeps the registers, the flags, the checkpointed region and ra as the resume address in the newer of two buffers and counts; ASSAY feeds bytes of the data RAM to a running Assayer, whose value is the CRC carried on over them and whose count grows by their number. -/
def Obligations.TollCheckpointAssay : Prop :=
  ∀ (e : Fin 9) (rd ra rb : Fin 32) (imm : Half) (m : MemObs) (s : State), ExecutesAlone s e → m ≠ .fatal →
    let x := engOf s e
    (∃ t, exec (.toll e rd imm) s = .next t ∧ Completed s t e rd (BitVec.ofNat 32 (tokensLeft s (imm.toNat % 8))) x.flags) ∧
    exec (.twait e) s = .next (setEng s e { x with pc := x.pc + 4, stall := .period }) ∧
    (x.moves = [] → x.heldAcks = [] → x.ckptLen ≠ 0 →
      exec (.chkpt e ra m) s = .next (setEng s e { x with
        ckpts := ⟨x.g, x.flags, x.get ra, x.ckptBase.toNat, memRange x.dram x.ckptBase.toNat x.ckptLen.toNat⟩ :: x.ckpts.take 1
        ckptCount := x.ckptCount + 1, pc := x.pc + 4 })) ∧
    (let k := (x.get rd).toNat % 8
     let a := (x.get ra).toNat
     let n := (x.get rb).toNat
     let g := s.reg (Reg.assayConfig k)
     domainOn s 3 = true → (x.runsAs < 4 ∨ 8 ≤ x.runsAs ∨ 4 ≤ k) → 0x10000000 ≤ a → a + n ≤ 0x10010000 → bitAt g 1 = true →
      ∃ t, exec (.assay e rd ra rb m) s = .next t ∧
        t.reg (Reg.assayValue k) = crcRun (crcAlg (bits g 3 2)) (s.reg (Reg.assayValue k) % 2 ^ (crcAlg (bits g 3 2)).width) (memRange x.dram (a % 0x10000) n) ∧
        t.reg (Reg.assayCount k) = (s.reg (Reg.assayCount k) + n) % 2 ^ 32 ∧ (∀ r, r ≠ Reg.assayValue k → r ≠ Reg.assayCount k → t.reg r = s.reg r) ∧
        engOf t e = { x with pc := x.pc + 4 } ∧ t.store = s.store)

/-- Stores to DICT_OP (R358, R371, R306). Outside the pair: an operation on an entry that does not exist answers NO_ENTRY in DICT_STATUS; a read, or a staged read, that the dictionary answers places the value at DICT_BUF in the data RAM and its length in DICT_LEN with status OK; a write, or a staged write, by an engine that runs stock firmware and whose data RAM gives back the value answers the status of the dictionary and leaves what it leaves. The engine goes on after each, but waits where a write is done only later (a channel to be filled, a save, an import). -/
def Obligations.DictionaryPort : Prop :=
  ∀ (e : Fin 9) (obs : MemObs) (s : State), ExecutesAlone s e → dictWaits s e = false → obs ≠ .fatal →
    let x := engOf s e
    let key := x.dictEntry.toNat % 2 ^ 24
    let buf := x.dictBuf.toNat
    let len := x.dictLen.toNat
    let answered (t m : State) (status : Nat) : Prop := t = setEng m e { engOf m e with dictStatus := BitVec.ofNat 32 status, pc := x.pc + 4, stall := if dictWaits m e = true then .dict e else .none }
    let reads (c : Instr) (staged : Bool) : Prop :=
      (rowFor s key = none → ∃ t, exec c s = .next t ∧ answered t s 1) ∧
      (∀ r b, rowFor s key = some r → readEntry s 0 staged r key = (0, b, s) → b.length ≤ 2048 → buf + b.length ≤ 65536 →
        ∃ t, exec c s = .next t ∧ answered t (setEng s e { x with dram := memWrite x.dram buf b, dictLen := BitVec.ofNat 32 b.length }) 0)
    let writes (c : Instr) (staged : Bool) : Prop := (x.runsAs < 4 ∨ 8 ≤ x.runsAs) → len ≤ 2048 → buf + len ≤ 65536 →
      (rowFor s key = none → ∃ t, exec c s = .next t ∧ answered t s 1) ∧
      (∀ st p m, writeEntry s 0 staged key (memRange x.dram buf len) (bytesLE 1 e) = (st, p, m) → engOf m e = x → m.pair = s.pair →
        ∃ t, exec c s = .next t ∧ answered t m st)
    reads (.dictOpRead e) false ∧ reads (.dictOpReadStaged e) true ∧ writes (.dictOpWrite e obs) false ∧ writes (.dictOpWriteStaged e obs) true

/-- Watchdog, takeover and self-checks (R374, R375, R377, R378, R380, R381, R383). An expired watchdog halts the engine, whose leases return, and raises E127; outside the pair, with WJ standing by and no takeover under way it is due for the takeover with cause 0; with no spare E120 is raised too, its bit of eng.failed_mask is set, a dump is due, and a module of W4 to W7 stops with E104. WJ, loaded with the failed engine's segment and with its last checkpoint over it, resumes as that engine with its routes and windows, REPLACES names it, E119 and one more failover; where SEG_HASH does not match the engine has failed with E120; after a failure in the pair the other engine resumes beside WJ from W0's checkpoint. A failed self-check of WJ takes it out of service with E119. An output of the pair that waited too long halts both for their self-checks; where exactly one fails its engine is due for the takeover with cause 4, in every other case both have failed with E120. Nothing else changes. -/
def Obligations.EngineSupervision : Prop :=
  ∀ (e : Fin 9) (s : State),
    (let x := engOf s e
     let u := s.atLeast (x.wdogStart + s.reg Reg.engWatchdogUs * 1000)
     let h := haltFailed e u
     let lost := { h.setReg Reg.engFailedMask (setBit (s.reg Reg.engFailedMask) e true) with dump := { s.dump with due := some (120, e.val, 0) } }
     x.run = .running → x.wdogEn = true → inPair s e = false →
      ((engOf s 8).run = .standby → e ≠ 8 → s.takeover = none → x.image < 3 →
        ∃ t, exec (.watchdogExpiry e) s = .next t ∧ After { h with takeover := some (e.val, 0) } [127] t) ∧
      ((engOf s 8).run ≠ .standby → (x.runsAs < 4 ∨ 8 ≤ x.runsAs) → s.dump.due = none →
        ∃ t, exec (.watchdogExpiry e) s = .next t ∧ After lost [120, 127] t) ∧
      ((engOf s 8).run ≠ .standby → 4 ≤ x.runsAs → x.runsAs < 8 → s.dump.due = none →
        ∃ t, exec (.watchdogExpiry e) s = .next t ∧ After { lost with modules := s.modules.filter (fun m => m.engine != x.runsAs) } [104, 120, 127] t)) ∧
    (∀ k : Fin 8, ∀ cause, s.takeover = some (k.val, cause) → (engOf s k).runsAs < 8 →
      (let x := engOf s k
       let img := imageOf s x.image
       let loads : Prop := segUsed img x.segment = true ∧ segFits img x.segment = true ∧ segHashOk img x.segment = true
       let from_ := if inPair s k = true then (engOf s 0).ckpts else x.ckpts
       let w := takePorts (resumed s 8 x.image x.segment from_) x x.runsAs (fun n => Config.freeNat (s.free + n))
       let u := setEng { s with free := s.free + 13, takeover := none } 8 w
       let mask := setBit (s.reg Reg.engFailedMask % 4096) k true + 4096 * k.val
       (loads → ∃ t, exec .wjResume s = .next t ∧
        (inPair s k = false → After ((u.setReg Reg.engFailedMask mask).bump Reg.engFailovers) [119] t) ∧
        t.takeover = none ∧ t.reg Reg.engFailedMask = mask ∧ t.reg Reg.engFailovers = (s.reg Reg.engFailovers + 1) % 2 ^ 32 ∧ Raised 119 s t ∧
        (engOf t 8).run = .running ∧ (engOf t 8).runsAs = x.runsAs ∧ (engOf t 8).iram = memWrite [] 0 (segCode img x.segment) ∧
        (engOf t 8).winHandle = x.winHandle ∧ (engOf t 8).winOffset = x.winOffset ∧ (engOf t 8).evmask = x.evmask ∧
        (∀ c rest, from_ = c :: rest → (engOf t 8).pc = c.resume ∧ (engOf t 8).g = c.regs ∧ (engOf t 8).flags = c.flags ∧
          (engOf t 8).dram = memWrite (memWrite [] 0 (segData img x.segment)) c.base c.bytes) ∧
        (from_ = [] → (engOf t 8).pc = BitVec.ofNat 32 (field (segEntry img x.segment) 16 4)) ∧
        (inPair s k = true → t.pair.active = true ∧ t.pair.checking = false ∧ t.pair.waiting = none ∧
          ∀ o, o < 8 → runsAs s (1 - x.runsAs) = [o] → ∀ c rest, from_ = c :: rest → (engOf t o).pc = c.resume ∧ (engOf t o).g = c.regs ∧ (engOf t o).flags = c.flags)) ∧
       (¬ loads → x.runsAs < 4 → s.dump.due = none → ∃ t, exec .wjResume s = .next t ∧
        After { s.setReg Reg.engFailedMask (setBit (s.reg Reg.engFailedMask) k true) with
          takeover := none, pair := { s.pair with checking := false }, dump := { s.dump with due := some (120, k.val, 5) } } [120] t))) ∧
    ((engOf s 8).run = .standby → s.takeover = none →
      exec (.wjSelfCheck true) s = .next s ∧
      ∃ t, exec (.wjSelfCheck false) s = .next t ∧
        After ((setEng s 8 { engOf s 8 with run := .failed }).setReg Reg.engFailedMask (setBit (s.reg Reg.engFailedMask) 8 true)) [119] t) ∧
    (∀ k out r t0, s.pair.waiting = some (k, out, r, t0) → s.pair.active = true → s.pair.checking = false →
      ∃ t, exec .pairOutputTimeout s = .next t ∧ t.pair = ⟨true, none, [], true⟩ ∧ t.now = Nat.max s.now (t0 + 20001) ∧ t.regs = s.regs ∧ t.store = s.store ∧
        (∀ n, n < 2 → ∀ o ∈ runsAs s n, engineReady t o = false ∧ (engOf t o).pc = (engOf s o).pc ∧ (engOf t o).g = (engOf s o).g)) ∧
    (∀ a b : Fin 8, ∀ pass : Bool, s.pair.checking = true → s.pair.active = true → s.takeover = none → runsAs s 0 = [a.val] → runsAs s 1 = [b.val] →
      (∃ t, exec (.pairSelfCheckDone pass pass) s = .next t ∧ t.pair.checking = false ∧ (engOf t a).run = .failed ∧ (engOf t b).run = .failed ∧
        bitAt (t.reg Reg.engFailedMask) a = true ∧ bitAt (t.reg Reg.engFailedMask) b = true ∧
        t.reg (Reg.evtCount 120) % 4294967296 = (s.reg (Reg.evtCount 120) + 2) % 4294967296) ∧
      (let f := if pass = true then b else a
       let o := if pass = true then a else b
       (engOf s 8).run = .standby → (engOf s f).image < 3 →
        ∃ t, exec (.pairSelfCheckDone pass (!pass)) s = .next t ∧ t.takeover = some (f.val, 4) ∧ t.pair.checking = true ∧ (engOf t f).run = .failed ∧
          (engOf t o).run = .running ∧ t.reg (Reg.evtCount 120) = s.reg (Reg.evtCount 120)))

/-- An instruction word decodes to its instruction (R352, R353). For every engine and every instruction that has a word (those that read memory with nothing met there), the decoder reads back from the encoded word the instruction with every operand. Words laid out bit by bit from the formats and the opcode table decode to the instructions they stand for; an opcode, func or cond that is not listed decodes to the illegal instruction. -/
def Obligations.DecodeEncode : Prop :=
  (∀ (e : Fin 9) (rd ra rb : Fin 32) (imm : Half) (c : Cond) (o : BitVec 22) (l : BitVec 26),
    ∀ i ∈ ([.add e rd ra rb, .sub e rd ra rb, .and e rd ra rb, .or e rd ra rb, .xor e rd ra rb, .sll e rd ra rb, .srl e rd ra rb, .sra e rd ra rb,
      .mul e rd ra rb, .mulh e rd ra rb, .mulhu e rd ra rb, .div e rd ra rb, .divu e rd ra rb, .rem e rd ra rb, .remu e rd ra rb, .cmp e ra rb, .clz e rd ra,
      .addi e rd ra imm, .andi e rd ra imm, .ori e rd ra imm, .xori e rd ra imm, .shi e rd ra imm, .lui e rd imm, .cmpi e ra imm,
      .lb e rd ra imm .sound, .lbu e rd ra imm .sound, .lh e rd ra imm .sound, .lhu e rd ra imm .sound, .lw e rd ra imm .sound,
      .sb e rd ra imm .sound, .sh e rd ra imm .sound, .sw e rd ra imm .sound, .b e c o, .bl e l, .jr e rd ra imm,
      .amoadd e rd ra rb .sound, .amoswap e rd ra rb .sound, .cas e rd ra rb .sound, .amoor e rd ra rb .sound, .amoand e rd ra rb .sound,
      .qpush e ra imm .sound, .qpop e rd ra imm .sound, .qack e ra imm, .ewait e rd ra, .esig e ra imm .sound, .move e rd ra .sound, .mwait e rd ra, .assay e rd ra rb .sound,
      .toll e rd imm, .twait e, .chkpt e ra .sound, .tret e] : List Instr),
      (encodeEngine i).map (decodeEngine e) = some i) ∧
  decodeEngine 3 0b000000_00011_00001_00010_00000000001#32 = .sub 3 3 1 2 ∧
  decodeEngine 0 0b000001_00101_00110_1111111111111100#32 = .addi 0 5 6 0xFFFC#16 ∧
  decodeEngine 4 0b001100_01010_01011_0000000000001000#32 = .lw 4 10 11 8#16 .sound ∧
  decodeEngine 1 0b010000_0010_1111111111111111111110#32 = .b 1 .ne 0x3FFFFE#22 ∧
  decodeEngine 1 0b010001_00000000000000000000000011#32 = .bl 1 3#26 ∧
  decodeEngine 2 0b010100_00111_01000_01001_00000000010#32 = .cas 2 7 8 9 .sound ∧
  decodeEngine 5 0b011001_00001_00010_0000000000001011#32 = .qpop 5 1 2 11#16 .sound ∧
  decodeEngine 7 0b101100_00000_00000_0000000000000000#32 = .tret 7 ∧
  decodeEngine 6 0b111111_00000_00000_0000000000000000#32 = .illegalInstruction 6 .sound ∧
  decodeEngine 6 0b000000_00000_00000_00000_00000010001#32 = .illegalInstruction 6 .sound ∧
  decodeEngine 6 0b010000_1011_0000000000000000000000#32 = .illegalInstruction 6 .sound

/-- Accepted writes that set a register or order a unit (R119, R279, R291, R292, R296, R345, R387, R510, R309). For a session with the key whose request is the next, and for the stock firmware: a write of drive.recompute marks every drive tile as internal work, of rect.learn notes the rectangle, of assay.reset loads assay.init, as wide as the CRC, and clears the count, of assay.config (not while RUN is 1 and stays 1) sets it and leaves of assay.value what the width of the CRC holds, of queue.entries of an empty ring without leases resizes it, of dump.clear (while no dump is being written) removes the dump, of evt.clear clears the latched bits of the mask, of can.mode (where the nominal rate does not exceed the data rate) sets the mode and ends a bus-off. Nothing else changes but what the answer and the host supervision change. -/
def Obligations.WritesOfUnitRegisters : Prop :=
  ∀ (w : Writer) (r q : Fin 16) (a : Fin 8) (c : Fin 2) (mode : Byte) (v : Word) (n : Half) (mask : BitVec 128) (s : State), MayWrite w false s →
    let tiles (m : State) : State := { m with pipe := if m.scan.admissionPassed then { m.pipe with nextInternal := BitVec.allOnes 4096 } else { m.pipe with driveDirty := BitVec.allOnes 4096 } }
    let learn (m : State) : State := { m with lamp := { m.lamp with learn := if r.val ∈ m.lamp.learn then m.lamp.learn else m.lamp.learn ++ [r.val] } }
    let wrote (i : Instr) (f : State → State) : Prop := ∃ t, exec i s = .next t ∧ Wrote w f [] s t
    wrote (.driveRecompute w) tiles ∧ wrote (.rectLearn w r) learn ∧
    let value (m : State) (x : Nat) : State := m.setReg (Reg.assayValue a) (x % 2 ^ (crcAlg (bits (m.reg (Reg.assayConfig a)) 3 2)).width)
    wrote (.assayReset w a) (fun m => (value m (m.reg (Reg.assayInit a))).setReg (Reg.assayCount a) 0) ∧
    (Valid s (Reg.assayConfig a) v.toNat → bitAt (s.reg (Reg.assayConfig a)) 1 = false ∨ bitAt v.toNat 1 = false →
      wrote (.assayConfigWrite w a v) (fun m => value (m.setReg (Reg.assayConfig a) (heldBits (Reg.assayConfig a) v.toNat)) (m.reg (Reg.assayValue a)))) ∧
    (Valid s (Reg.queueEntries q) n.toNat → (∃ k, k < 7 ∧ n.toNat = 32 * 2 ^ k) → qCount s q = 0 → (qCtl s q).lessees = [] →
      wrote (.queueEntriesWrite w q n) (fun m => m.setReg (Reg.queueEntries q) n.toNat)) ∧
    (s.dump.writing = false → wrote (.dumpClear w) (fun m => { m.setReg Reg.dumpSeq 0 with dump := { m.dump with length := 0 } })) ∧
    (∃ t, exec (.evtClear w mask) s = .next t ∧ Wrote w id [] s t ∧ ∀ k, k < 128 → t.events.status.getLsbD k = (s.events.status.getLsbD k && !mask.getLsbD k)) ∧
    (Valid s (Reg.canMode c) mode.toNat → s.reg (Reg.canNomKbps c) ≤ s.reg (Reg.canDataKbps c) →
      ∃ t, exec (.canModeWrite w c mode) s = .next t ∧ Wrote w (fun m => m.setReg (Reg.canMode c) mode.toNat) [] s t ∧ (canOf t c).mode = mode.toNat ∧ (canOf t c).busOff = false)

/-- pwr.request and pwr.array_mask (R471, R472, R475, R476, R309). For a session with the key whose request is the next, and for the stock firmware: in READY or LIT, with no lockout, a request of another of the states READY, LIT and SLEEP is held until it can be met, a request of the present state withdraws what was held. With every domain ON, clearing the bit of a half that is not dark keeps it on until its last dark swap; with every other domain ON, setting the bit of a half that is OFF starts its ramp. -/
def Obligations.WritesOfPower : Prop :=
  ∀ (w : Writer) (mask : Byte) (h : Fin 2) (s : State), MayWrite w false s → s.power.device = 3 ∨ s.power.device = 4 →
    let held (i : Instr) (v : Nat) : Prop := ∃ t, exec i s = .next t ∧
      Wrote w (fun m => { m with power := { m.power with request := if v + 2 = m.power.device then none else some v } }) [] s t
    let others : Prop := ∀ d, 1 ≤ d → d ≤ 7 → d ≠ 5 + h.val → domainOf s d = ⟨2, true, false⟩
    let half : Nat → Nat → Bool := fun m k => bitAt m k
    held (.pwrRequestReady w) 1 ∧ held (.pwrRequestSleep w) 3 ∧ (s.reg Reg.bistLockout = 0 → held (.pwrRequestLit w) 2) ∧
    (Valid s Reg.pwrArrayMask mask.toNat → half mask.toNat (1 - h.val) = half (s.reg Reg.pwrArrayMask) (1 - h.val) →
      (AllOn s → half mask.toNat h = false → half (s.reg Reg.pwrArrayMask) h = true → half s.power.darkFront h = false ∨ half s.power.darkBack h = false →
        ∃ t, exec (.arrayMaskWrite w mask) s = .next t ∧
          Wrote w (fun m => { m.setReg Reg.pwrArrayMask (mask.toNat % 4) with power := { m.power with drainAfter := setBit m.power.drainAfter h true } }) [] s t) ∧
      (others → domainOf s (5 + h) = ⟨0, false, false⟩ → half mask.toNat h = true → half (s.reg Reg.pwrArrayMask) h = false → s.therm.shutdown = false →
        ∃ t, exec (.arrayMaskWrite w mask) s = .next t ∧
          Wrote w (fun m => setDomain { m.setReg Reg.pwrArrayMask (mask.toNat % 4) with power := { m.power with drainAfter := setBit m.power.drainAfter h false } } (5 + h) ⟨1, true, false⟩) [] s t))

/-- lantern.command and lantern.release (R502, R503, R504, R309). For a session with the key whose request is the next, and for the stock firmware: with no Lantern beam, no shutdown and no lockout, lantern.command begins to light the selected frame with cause 5 and raises E97; with the Lantern beam lit, a valid feed, no stale layer of policy LANTERN and no lockout, lantern.release makes it wait for the next commit. -/
def Obligations.WritesOfLantern : Prop :=
  ∀ (w : Writer) (s : State), MayWrite w false s →
    (s.lantern.state = 0 → s.therm.shutdown = false → s.reg Reg.bistLockout = 0 →
      ∃ t, exec (.lanternCommand w) s = .next t ∧ t.lantern.state = 1 ∧ t.lantern.cause = 5 ∧ t.lantern.frame = s.reg Reg.lanternSelect ∧ t.lantern.loaded = false ∧ Raised 97 s t) ∧
    (s.lantern.state = 2 → feedValid s = true → lanternStale s = false → s.reg Reg.bistLockout = 0 →
      ∃ t, exec (.lanternRelease w) s = .next t ∧ Wrote w (fun m => { m with lantern := { m.lantern with state := 3, release := false } }) [] s t)

/-- Writes that need the service level (R170, R171, R309, R314, R369). For a session with the key and the service level whose request is the next, and for the stock firmware: a staged write of 0 to diag.enable is staged under its session; diag.clear of a pixel without FDEF and without a twin, with nothing of the pixel store poisoned, leaves before its answer code 1 in the pixel's half of its byte of the fault map, 0 in the two bytes of its evidence word and every other byte of the pixel store as it was, closes its switch, drops its entry of the Ledger where W3 runs, and marks its tile for the frame that is being prepared, or past the admission point for the one after; dict.restore marks both saved copies invalid and changes no present value; eng.image_activate of a valid stock slot makes the boot selector name it. -/
def Obligations.WritesAtServiceLevel : Prop :=
  ∀ (w : Writer) (p : Word) (c d : Channel) (s : State), MayWrite w true s →
    (∃ t, exec (.diagDisable w) s = .next t ∧
      Wrote w (fun m => { m with kdp := { m.kdp with staged := m.kdp.staged.filter (fun x => x.key != Reg.diagEnable) ++ [⟨Reg.diagEnable, 0, writerSession w⟩] } }) [] s t) ∧
    (let n := p.toNat
     let i := pixelPlace n
     let a := c.addr (pixelTile n * 128 + i / 2)
     let e := d.addr (2 * n)
     let e1 := d.addr (2 * n + 1)
     n < 1048576 → Valid s Reg.diagClear n → clearRefused s n = false → s.channel (s.reg Reg.diagMapHandle) = some c → s.channel (s.reg Reg.diagEvidenceHandle) = some d →
      s.store.poison = [] → a ≠ e → a ≠ e1 → e ≠ e1 →
      ∃ t m, exec (.diagClear w p) s = .next t ∧ Wrote w (fun _ => m) [] s t ∧
        (loadByte m a).toNat = (if i % 2 = 0 then (loadByte s a).toNat / 16 * 16 + 1 else 16 + (loadByte s a).toNat % 16) ∧ loadByte m e = 0 ∧ loadByte m e1 = 0 ∧
        (∀ x, x ≠ a → x ≠ e → x ≠ e1 → loadByte m x = loadByte s x) ∧
        m.latches = { s.latches with isolated := s.latches.isolated.filter (· != n), isolateWait := s.latches.isolateWait.filter (· != n), isolateNext := s.latches.isolateNext.filter (· != n) } ∧
        (if s.scan.admissionPassed = true then m.pipe.nextInternal.getLsbD (pixelTile n) = true else m.pipe.driveDirty.getLsbD (pixelTile n) = true) ∧
        (firmwareRuns s 3 = true → t.mram.ledger.faults = s.mram.ledger.faults.filter (fun x => !faultNames false n x) ∧ t.mram.ledger.next = (s.mram.ledger.next + 1) % 4294967296) ∧
        m.regs = s.regs ∧ m.scan = s.scan ∧ m.commits = s.commits ∧ m.queues = s.queues) ∧
    (p.toNat < 1048576 → Valid s Reg.diagClear p.toNat → clearRefused s p.toNat = false →
      ∃ t, exec (.diagClear w p) s = .next t ∧ p.toNat ∉ t.latches.isolated ∧ p.toNat ∉ t.latches.isolateWait ∧ p.toNat ∉ t.latches.isolateNext ∧
        (∀ q, q ≠ p.toNat → (q ∈ t.latches.isolated ↔ q ∈ s.latches.isolated)) ∧ t.scan = s.scan ∧ t.commits = s.commits) ∧
    (s.kdp.saving = none → ∃ t, exec (.dictRestore w) s = .next t ∧ Wrote w (fun m => { m with mram := { m.mram with saved := Vector.replicate 2 none } }) [] s t) ∧
    (targetSlot s < 2 → imageValid s (targetSlot s) = true →
      ∃ t, exec (.imageActivate w) s = .next t ∧ Wrote w (fun m => m.setReg Reg.engBootSelect (targetSlot s)) [] s t)

/-- adcg.enable, adcg.fire, adc.inj_request and lane.enable_mask (R246, R426, R429, R439, R309). For a session with the key whose request is the next, and for the stock firmware: adcg.enable of a disabled group that its rules admit enables it and starts no round, of an enabled group ends its round and removes its conversions; adcg.fire of an enabled SOFTWARE group queues its round on the converters, and with a round still running is lost and counted; adc.inj_request with none pending makes one pending; with the lane domain off lane.enable_mask is only set, with it ON and no lane in the stripe a lane newly enabled starts its search and one newly disabled stops. -/
def Obligations.WritesOfAdcAndLanes : Prop :=
  ∀ (w : Writer) (g k : Fin 4) (mask : Byte) (s : State), MayWrite w false s →
    let n := 4 + g.val
    (s.reg (Reg.adcgEnable n) = 0 → enableRefused s n = false →
      ∃ t, exec (.adcgEnable w g true) s = .next t ∧ t.reg (Reg.adcgEnable n) = 1 ∧ (adcGroup t n).left = 0 ∧ (adcGroup t n).overrun = false ∧ t.adc.slices = s.adc.slices) ∧
    (s.reg (Reg.adcgEnable n) = 1 →
      ∃ t, exec (.adcgEnable w g false) s = .next t ∧ t.reg (Reg.adcgEnable n) = 0 ∧ (adcGroup t n).left = 0 ∧ (∀ j, j < 4 → ∀ p ∈ (convOf t j).queue, p.group ≠ n) ∧ t.adc.slices = s.adc.slices) ∧
    (domainOn s 7 = true → s.reg (Reg.adcgEnable n) = 1 → s.reg (Reg.adcgTrigger n) = 4 → (adcGroup s n).left = 0 → (∀ j, j < 4 → (convOf s j).slice ≠ none) →
      ∃ t, exec (.adcgFire w g) s = .next t ∧ Wrote w (fun m => { m with adc := t.adc }) [] s t ∧ (adcGroup t n).left = (groupRound s n).length ∧
        ∀ j, j < 4 → (convOf t j).queue = (convOf s j).queue ++ ((groupRound s n).filter (fun p => p.1 == j)).map (fun p => ⟨groupPrec s n, n, p.2.1, p.2.2⟩)) ∧
    (domainOn s 7 = true → s.reg (Reg.adcgEnable n) = 1 → s.reg (Reg.adcgTrigger n) = 4 → (adcGroup s n).left ≠ 0 →
      ∃ t, exec (.adcgFire w g) s = .next t ∧ Wrote w (fun m => setAdcGroup (m.bump Reg.adcTrigOverrun) n { adcGroup m n with overrun := true }) [] s t) ∧
    (domainOn s 7 = true → s.adc.injState = 0 →
      ∃ t, exec (.adcInjRequest (.write w)) s = .next t ∧ t.adc.injState = 1 ∧ t.adc.injLeft = bits (s.reg Reg.adcInjConfig) 9 8 + 1 ∧ t.reg Reg.adcInjLost = s.reg Reg.adcInjLost) ∧
    (Valid s Reg.laneEnableMask mask.toNat →
      (domainOn s 2 = false → ∃ t, exec (.laneEnableMaskWrite w mask) s = .next t ∧ Wrote w (fun m => m.setReg Reg.laneEnableMask mask.toNat) [] s t) ∧
      (domainOn s 2 = true → (∀ j, j < 4 → inStripe (laneOf s.lanes j) = false) → bitAt (s.reg Reg.laneEnableMask) k ≠ bitAt mask.toNat k →
        ∃ t, exec (.laneEnableMaskWrite w mask) s = .next t ∧ t.reg Reg.laneEnableMask = mask.toNat ∧ (laneOf t.lanes k).state = (if bitAt mask.toNat k then 1 else 0)))

/-- chan.create and chan.destroy (R259, R261, R262, R263, R266, R267, R309). For a session with the key whose request is the next, and for the stock firmware: a create with a sound descriptor, a free slot and enough free pages makes the first free slot a channel of that type and shape with the next generation of the slot; where the period still holds the C7 tokens of its fill, one for each 64 bytes, they are drawn and result 0 and the handle stand; otherwise what is left is drawn, and the rest with the result is owed. A create with a bad descriptor gives result 3, with all slots taken result 1, with too few free pages result 2, and each leaves the channels as they are. A destroy of a referenced channel refuses further use of its handle and waits; one of a channel that nothing references and into which no region lands frees the channel, and its slot joins the end of the free list. -/
def Obligations.WritesOfChannels : Prop :=
  ∀ (w : Writer) (d : List Byte) (handle : Word) (s : State), MayWrite w false s →
    let result (t : State) (code h : Nat) : Prop := match w with
      | .host x => (sessOf t x.session.toNat).createResult = code ∧ (sessOf t x.session.toNat).created = h
      | .firmware => t.reg Reg.chanCreateResult = code ∧ t.reg Reg.chanCreated = h
    (d.length = 12 → descriptorOk d = false → ∃ t, exec (.chanCreate w d) s = .next t ∧ result t 3 0 ∧ t.chans = s.chans) ∧
    (d.length = 12 → descriptorOk d = true → ∀ slot rest, s.chans.slots = slot :: rest →
      let g0 := mapGet (fun _ => 0) s.mram.gens slot
      let g := if g0 = 65535 then 1 else g0 + 1
      let c : Channel := ⟨slot, g, field d 0 1, field d 1 1, field d 4 2, field d 6 2, field d 8 4, [], false, false, 0, none⟩
      let n := ceilDiv c.bytes 64
      (c.pages ≤ freePages s → ∃ t runs, exec (.chanCreate w d) s = .next t ∧ t.chans.live = s.chans.live ++ [{ c with runs := runs }] ∧ t.chans.slots = rest ∧
        mapGet (fun _ => 0) t.mram.gens slot = g ∧ tokensLeft t 7 = tokensLeft s 7 - n ∧
        (n ≤ tokensLeft s 7 → result t 0 c.handle ∧ t.tolls.owed = s.tolls.owed) ∧
        (tokensLeft s 7 < n → ∃ o r, t.tolls.owed = s.tolls.owed ++ [o] ∧ o.class_ = 7 ∧ o.tokens = n - tokensLeft s 7 ∧ o.report = some r ∧
          r.session = writerSession w ∧ r.handle = c.handle)) ∧
      (freePages s < c.pages → ∃ t, exec (.chanCreate w d) s = .next t ∧ result t 2 0 ∧ t.chans = s.chans)) ∧
    (d.length = 12 → descriptorOk d = true → s.chans.slots = [] → ∃ t, exec (.chanCreate w d) s = .next t ∧ result t 1 0 ∧ t.chans = s.chans) ∧
    (∀ c, s.channel handle.toNat = some c → c.destroyed = false → Valid s Reg.chanDestroy handle.toNat → handle.toNat ≠ s.reg Reg.diagMapHandle → handle.toNat ≠ s.reg Reg.diagEvidenceHandle →
      referenced s handle.toNat = true →
      ∃ t, exec (.chanDestroy w handle) s = .next t ∧ t.usable handle.toNat = none ∧ (∀ x ∈ t.chans.live, x.slot = c.slot → x.waiting = true) ∧ t.chans.live.length = s.chans.live.length) ∧
    (∀ c, s.channel handle.toNat = some c → c.destroyed = false → Valid s Reg.chanDestroy handle.toNat → handle.toNat ≠ s.reg Reg.diagMapHandle → handle.toNat ≠ s.reg Reg.diagEvidenceHandle →
      referenced s handle.toNat = false → landing s handle.toNat = false →
      ∃ t, exec (.chanDestroy w handle) s = .next t ∧ t.channel handle.toNat = none ∧ (∀ x, x ∈ t.chans.live → x.slot ≠ c.slot) ∧
        (∀ x, x ∈ s.chans.live → x.slot ≠ c.slot → x ∈ t.chans.live) ∧ t.chans.slots = s.chans.slots ++ [c.slot])

/-- Writes of plain entries (R7, R304, R305, R306, R309). For a session with the key whose request is the next, and for the stock firmware: a write of its exact size to an RC entry is staged under the writer with its reserved bits 0, replacing an earlier staged value; a write to an RW entry of a value in range that no rule of the present state refuses stands at once with its reserved bits 0, stated for every entry but those whose write does more than that (the CAN, notification, event, Assayer and acquisition entries, the beam profile, scan.kc_relax_ms, lane.enable_mask, pwr.array_mask and lantern.on_bist_fail, most of which have statements of their own). Nothing else changes but what the answer and the host supervision change. -/
def Obligations.WritesOfEntries : Prop :=
  ∀ (w : Writer) (entry : EntryRef) (b : List Byte) (row : Row) (s : State), MayWrite w false s →
    let key := entryKey entry
    rowFor s key = some row → dictRow key = some row → b.length = row.size → b.length ≤ 50 → row.type ≠ .variable →
    (row.access = .rc → s.reg Reg.beamMode ≠ 1 → needsService s key (some b) = false →
      ∃ t, exec (.registerWrite w entry b) s = .next t ∧
        Wrote w (fun m => { m with kdp := { m.kdp with staged := m.kdp.staged.filter (fun x => x.key != key) ++ [⟨key, heldBits key (natLE b), writerSession w⟩] } }) [] s t) ∧
    (let v := heldBits key (natLE b)
     row.access = .rw → row.type ≠ .handle → row.inRange key v = true → crossRange s key v = true → writeRefused s (writerSession w) row key v = false → HeldOnly key →
      needsService s key (some b) = false → (∀ m ∈ s.modules, rowIn m.rows key = none) →
      ∃ t, exec (.registerWrite w entry b) s = .next t ∧ Wrote w (fun m => m.setReg key v) [] s t)

/-- The timebase and SYNC (R29, R86, R88, R89, R90). XIN_LOSS of a started device not yet in fallback turns to the RC oscillator with E125, and XIN_RESTORED ends the fallback. The leader's SYNC pulse ends 2 µs after its boundary. A locked follower without an edge for 1.5 frame periods is LOST with E39, one that stays in ACQUIRING for 100 frames raises E39 again. At an edge that follows the leader's last one by the programmed period to within 2 %, a follower in ACQUIRING whose error is the fourth within ±500 ns locks with E40, a locked one ignores two errors beyond a tenth of the frame period and is LOST with E39 at the third, where its trim stays; the wanted trim moves against the error within ±20,000 ppm. Nothing else changes. -/
def Obligations.TimebaseAndSync : Prop :=
  ∀ s : State,
    let x := s.scan.sync
    let u := setInput s 3 { inputOf s 3 with stuck := false }
    let e := phaseError u
    let follower : Prop := s.scan.running = true ∧ s.reg Reg.frameSyncMode = 2 ∧ s.power.vio = true
    (s.power.device ≠ 0 → s.power.fallback = false →
      ∃ t, exec .xinLoss s = .next t ∧ After { s with power := { s.power with xin := false, fallback := true } } [125] t) ∧
    (s.power.device ≠ 0 → exec .xinRestored s = .next { s with power := { s.power with xin := true, fallback := false } }) ∧
    (x.pin = true → exec .syncPulseEnd s = .next (setSync (s.atLeast (s.scan.frameStart + 2000)) { x with pin := false })) ∧
    (s.scan.running = true → x.state = 3 →
      ∃ t, exec .syncEdgeMissing s = .next t ∧ After (setSync (s.atLeast (x.lastEdge + frameNs s + frameNs s * 3 / 2)) { x with state := 4, ignored := 0, inBand := 0, wantPpm := x.trimPpm }) [39] t) ∧
    (s.scan.running = true → x.state = 2 →
      ∃ t, exec .syncAcquireTimeout s = .next t ∧
        After (setSync (s.atLeast (x.acquiring + 100 * frameNs s)) { x with acquiring := Nat.max s.now (x.acquiring + 100 * frameNs s) }) [39] t) ∧
    (follower → x.state = 2 → 3 ≤ x.inBand → e.natAbs ≤ 500 → (∃ t0, x.leaderEdge = some t0 ∧ ((s.reg Reg.scanScansPerFrame * s.reg Reg.scanPeriodUs * 1000 : Nat) - ((s.now - t0 : Nat) : Int)).natAbs * 50 ≤ s.now - t0) →
      ∃ t, exec .syncEdge s = .next t ∧
        After (setSync { u with free := s.free + 1 } { x with state := 3, phaseErr := e, wantPpm := (wantTrim u e).1, ignored := 0, lastEdge := s.now, leaderEdge := some s.now, inBand := x.inBand + 1 }) [40] t) ∧
    (follower → x.state = 3 → frameNs u < 10 * e.natAbs →
      (x.ignored < 2 → exec .syncEdge s = .next (setSync u { x with ignored := x.ignored + 1, leaderEdge := some s.now })) ∧
      (2 ≤ x.ignored → ∃ t, exec .syncEdge s = .next t ∧ After (setSync u { x with state := 4, ignored := 0, inBand := 0, wantPpm := x.trimPpm, leaderEdge := some s.now }) [39] t)) ∧
    (-20000 ≤ x.trimPpm → x.trimPpm ≤ 20000 →
      -20000 ≤ (wantTrim u e).1 ∧ (wantTrim u e).1 ≤ 20000 ∧ (0 < e → (wantTrim u e).1 ≤ x.trimPpm) ∧ (e < 0 → x.trimPpm ≤ (wantTrim u e).1))

/-- The scan boundary, the phase slot and the cluster swap (R63, R73, R88, R99, R160, R394, R446). A scan boundary of the running sequencer begins the next scan of the frame: its number and its count go up by one, its first slot is next, no engine waits for the budget period or has used a token of it, new trim codes stand, and the applied SYNC trim moves by at most 500 ppm; what waits for tokens or for room goes on then, and the events raised at the boundary are handled at its end. A phase slot moves every stagger group on by one position. The swap of a waiting group exchanges its latches and opens the isolation switches that waited for it. -/
def Obligations.ScansAndSlots : Prop :=
  ∀ (o : ScanObs) (p : SlotObs) (g : Fin 16) (again : List Nat) (echo : List EchoFault) (s : State), s.scan.running = true →
    (s.scan.scanInFrame < s.scan.scansThisFrame →
      let start := if s.scan.scanInFrame = 0 then s.scan.frameStart else s.scan.scanStart + scanNs s
      ∃ t u, exec (.scanBoundary o) s = .next u ∧ UpToEvents (goOn o t) u ∧ t.now = Nat.max s.now start ∧
        (t.chans.staging = [] → t.lanes.delivered = [] → t.lanes.readJob = none → t.tolls.owed = [] → t.kdp.moduleHeld = [] → t.pipe.clears = [] → t.pipe.writeback = none →
          (∀ q, q < 10 → qNext t q = none) → (∀ g, (adcGroup t g).buffer = []) → domainOn t 3 = false ∨ t.reg Reg.storeScrubTokens = 0 → goOn o t = t) ∧ t.scan.scanStart = start ∧ t.scan.slot = 0 ∧
        t.scan.scanInFrame = s.scan.scanInFrame + 1 ∧ t.scan.scanCount = s.scan.scanCount + 1 ∧ t.scan.groups = s.scan.groups ∧ t.cal.trim = s.cal.trimNext ∧
        (t.scan.sync.trimPpm - s.scan.sync.trimPpm).natAbs ≤ 500 ∧ ∀ e, e < 9 → (engOf t e).c7Used = 0 ∧ (engOf t e).stall ≠ .period) ∧
    (s.scan.slot < 16 → 0 < s.scan.scanInFrame →
      ∃ t, exec (.phaseSlot p) s = .next t ∧ t.now = Nat.max s.now (s.scan.scanStart + s.scan.slot * scanNs s / 16) ∧ t.latches = s.latches ∧
        t.scan = { s.scan with slot := s.scan.slot + 1, groups := Vector.ofFn (fun k =>
          advanceGroup s.scan.slot (s.reg Reg.scanPhaseOrder) (bits (s.reg Reg.scanStagger) (8 * k.val + 4) (8 * k.val)) (grpOf s k)), sweepLevel := t.scan.sweepLevel, pulses := t.scan.pulses }) ∧
    ((grpOf s g).swapPending = true →
      ∃ t, exec (.clusterSwap g again echo) s = .next t ∧ t.commits = s.commits ∧
        t.scan = { s.scan with groups := vset s.scan.groups g { grpOf s g with front := !(grpOf s g).front, swapPending := false } } ∧
        ∀ q, q ∈ s.latches.isolateNext → pixelGroup q = g.val → q ∈ t.latches.isolated)

/-- The frame boundary and its points (R13, R72, R73, R78, R81, R82, R84, R120). A frame boundary raises E32 and counts the frame. Where, with the scan that ends judged, the swap is not ready, the frames, the latches and the pending commit stay and the pending commit is deferred (stated where no late commit joins the frame); where it is ready, in LIT without the Lantern beam, every stagger group is to swap and no commit is left pending. A commit applied sets its values, shows its tag and raises E34. TE_OUT rises with E33 after a swap; the window closes and TE_OUT falls at tW; the admission point passes once in a frame. -/
def Obligations.FrameBoundary : Prop :=
  ∀ s : State,
    (s.scan.running = true → s.pipe.clears = [] → (∀ n, n < 8 → vget s.commits.held none n = none) → (∀ x ∈ s.chans.sets, x.held = false) →
      let b := atBoundary { s with events := { s.events with gathering := some [] } }
      ∃ t, exec .frameBoundary s = .next t ∧ t.now = Nat.max s.now (nextBoundary s) ∧ t.scan.frameStart = nextBoundary s ∧ t.scan.scanInFrame = 0 ∧
        t.scan.windowClosed = false ∧ t.scan.admissionPassed = false ∧
        (swapReady b = false → s.commits.late = none ∨ s.commits.pending ≠ none → t.scan.swapped = false ∧ t.scan.frameCount = (s.scan.frameCount + 1) % 4294967296 ∧ t.scan.groups = s.scan.groups ∧
          t.latches.a = s.latches.a ∧ t.latches.b = s.latches.b ∧ t.commits = { s.commits with deferred := s.commits.pending.isSome } ∧ Raised 32 s t) ∧
        (swapReady b = true → b.lantern.state = 0 → s.power.device = 4 → s.commits.late = none →
          t.scan.swapped = true ∧ t.scan.frameCount = (s.scan.frameCount + 1) % 4294967296 ∧ (∀ g, g < 16 → (grpOf t g).swapPending = true) ∧ t.commits.pending = none)) ∧
    (∀ c, s.commits.pending = some c → (∀ n, n < 8 → vget s.commits.updates none n = none) → s.modules = [] →
      After { setValues s c.values with commits := { s.commits with pending := none, deferred := false, appliedTag := c.tag } } [34] (applyCommit s)) ∧
    (s.scan.running = true → s.scan.swapped = true → s.scan.teOut = false → s.scan.windowClosed = false →
      ∃ t, exec .teOutRise s = .next t ∧
        After (let m := s.atLeast (s.scan.frameStart + s.scan.teDelayUs * 1000); { m with scan := { m.scan with teOut := true } }) [33] t) ∧
    (s.scan.running = true → s.scan.windowClosed = false →
      exec .commitWindowClose s = .next (let m := s.atLeast (nextBoundary s - s.scan.windowUs * 1000); { m with scan := { m.scan with windowClosed := true, teOut := false } })) ∧
    (s.scan.running = true → s.scan.admissionPassed = false →
      ∃ t, exec .admissionPoint s = .next t ∧ t.now = Nat.max s.now (nextBoundary s - frameNs s / 2) ∧ t.scan = { s.scan with admissionPassed := true } ∧
        t.regs = s.regs ∧ t.commits = s.commits)

/-- Evidence and rounds of the Lamplighter, and the notices of the fault policy (R145, R147, R150, R151, R156, R159, R169, R509). A sample that counts, with its tokens of C5 in hand, leaves the evidence word of its pixel or sink with the class under test, FAILS and TAKEN, and clears it where TAKEN reaches N below M; where FAILS reaches M the fault is confirmed: the word is cleared, the code of a pixel, or of the pixels of a sink that no isolated code holds, is in the fault map, every other code stays, an isolated pixel is isolated or waits for it, and E48 or E49 is raised. With its tokens of C5 in hand and nothing of the pixel store poisoned, each scan of a round of 4P scans rewrites the codes 0x0 to 0x2 in the next ceil(8,192 / 4P) blocks of the fault map from the samples, the other codes and blocks stay, and the scan that ends the map counts the three codes; in the last scan of a listening round the lit pixels without a vote are counted and the round begins anew; when its probe scans have passed the mass guard is armed. The stock fault policy takes a notice of a pixel fault from Q6, names the pixel in the fault list of the Ledger and records it. -/
def Obligations.LampRounds : Prop :=
  ∀ s : State,
    let p := probeP s
    (∀ (x : Sample) (c e : Channel) (cls fails taken : Nat) (subth : Bool), faultMap s = some c → evidenceMap s = some e → s.store.poison = [] → MapsApart s c e →
      x.unit < (if x.sink then 65536 else 1048576) → SampleCounts s x cls fails taken subth → cls < 16 → fails < 16 → taken < 16 → 2 ≤ tokensLeft s 5 →
      let m := s.reg (Reg.diagConfirm (confirmIndex cls subth))
      let t := recordSample s x
      (fails < m / 16 → evGet t x.sink x.unit = (if m % 16 ≤ taken then 0 else cls * 4096 + fails * 256 + taken * 16 + (if subth then 8 else 0)) ∧
        ∀ q, q < 1048576 → pixelCode t q = pixelCode s q) ∧
      (m / 16 ≤ fails → evGet t x.sink x.unit = 0 ∧
        (x.sink = false →
          let code := if cls = 12 ∧ s.flag Reg.diagBlueLeakIsolate = false then 6 else cls
          Raised 48 s t ∧ (∀ q, q < 1048576 → pixelCode t q = if q = x.unit then code else pixelCode s q) ∧
          (codeIsolated code = true → x.unit ∈ t.latches.isolated ∨ x.unit ∈ t.latches.isolateWait)) ∧
        (x.sink = true → Raised 49 s t ∧
          ∀ q, q < 1048576 → pixelCode t q = if pixelSink q = x.unit ∧ (pixelCode s q < 7 ∨ pixelCode s q = 13) then cls else pixelCode s q))) ∧
    (s.lamp.disarmed = 1 → exec .massGuardRearm s = .next { s with lamp := { s.lamp with disarmed := 0 } }) ∧
    (s.scan.running = true → 0 < p → scanN s % (64 * p) = 64 * p - 1 →
      let n := (frontWords s).countP (fun e => !s.lamp.listened.contains e.1)
      exec .listenRoundEnd s = .next { s.setReg Reg.diagListenUncovered n with lamp := { s.lamp with listened := [], uncovered := n } }) ∧
    (∀ c, faultMap s = some c → s.scan.running = true → s.lamp.enabled = true → 0 < p → s.store.poison = [] → s.tolls.part = [] →
      (∀ a b, a < 524288 → b < 524288 → c.addr a = c.addr b → a = b) →
      let b0 := s.lamp.covDone
      let b1 := Nat.min 8192 ((scanN s % (4 * p) + 1) * ((8192 + 4 * p - 1) / (4 * p)))
      b0 ≤ b1 → 2 * (b1 - b0) ≤ tokensLeft s 5 →
      ∃ t, exec .coverageRewrite s = .next t ∧ t.lamp = { s.lamp with covDone := b1 } ∧ t.latches = s.latches ∧ t.scan = s.scan ∧
        (b0 < 8192 → b1 = 8192 →
          t.reg (Reg.diagCovCount 0) = (coverageCounts t c).1 ∧ t.reg (Reg.diagCovCount 1) = (coverageCounts t c).2.1 ∧ t.reg (Reg.diagCovCount 2) = (coverageCounts t c).2.2) ∧
        ∀ k i, k < 4096 → i < 256 → faultCode t k i =
          if b0 ≤ 2 * k + i / 128 ∧ 2 * k + i / 128 < b1 ∧ faultCode s k i < 3 then coverageCode s (tilePixelIndex k i) else faultCode s k i) ∧
    (∀ e m, firmwareRuns s 3 = true → qTake s 6 = (some e, m) → s.lamp.noticeBuf = [] → field e 0 2 = 0x0601 → field e 11 1 < 16 → s.reg Reg.diagNoticeLost = s.lamp.lostSeen →
      (∃ i, i < 8192 ∧ s.mram.ledger.faults.lookup i = none) →
      ∃ t, exec (.faultNotice []) s = .next t ∧ (∃ x ∈ t.mram.ledger.faults, faultNames false (field e 8 3) x = true) ∧
        t.queues = m.queues ∧ t.scan = s.scan ∧ t.latches = s.latches ∧ t.store = m.store)

/-- Composition, drive pipeline, latch loader and writeback (R75, R104, R105, R107, R109, R110, R111, R116, R131, R178, R179, R199). With its domains ON, its tokens in hand and sound inputs, a unit completes a tile: a composed tile, where no layer is glazed, holds at each pixel the background with the drawn layers blended onto it from the bottom, each where its footprint covers the pixel by its samples, gain and operation, rounded once a layer and saturated; with its new CRC-32C, and the drive pipeline is told; a drive tile holds the words of the drive computation and their CRC-32C, and the latch loader is told; the back latches of a loaded tile hold its drive words, with 0x0000 in a half held dark and at isolated pixels, and the front latches stay. The position of a scaled layer is the exact one to within 1/512, held in the window. The drive computation of a tile without twins: 0x0000 for a failed pixel; for every other one the correction, the chroma factor of its blend cell, the offers of its failed neighbours up to its headroom, the field residual, and the word of the demand. A writeback whose 65,536 accesses are paid completes: it stands with its frame and raises E69. -/
def Obligations.PipelineTiles : Prop :=
  ∀ (k : Fin 4096) (o : TileObs) (s : State), o.ecc = [] → o.transient = [] → s.tolls.part = [] → domainOn s 3 = true →
    (s.pipe.composeDirty.getLsbD k = true → glazeSpan s (frameCfg s) = 0 →
      let ls := drawn s (frameCfg s)
      let src := sourceTiles s (s.reg Reg.compOrientation) ls k
      (∀ q ∈ src, tileSound s (.surface q.2.1 q.2.2 (shownSlot s q.2.1 q.2.2)) = true) → sourceTokens src + 8 ≤ tokensLeft s 1 →
      ∃ t, exec (.composeTileDone k o) s = .next t ∧ tileCheck t (composedNow t k) = crc32c (tileData t (composedNow t k)) ∧ t.pipe.composed.getLsbD k = true ∧
        t.pipe.composeDirty.getLsbD k = false ∧ t.pipe.driveDirty.getLsbD k = true ∧ tokensLeft t 1 = tokensLeft s 1 - (sourceTokens src + 8) ∧ t.latches = s.latches ∧ t.regs = s.regs ∧
        ∀ i, i < 256 →
          let x := k.val % 128 * 16 + i % 16
          let y := k.val / 128 * 16 + i / 16
          let u := if s.reg Reg.compOrientation % 2 = 1 then 2047 - x else x
          let v := if s.reg Reg.compOrientation / 2 = 1 then 511 - y else y
          field (tileData t (composedNow t k)) (2 * i) 2 = ls.foldl (fun d l =>
            let a := (u : Int) - l.2.posU
            let b := (v : Int) - l.2.posV
            match s.channel l.2.handle with
            | some ch => if 0 ≤ a ∧ a < l.2.dstW ∧ 0 ≤ b ∧ b < l.2.dstH then
                layerOver l.2.blend l.2.gain (layerValue s ch l.2 a.toNat b.toNat).1 (layerValue s ch l.2 a.toNat b.toNat).2 d else d
            | none => d) (frameCfg s Reg.compBackground) % 65536) ∧
    (∀ src n m i : Nat, 0 < n → i < m →
      let e : Rat := src + ((i : Rat) + 1 / 2) * n / m - 1 / 2
      let c : Rat := if e < src then src else if (src + n - 1 : Nat) < e then (src + n - 1 : Nat) else e
      let p := scalePos src n m i
      src ≤ p.1 ∧ p.1 < src + n ∧ p.2 < 256 ∧ (p.1 + 1 = src + n → p.2 = 0) ∧ (p.1 : Rat) + (p.2 : Rat) / 256 - 1 / 512 ≤ c ∧ c ≤ (p.1 : Rat) + (p.2 : Rat) / 256 + 1 / 512) ∧
    (domainOn s 4 = true → s.cal.mirrorReady = true → s.pipe.driveDirty.getLsbD k = true → s.pipe.composeDirty.getLsbD k = false → ringTiles s k = [] → 34 ≤ tokensLeft s 3 →
      tileSound s (composedNow s k) = true → tileSound s (.mirror k) = true → s.store.poison = [] → 0 < qEntries s 5 → qEntries s 5 ≤ 2048 →
      let d := halfBytes (computeTile s k (halves (tileData s (composedNow s k))) (fun _ => 0)).words
      ∃ t, exec (.driveTileDone k o) s = .next t ∧ tileData t (driveNow t k) = d ∧ tileCheck t (driveNow t k) = crc32c d ∧
        t.pipe.driven.getLsbD k = true ∧ t.pipe.driveDirty.getLsbD k = false ∧ t.pipe.loadDirty.getLsbD k = true ∧ t.latches = s.latches) ∧
    (∀ (lum : List Nat) (ring : Nat → Rat), (∀ l ∈ lum, l < 65536) → (∀ p, 0 ≤ ring p ∧ ring p ≤ 1) → twinSinks s = [] →
      let get := frameCfg s
      let f := tileField k
      let tB : Rat := match bandOf s f with | 0 => -25 | 1 => 40 | 2 => 72 | 3 => 105 | _ => 130
      let ρ := nearest 15 (vget s.refs.rhoNext 1 f)
      let Y (i : Nat) : Rat := (lum.getD i 0 : Rat) / 65536
      let C (i : Nat) : Rat :=
        let w := calWord s k i
        let τ : Rat := 1 + (toInt 16 (get Reg.driveTempco / 65536 ^ (w / 256 % 16) % 65536) : Rat) * (tB - 40) / 1048576
        nearest 22 ((w / 1048576 % 4096 : Nat) / 2048 * (1 + (w / 4096 % 256 : Nat) / 512) * (if τ < 3 / 4 then 3 / 4 else if 5 / 4 < τ then 5 / 4 else τ))
      let P (i : Nat) : Rat := nearest 22 (Y i * C i)
      let weight (i : Nat) : Rat := (get Reg.driveChromaWeight / 65536 ^ (calWord s k i / 32 % 8) % 65536 : Nat) / 32768
      let y (p : Nat) : Rat := if pixelTile p = k.val then Y (pixelPlace p) else ring p
      1 / 2 ≤ ρ → ρ ≤ 3 / 2 →
      ∀ i, i < 256 → (failedAt s k i = true → (computeTile s k lum ring).words.getD i 0 = 0) ∧
        (failedAt s k i = false → ∃ β : Rat,
          (let x := i % 16 / 2 * 2
           let z := i / 16 / 2 * 2
           let cell := [z * 16 + x, z * 16 + x + 1, (z + 1) * 16 + x, (z + 1) * 16 + x + 1].filter (fun j => !failedAt s k j)
           let S := (cell.map P).sum
           let Sw := (cell.map (fun j => weight j * P j)).sum
           let shifts := get Reg.driveChromaEnable ≠ 0 ∧ 2 ≤ cell.length ∧ Sw ≠ 0 ∧ ∀ a ∈ cell, ∀ b ∈ cell, 7 * P a ≤ 8 * P b
           (shifts → β = nearest 15 (clampQ (88 / 100) (112 / 100) (weight i * S / Sw))) ∧ (¬ shifts → β = 1)) ∧
          let room := 4095 / 4096 / ρ - P i * β
          let offer := if get Reg.driveCompEnable ≠ 0 ∧ domainOn s (fieldDomain f) = true then offered s k y (tilePixelIndex k i) * C i else 0
          let E := nearest 22 (if offer ≤ room then offer else if 0 < room then room else 0)
          let d := (P i * β + E) * ρ
          let lsb : Rat := ((targetTiming s).1 / 16 - (targetTiming s).2 - 20) / 1024
          let least := if get Reg.drivePolicy = 1 then get Reg.driveDiagMinClass else 0
          (computeTile s k lum ring).words.getD i 0 =
            wordOf (fun a => get (Reg.driveClassLadder (bandOf s f)) / 65536 ^ a % 65536) least (160 / lsb).ceil.toNat (if 4095 / 4096 < d then 4095 / 4096 else nearest 22 d))) ∧
    (domainOn s 4 = true → loadableTile s k = true → allSwapped s = true → s.pipe.loadDirty.getLsbD k = true ∨ s.pipe.reload.getLsbD k = true →
      s.pipe.driveDirty.getLsbD k = false → s.pipe.composeDirty.getLsbD k = false → s.lantern.state = 0 ∨ s.lantern.release = true → 8 ≤ tokensLeft s 4 → tileSound s (driveNow s k) = true →
      ∃ t, exec (.latchLoadTileDone k o []) s = .next t ∧ t.pipe.loadDirty.getLsbD k = false ∧ t.pipe.reload.getLsbD k = false ∧ (∀ p, latchGet t true p = latchGet s true p) ∧
        ∀ i, i < 256 → latchGet t false (tilePixelIndex k i) =
          if bitAt s.power.darkBack (tileField k / 16) || codeIsolated (faultCode s k i) then 0 else field (tileData s (driveNow s k)) (2 * i) 2) ∧
    (∀ h src frame c, s.pipe.writeback = some (h, src, frame) → s.channel h = some c → 65536 ≤ s.pipe.wbPaid + tokensLeft s 7 →
      ∃ t, exec (.writebackDone o) s = .next t ∧ t.pipe.writeback = none ∧ t.reg Reg.compWbFrame = frame ∧
        t.reg Reg.compWbMode = (if s.reg Reg.compWbMode = 1 then 0 else s.reg Reg.compWbMode) ∧ Raised 69 s t)

/-- Commit requests (R77, R78, R82, R322, R323, R332). A commit request takes the staged values, whatever becomes of it. Refused, it raises E36, stores its reason and leaves the pending and the late commit and the accepted tag alone; accepted after the window it waits for the boundary after the next with E35 and is counted; accepted in time it targets the next boundary. A write of commit.request and the service COMMIT are answered with status 0 or 9 and the reason, COMMIT with flags and target too; DISCARD_STAGED drops the untaken staged writes of its session. -/
def Obligations.CommitRequests : Prop :=
  ∀ (h : Hdr) (tag : Byte) (s : State),
    let r := requestCommit s tag.toNat []
    (r.2.kdp.staged = [] ∧
      (r.1.reason ≠ 0 → Raised 36 s r.2 ∧ r.2.commits = { s.commits with reason := r.1.reason } ∧ r.2.scan = s.scan ∧ r.2.chans = s.chans) ∧
      (r.1.reason = 0 → isLate s = true → r.1.late = true ∧ r.1.target = (s.scan.frameCount + 2) % 4294967296 ∧ Raised 35 s r.2 ∧
        r.2.commits.late.isSome = true ∧ r.2.commits.acceptedTag = tag.toNat ∧ r.2.commits.pending = s.commits.pending ∧ r.2.commits.updates = s.commits.updates ∧
        r.2.reg Reg.commitLateCount = (s.reg Reg.commitLateCount + 1) % 4294967296 ∧ r.2.chans = { s.chans with loose := [] } ∧ r.2.pipe = s.pipe) ∧
      (r.1.reason = 0 → isLate s = false → r.1.late = false ∧ r.1.target = (s.scan.frameCount + 1) % 4294967296 ∧
        r.2.commits.pending.isSome = true ∧ r.2.commits.acceptedTag = tag.toNat ∧ r.2.commits.late = s.commits.late)) ∧
    (NextRequest h s → HoldsKey h s → bootedSlot s ≠ none →
      let u := served s h.session.toNat
      let a := (commitFor u tag.toNat []).1
      let m := (commitFor u tag.toNat []).2
      let status := if a.reason = 0 then 0 else 9
      exec (.commitRequest (.host h) tag) s = .next (answerTo h 2 Reg.commitRequest status (if a.reason = 0 then [] else bytesLE 1 a.reason) m) ∧
      exec (.commit h tag) s = .next (answerTo h 4 0 status (bytesLE 1 a.reason ++ bytesLE 1 (b2n a.late + 2 * b2n a.merged) ++ bytesLE 2 0 ++ bytesLE 4 a.target) m)) ∧
    (MayWrite .firmware false s → exec (.commitRequest .firmware tag) s = .next (commitFor s tag.toNat []).2) ∧
    (NextRequest h s → ∃ t, exec (.discardStaged h) s = .next t ∧
      Answered { s with kdp := { s.kdp with staged := s.kdp.staged.filter (fun x => x.session != h.session.toNat) },
                        host := (served s h.session.toNat).host } [] t)

/-- Training of the lanes and link-up (R211, R212, R215, R216, R217, R218, R227, R248, R249). Each training event on a lane in the stage that it ends moves that lane on and nothing else: bit lock with sound terminations, the fourth sequence of one polarity, the end of the equaliser sweep at the setting with the highest EMI where that is enough, the last sequence of identity (or MISWIRED with E90 where the link number differs), alignment, the next rung after 50 ms with a sequence sent at once, the eye monitor with the lesser of its openings. A sequence takes the partner's fields over, raises the preset asked of a partner with too small an EMI by one in 1 ms, and is followed by the lane's own. 10 ms after the first identity the lanes that have identity are ACTIVE, and with enough of them the link is up with E85 and its initial credits. Without comma lock on any lane for 200 ms E87 is raised. -/
def Obligations.LaneTraining : Prop :=
  ∀ (k : Fin 4) (net0 net1 : Nat) (ts : TrainSeq) (a : AdaptObs) (eye : EyeObs) (s : State),
    let x := laneAt s k
    let done := bitAt ts.flags 0 && bitAt ts.flags 1
    let more := !ts.b && decide (ts.emi < x.emiMin) && decide (x.emiMin ≤ x.emi) && decide (x.presetAsk < 7) && decide (x.askAt + 1000000 ≤ s.now)
    let y := { x with partnerLane := ts.lane, partnerLink := ts.link, partnerEmi := ts.emi, partnerDone := x.partnerDone || done,
                      presetAsk := if more then x.presetAsk + 1 else x.presetAsk, askAt := if more then s.now else x.askAt }
    let sent (m : State) : State := setLane m k { laneAt m k with sentTs := sentSequence (laneAt m k) k }
    let emi (e : Nat × Nat) : Nat := Nat.min (Nat.min e.1 e.2) 255
    let taps (d : List Int) : Prop := d.length = 3 ∧ ∀ i, i < 3 → (d.getD i 0).natAbs ≤ [80, 40, 20].getD i 0
    (x.state = 1 → x.bitLock = false → 900 ≤ net0 → net0 ≤ 1100 → 900 ≤ net1 → net1 ≤ 1100 → bits s.cal.termDropped (2 * k + 1) (2 * k) ≠ 3 →
      exec (.laneBitLock k net0 net1) s = .next (setLane s k { x with bitLock := true, tsSeen := 0 })) ∧
    (ts.rung = x.rung → crc8 (trainBody ts) = ts.tchk →
      (x.state = 1 → x.bitLock = true → ts.inverted = x.inverted → 3 ≤ x.tsSeen →
        exec (.trainingSequence k ts) s = .next (sent (setLane { s with lanes := { s.lanes with locked := true } } k
          { y with state := 2, commaLock := true, tsSeen := 0, preset := ts.preset % 8, askAt := s.now }))) ∧
      (x.state = 3 → ts.b = true → y.partnerDone = true → 7 ≤ x.tsSeen → 15 ≤ x.tsbSent → s.lanes.firstIdentity ≠ none → ts.link = s.lanes.linkId →
        exec (.trainingSequence k ts) s = .next (sent (setLane s k { y with state := 4, tsSeen := 0, tsbSent := 0, rejoining := s.lanes.linkState == 2 }))) ∧
      (x.state = 3 → s.lanes.firstIdentity ≠ none → ts.link ≠ s.lanes.linkId →
        ∃ v, exec (.trainingSequence k ts) s = .next (sent v) ∧ After (setLane s k { y with state := 6 }) [90] v)) ∧
    (x.state = 2 → ∀ i e, i < 16 → a.sweep[i]? = some e → (∀ j f, j < i → a.sweep[j]? = some f → emi f < emi e) →
      (∀ j f, j < 16 → a.sweep[j]? = some f → emi f ≤ emi e) → x.emiMin ≤ emi e →
      ∃ d, taps d ∧ exec (.laneAdaptDone k a) s = .next (setLane s k { x with ctleDb := i, dfe := d, emi := emi e, state := 3, adaptDone := true, tsSeen := 0, tsbSent := 0 })) ∧
    (x.state = 4 → x.rejoining = false → s.lanes.linkState = 2 ∨ s.lanes.waited = false →
      exec (.laneDeskewDone k) s = .next (setLane s k { x with state := 5, txLseq := 0, rxLseq := 0, nakSent := false, retry := [] })) ∧
    (1 ≤ x.state → x.state ≤ 3 → s.lanes.rate = 0xFF →
      let m := s.atLeast (x.rungStart + 50000000)
      exec (.rungTimeout k) s = .next (sent (setLane m k { State.laneReset with
        state := 1, rung := (if x.rung = 4 then s.reg Reg.laneRateMax else x.rung + 1), rungStart := m.now, linkId := s.reg Reg.laneLinkId
        emiMin := s.reg Reg.laneEmiMin, emiDrop := s.reg Reg.laneEmiDrop, minLanes := s.reg Reg.laneMinLanes }))) ∧
    (2 ≤ x.state → ∃ d, (if x.state = 5 then taps d else d = x.dfe) ∧
      exec (.emiUpdate k eye) s = .next (setLane s k { x with emi := emi (eye.h, eye.v), dfe := d, emiLow := if x.state = 5 ∧ emi (eye.h, eye.v) < x.emiDrop then (match x.emiLow with | some t => some t | none => some s.now) else none })) ∧
    (∀ t0, s.lanes.firstIdentity = some t0 → s.lanes.linkState ≠ 2 → s.lanes.waited = false →
      ∃ t, exec .linkUpWaitEnd s = .next t ∧ t.lanes.waited = true ∧ (∀ j, j < 4 → (laneAt s j).state = 4 → (laneAt t j).state = 5) ∧
        (s.lanes.minLanes ≤ ((List.range 4).filter (fun j => (laneAt s j).state == 4 || (laneAt s j).state == 5)).length →
          t.lanes.linkState = 2 ∧ t.lanes.hostBulk = 1024 ∧ t.lanes.hostCtl = 32 ∧ Raised 85 s t)) ∧
    (domainOn s 2 = true → s.lanes.linkState ≠ 2 → s.lanes.absent = false → s.lanes.locked = false →
      ∃ t, exec .partnerAbsent s = .next t ∧ After (let m := s.atLeast (s.lanes.noLockSince + 200000000); { m with lanes := { m.lanes with absent := true } }) [87] t)

/-- Lull sets, link packets, control packets and lost lanes (R209, R210, R219, R221, R222, R223, R228, R242, R243, R245). A Lull set goes out on every lane with comma lock under one count; that of a rejoining lane that has sent and received enough TS-B carries ROJ. One received is checked by its count, and the elastic buffer deletes or inserts a symbol. A sound link packet in order is acknowledged and its payload joins the packet of its pool; another one is NAKed once, and one ended by VOID does nothing. ACK frees what it acknowledges, NAK and 16 µs without either resend with a fourth of the resends left, CREDIT sets what the host has granted. A lane that is lost (for a cause that holds, by its eye, by the host's DROP) raises E80 to E83 and is counted, and trains again where it is enabled; a rejoining lane whose second direction joins is ACTIVE with E84. -/
def Obligations.LaneTraffic : Prop :=
  ∀ (k : Fin 4) (cause : Fin 6) (lull : LullObs) (b : List Byte) (s : State),
    let x := laneAt s k
    let soc : List LaneSymbol := .ctl .soc :: b.map .data ++ [.ctl .eop]
    let sol (e : CtlSymbol) : List LaneSymbol := .ctl .sol :: b.map .data ++ [.ctl e]
    let lost (i : Instr) (j : Nat) : Prop := ∃ t, exec i s = .next t ∧ (laneAt t j).state = (if laneEnabled s j = true then 1 else 0) ∧ Raised (80 + j) s t ∧
      t.reg (Reg.laneLostCount j) = (s.reg (Reg.laneLostCount j) + 1) % 4294967296
    let resent (i : Nat) (m : State) : State :=
      let again := (x.retry.drop i).map (fun r => { r with resent := r.resent + 1, sentAt := m.now })
      let m1 := setLane m k { x with retry := x.retry.take i ++ again }
      ({ m1 with lanes := { m1.lanes with wire := m1.lanes.wire ++ again.map (fun (r : Retry) => (k.val, framed .sol r.bytes)) } }).setReg
        (Reg.laneReplayCount k) ((s.reg (Reg.laneReplayCount k) + again.length) % 4294967296)
    let ks := (List.range 4).filter (fun j => (laneAt s j).commaLock)
    let n := (s.lanes.lcnt + 1) % 256
    let lulls (second : CtlSymbol) : List LaneSymbol := [.ctl .hsp, .ctl second, .ctl .lul, .data (BitVec.ofNat 8 n)]
    let idle : Prop := s.lanes.txWait = [] ∧ s.lanes.resend = [] ∧ (transOf s 3).txHeld = []
    (ks ≠ [] → (∀ j, j < 4 → joins s j = false) → exec .lullSetSend s = .next { s with lanes := { s.lanes with
      lcnt := n, lanes := s.lanes.lanes.map (fun l => if l.commaLock then { l with lcntTx := n } else l), wire := s.lanes.wire ++ ks.map (fun j => (j, lulls .lul)) } }) ∧
    (x.commaLock = true → x.state = 4 → x.rejoining = true → x.txJoined = false → x.rxJoined = false → 16 ≤ x.tsbSent → 8 ≤ x.tsSeen → s.lanes.linkState = 2 →
      ∃ t, exec .lullSetSend s = .next t ∧ (laneAt t k).txJoined = true ∧ (laneAt t k).state = 4 ∧ (k.val, lulls .roj) ∈ t.lanes.wire) ∧
    (x.commaLock = true → ∀ m, x.lcntRx = some m →
      let fill : Int := x.elastic + lull.drift
      0 < fill → fill < 16 →
      (lull.lcnt % 256 = (m + 1) % 256 → exec (.lullSetReceived k lull) s = .next (setLane s k { x with
        lcntRx := some (lull.lcnt % 256), lullAt := s.now, elastic := (if 10 < fill then fill - 1 else if fill < 6 then fill + 1 else fill).toNat })) ∧
      (lull.lcnt % 256 ≠ (m + 1) % 256 → x.state ≠ 5 ∨ x.errAt.length < 8 → ∃ t, exec (.lullSetReceived k lull) s = .next t ∧
        t.reg (Reg.laneCodeErrors k) = (s.reg (Reg.laneCodeErrors k) + 1) % 4294967296 ∧ (laneAt t k).lcntRx = some (lull.lcnt % 256) ∧ (laneAt t k).state = x.state)) ∧
    (x.state = 5 → s.lanes.linkState = 2 →
      (packetSound s b = true → field b 0 2 % 4096 = x.rxLseq → field b 2 2 = s.lanes.rxSseq → s.lanes.ahead = [] → (∀ d ∈ s.lanes.delivered, d.called = none) → field b 6 1 % 8 = 0 →
        let m := emitWire (setLane s k { x with rxLseq := (x.rxLseq + 1) % 4096, nakSent := false }) k (framed .soc (controlPacket 1 0 k (field b 0 2 % 4096)))
        exec (.linkPacket k (sol .eop)) s = .next { m with lanes := { m.lanes with rxSseq := (s.lanes.rxSseq + 1) % 65536, bulkPart := s.lanes.bulkPart ++ slice b 8 (field b 4 2), bulkCount := s.lanes.bulkCount + 1 } }) ∧
      (packetSound s b = false ∨ field b 0 2 % 4096 ≠ x.rxLseq → x.nakSent = false →
        exec (.linkPacket k (sol .eop)) s = .next (emitWire (setLane s k { x with nakSent := true }) k (framed .soc (controlPacket 2 0 k x.rxLseq)))) ∧
      exec (.linkPacket k (sol .void)) s = .next s) ∧
    (x.state = 5 → idle →
      (controlOk 1 b = true → field b 1 1 % 4 = k.val → ∀ i, x.retry.findIdx? (fun r => r.lseq == field b 2 2 % 4096) = some i →
        exec (.ack k soc) s = .next (setLane s k { x with retry := x.retry.drop (i + 1) })) ∧
      (controlOk 3 b = true → s.lanes.linkState = 2 →
        exec (.credit k soc) s = .next { s with lanes := if bitAt (field b 1 1) 7 then { s.lanes with grantCtl := field b 2 2 } else { s.lanes with grantBulk := field b 2 2 } })) ∧
    (x.state = 5 → (∀ r ∈ x.retry, r.resent < 4) →
      (controlOk 2 b = true → field b 1 1 % 4 = k.val → ∀ i, x.retry.findIdx? (fun r => r.lseq == field b 2 2 % 4096) = some i →
        exec (.nak k soc) s = .next (resent i s)) ∧
      (∀ r l, x.retry = r :: l → exec (.replayTimeout k) s = .next (resent 0 (s.atLeast (r.sentAt + 16000))))) ∧
    (x.state = 5 → ((cause = 4 → x.emiLow ≠ none) → (cause = 5 → ∃ r ∈ x.retry, 4 ≤ r.resent) → lost (.laneLost k cause) k) ∧
      (x.emiLow ≠ none → lost (.laneEmiDrop k) k) ∧
      (controlOk 4 b = true → field b 1 1 % 4 ≠ k.val → (laneAt s (field b 1 1 % 4)).state = 5 → lost (.drop k soc) (field b 1 1 % 4))) ∧
    (x.state = 4 → x.rejoining = true → x.rxJoined = false → s.lanes.linkState = 2 →
      (x.txJoined = true → ∃ t, exec (.laneRejoin k lull) s = .next t ∧ (laneAt t k).state = 5 ∧ (laneAt t k).rejoining = false ∧ Raised 84 s t) ∧
      (x.txJoined = false → ∃ t, exec (.laneRejoin k lull) s = .next t ∧ (laneAt t k).state = 4 ∧ (laneAt t k).rxJoined = true ∧ (laneAt t k).rxLseq = 0))

/-- Transaction packets of the lanes (R183, R230, R232, R233, R235, R236, R238, R239, R240, R340). A packet in its turn, with nothing staged, no readback in progress and no other packet waiting, takes effect where its TCRC passes, and its credits are returned: a REGION that nothing refuses is staged, one that is refused is answered, and one with a failing TCRC raises E89 and is answered; a stale handle raises E68 and is answered with 0x04 by every type that uses one, and a channel that is no SURFACE with 0x05 by REGION and SET_CLOSE; a SET_CLOSE opens its set with its close record; a SET_COMMIT is host activity, writes layer.flip_set of the lowest slot bound to the handle, or brings the flip in its snapshot where none is, requests its commit and answers with its reason; with SET 0 it is a commit request alone, whatever the handle; a READBACK_REQ for whose blocks and side records C0 has the tokens returns the data read; a KDP packet goes to a receive buffer with its entry, and the service looks at its queues. The staged region, once its tiles are free, Q9 has space and C0 has its tokens, lands: its tiles are loose, Q9 holds one more entry and staging is empty. -/
def Obligations.LanePackets : Prop :=
  ∀ (p : List Byte) (o : TileObs) (n : Nat) (s : State), linkServes s = true →
    let h := field p 8 4
    let u := { s with lanes := { s.lanes with delivered := [] } }
    (s.lanes.delivered = [⟨false, n, p, none⟩] → s.chans.staging = [] → s.lanes.readJob = none → packetUnknown false p = false →
      (tcrcOk p = false → field p 0 1 = 1 → ∃ v, exec (.region p) s = .next (returnCredits v false n) ∧ Answered u [89] v) ∧
      (tcrcOk p = true → s.usable h = none → field p 0 1 = 1 ∨ field p 0 1 = 2 ∨ (field p 0 1 = 3 ∧ field p 12 1 ≠ 0) ∨ field p 0 1 = 5 →
        ∀ i, (i = .region p ∨ i = .setClose p ∨ i = .setCommit p ∨ (i = .readbackReq p o ∧ o = ⟨[], []⟩)) →
          ∃ v, After (u.setReg Reg.chanStaleCount ((s.reg Reg.chanStaleCount + 1) % 4294967296)) [68] v ∧ exec i s = .next (returnCredits (sendStatus v p h 4 0) false n)) ∧
      (tcrcOk p = true → ∀ c, s.usable h = some c → c.type ≠ 1 → field p 0 1 = 1 ∨ field p 0 1 = 2 →
        exec (.region p) s = .next (returnCredits (sendStatus u p h 5 c.type) false n) ∧ exec (.setClose p) s = exec (.region p) s) ∧
      (tcrcOk p = true → field p 0 1 = 3 → field p 12 1 = 0 →
        let r := commitFor (hostActive u) (field p 13 1) []
        exec (.setCommit p) s = .next (servePool true 1 (returnCredits (sendStatus r.2 p h (if r.1.reason = 0 then 0 else 9) r.1.reason) false n))) ∧
      (tcrcOk p = true → ∀ c, s.usable h = some c →
        (field p 0 1 = 1 →
          (regionRefusal s c p = none → exec (.region p) s = .next { u with chans := { u.chans with staging := [⟨p, n, 0, none⟩] } }) ∧
          (∀ status detail, regionRefusal s c p = some (status, detail) → exec (.region p) s = .next (returnCredits (sendStatus u p h status detail) false n))) ∧
        (field p 0 1 = 2 → c.type = 1 → field p 12 1 ≠ 0 → field p 14 2 ≠ 0 → ninthSet s c.slot (field p 12 1) = false → openSet s c.slot (field p 12 1) = none → bitAt (field p 1 1) 0 = false →
          exec (.setClose p) s = .next (returnCredits { u with chans := { u.chans with sets := u.chans.sets ++ [⟨c.slot, field p 12 1, [], some (field p 14 2), [], false, false⟩] } } false n)) ∧
        (field p 0 1 = 3 → field p 12 1 ≠ 0 → c.type = 1 →
          let m := hostActive u
          let bound (k : Nat) : Bool := ((m.kdp.staged.find? (fun x => x.key == Reg.layerHandle k)).map (·.value)).getD (commitBase m (Reg.layerHandle k)) == c.handle
          ∀ r, (∀ k, k < 8 → bound k = true → (∀ j, j < k → bound j = false) → r = commitFor (stage m 0 (Reg.layerFlipSet k) (field p 12 1)) (field p 13 1) []) →
            ((∀ k, k < 8 → bound k = false) → r = commitFor m (field p 13 1) [(c.slot, field p 12 1)]) →
          exec (.setCommit p) s = .next (servePool true 1 (returnCredits (sendStatus r.2 p h (if r.1.reason = 0 then 0 else 9) r.1.reason) false n))) ∧
        (field p 0 1 = 5 → o.ecc = [] → readbackRefusal c (field p 12 4) (field p 16 4) = none → domainOn s 3 = true →
          let count := field p 16 4
          let cost := if c.type ≤ 2 then count * (ceilDiv c.tileBytes 64 + 1) else ceilDiv count 64
          let reply (parts : List (List Byte × Nat)) (d : List Byte) (m : State) : State :=
            returnCredits (linkSend (parts.foldl (fun st q => snoop st 3 h q.1) m) false
              (transaction 0x85 0 (field p 2 2) (bytesLE 4 h ++ bytesLE 4 (field p 12 4) ++ bytesLE 4 count ++ bytesLE 4 0 ++ d))) false n
          cost ≤ tokensLeft s 0 →
            (c.type ≤ 2 → ∀ parts m, readTiles c o.transient (span (field p 12 4) count) [] (spend u 0 cost) = (none, parts, m) →
              exec (.readbackReq p o) s = .next (reply parts (parts.flatMap (fun q => q.1 ++ bytesLE 4 q.2)) m)) ∧
            (2 < c.type → s.store.poison = [] → let d := (span (field p 12 4) count).map (fun i => loadByte s (c.addr i))
              exec (.readbackReq p o) s = .next (reply [(d, 0)] d (spend u 0 cost)))))) ∧
    (s.lanes.delivered = [⟨true, n, p, none⟩] → packetUnknown true p = false → field p 0 1 = 4 → tcrcOk p = true → qFull s 0 = false → (transOf s 2).rxHeld = [] → ∀ b, freeBuffer s 3 = some b →
      let f := slice p 8 (p.length - 12)
      let body := if lenOk 3 f = true then f.take (14 + field f 8 2) else f
      exec (.kdpPacket p []) s = .next (returnCredits (serveFrames (postFrame (setTrans u 3 { transOf u 3 with rx := (transOf u 3).rx ++ [(b, body)] }) 3 b body.length)) true n)) ∧
    (∀ st l c, s.lanes.delivered = [] → s.chans.staging = st :: l → s.channel (regionFields st.packet).handle = some c → c.destroyed = false → domainOn s 3 = true → qFull s 9 = false → qCount s 9 < 2048 →
      (∀ i ∈ regionTiles c (regionFields st.packet), tileWaits s c i = false) → regionTokens c (regionFields st.packet) - st.paid ≤ tokensLeft s 0 →
      ∃ t, exec (.regionLanded o) s = .next t ∧ t.chans.staging = [] ∧ qCount t 9 = qCount s 9 + 1 ∧ t.latches = s.latches ∧ t.pipe.composeDirty = s.pipe.composeDirty ∧
        ((regionFields st.packet).set = 0 → ∀ i ∈ regionTiles c (regionFields st.packet), (c.slot, i) ∈ t.chans.loose))

/-- Deferred frees, row repairs, value checks and light checks (R257, R267, R294, R295, R299, R300). A waiting channel without a reference, and into which no region lands, is freed with E67; a row whose copy completes is remapped to the next spare row of its bank and counted. A rectangle value that equals the expected one clears the mismatch bit, one that differs sets it, counts and raises E112; a light check whose samples agree clears its bit, one with differing pixels sets it, counts and raises E113. -/
def Obligations.StoreUpkeep : Prop :=
  ∀ (slot : Fin 256) (row : Nat) (r : Fin 16) (s : State),
    (∀ c, s.chans.live.find? (fun c => c.slot == slot.val) = some c → c.waiting = true → referenced s c.handle = false → landing s c.handle = false →
      ∃ t, exec (.deferredFree slot) s = .next t ∧ After (freeChannel s c) [67] t ∧ ∀ x ∈ t.chans.live, x.slot ≠ slot.val) ∧
    (s.store.repairing.contains row = true → domainOn s 3 = true → sparesUsed s (rowBank row) < 32 → s.tolls.part = [] → 64 ≤ tokensLeft s 6 →
      exec (.rowRepairDone row) s = .next ({ spend s 6 64 with store := { s.store with repairing := s.store.repairing.filter (· != row), remap := s.store.remap ++ [(row, sparesUsed s (rowBank row))] } }.setReg Reg.storeRowsRepaired ((s.reg Reg.storeRowsRepaired + 1) % 65536))) ∧
    (bitAt s.lamp.rectDue r = true → domainOn s 3 = true → ceilDiv (s.reg (Reg.rectTilesW r) * s.reg (Reg.rectTilesH r)) 4 ≤ tokensLeft s 6 → s.tolls.part = [] → r.val ∉ s.lamp.learn →
      let v := rectValue s r
      ∃ t, exec (.rectValueCheck r []) s = .next t ∧ t.reg (Reg.rectActual r) = v ∧ bitAt t.lamp.rectDue r = false ∧
        (v = s.reg (Reg.rectExpected r) → bitAt (t.reg Reg.integRectStatus) r = false ∧ t.events = s.events ∧ t.reg (Reg.rectValueMismatches r) = s.reg (Reg.rectValueMismatches r)) ∧
        (v ≠ s.reg (Reg.rectExpected r) → bitAt (t.reg Reg.integRectStatus) r = true ∧ Raised 112 s t ∧
          t.reg (Reg.rectValueMismatches r) = (s.reg (Reg.rectValueMismatches r) + 1) % 4294967296)) ∧
    (∀ tiles, s.lamp.lightDue.lookup r.val = some tiles → lightSampled s = true → s.lamp.lightBad = false →
      let bad := s.lamp.conducted.filter (fun p => tiles.contains (pixelTile p))
      ∃ t, exec (.lightCheck r) s = .next t ∧ bitAt (t.reg Reg.integLightUnsampled) r = false ∧
        (bad = [] → bitAt (t.reg Reg.integRectStatus) (16 + r.val) = false ∧ t.events = s.events ∧ t.lantern = s.lantern) ∧
        (bad ≠ [] → bitAt (t.reg Reg.integRectStatus) (16 + r.val) = true ∧ Raised 113 s t ∧
          t.reg (Reg.rectLightMismatches r) = (s.reg (Reg.rectLightMismatches r) + 1) % 4294967296))

/-- READ, READ with STAGED, DESCRIBE and reads by segments (R307, R308, R310, R318, R320, R325). The next request of an open session is answered: READ with the value of the entry, READ with STAGED with the untaken staged value of an RC entry, and with the value of the entry where there is none, DESCRIBE with its descriptor (of no entry: with the first one's name), a segmented READ with TOTAL and a snapshot of the value, a SEGMENT of it with the bytes from its offset. Nothing else changes but the session, its last request and the host supervision. -/
def Obligations.ReadServices : Prop :=
  ∀ (h : Hdr) (entry : EntryRef) (offset : Word) (count : Half) (row : Row) (s : State),
    let key := entryKey entry
    let n := h.session.toNat
    let u := served s n
    let v := entryValue u n row key
    (NextRequest h s → rowFor s key = some row →
      (row.access ≠ .wo → key ≠ Reg.unlockChallenge → key ≠ Reg.adcInjState →
        (v.length ≤ frameLimit h.transport → exec (.read h entry) s = .next (answerTo h 1 key 0 v u)) ∧
        (exec (.segmentedReadStart h entry) s =
          .next (answerTo h 1 key 0 (bytesLE 4 v.length) (inSession h (fun x => { x with transfer := some ⟨false, false, key, v.length, v, 0, none⟩ }) u))) ∧
        (∀ x, row.access = .rc → stagedValue s key = some x → row.size ≤ frameLimit h.transport →
          exec (.readStaged h entry) s = .next (answerTo h 1 key 0 (bytesLE row.size x) u)) ∧
        (row.access ≠ .rc ∨ stagedValue s key = none → v.length ≤ frameLimit h.transport → exec (.readStaged h entry) s = .next (answerTo h 1 key 0 v u))) ∧
      (key ≠ 0 → exec (.describe h entry) s = .next (answerTo h 1 key 0 (descriptor u row key) u))) ∧
    (NextRequest h s → key = 0 → exec (.describe h entry) s = .next (answerTo h 1 0 0 (firstDescriptor u) u)) ∧
    (∀ x, NextSegment h x s → x.write = false → offset.toNat = x.next ∨ x.prev = some offset.toNat →
      let k := Nat.min (Nat.min count.toNat (x.total - offset.toNat)) (frameLimit h.transport - 4)
      exec (.segmentRead h offset count) s = .next (answerTo h 5 0 0 (bytesLE 4 offset.toNat ++ slice x.data offset.toNat k)
        (inSession h (fun y => { y with transfer := some { x with next := offset.toNat + k, prev := some offset.toNat } }) u)))

/-- WRITE, WRITE_STAGED and writes by segments (R7, R304, R305, R306, R318, R320, R324, R331). The next request of the keyholder is answered with OK: WRITE of an RW entry whose write does no more than that sets it, reserved bits 0 (what the other entries do is in the statements on writes), WRITE_STAGED of an RC entry stages its value, reserved bits 0, in place of an earlier one, a segmented write of a size that the entry takes opens a transfer, a SEGMENT at the next offset adds its bytes and answers with the end reached. Nothing else changes but the session, its last request and the host supervision. -/
def Obligations.WriteServices : Prop :=
  ∀ (h : Hdr) (entry : EntryRef) (b : List Byte) (staged : Bool) (total offset : Word) (row : Row) (s : State), HoldsKey h s → bootedSlot s ≠ none →
    let key := entryKey entry
    let n := h.session.toNat
    let u := served s n
    (NextRequest h s → rowFor s key = some row → dictRow key = some row →
      (b.length = row.size → b.length ≤ 50 → row.type ≠ .variable → needsService s key (some b) = false →
        (row.access = .rc → s.reg Reg.beamMode ≠ 1 →
          exec (.writeStaged h entry b) s = .next (answerTo h 3 key 0 []
            { u with kdp := { u.kdp with staged := u.kdp.staged.filter (fun x => x.key != key) ++ [⟨key, heldBits key (natLE b), n⟩] } })) ∧
        (let v := heldBits key (natLE b)
         row.access = .rw → row.type ≠ .handle → row.inRange key v = true → crossRange s key v = true → writeRefused s n row key v = false → HeldOnly key →
          (∀ m ∈ s.modules, rowIn m.rows key = none) →
          exec (.write h entry b) s = .next (answerTo h 2 key 0 [] (u.setReg key v)))) ∧
      (row.access = (if staged = true then .rc else .rw) → needsService s key none = false →
        (if row.type = .variable then total.toNat ≤ row.size else total.toNat = row.size) →
        exec (.segmentedWriteStart h entry staged total) s = .next (answerTo h (if staged = true then 3 else 2) key 0 []
          (inSession h (fun x => { x with transfer := some ⟨true, staged, key, total.toNat, [], 0, none⟩ }) u)))) ∧
    (∀ x, NextSegment h x s → x.write = true → x.key ≠ Reg.calImport → offset.toNat = x.next → 4 + b.length ≤ frameLimit h.transport → x.next + b.length ≤ x.total →
      let stop := x.next + b.length
      exec (.segmentWrite h offset b false) s = .next (answerTo h 5 0 0 (bytesLE 4 stop)
        (inSession h (fun y => { y with transfer := some { x with data := x.data ++ b, next := stop } }) u)) ∧
      (∀ m, stop = x.total → x.key ≠ Reg.engImageWrite → m.kdp.saving = none → m.cal.imp.state = s.cal.imp.state → openFills m ≤ openFills s →
        writeEntry (inSession h (fun y => { y with transfer := none }) u) n x.staged x.key (x.data ++ b) (bytesLE 1 5 ++ bytesLE 1 h.seq.toNat ++ bytesLE 3 0 ++ bytesLE 1 h.transport ++ bytesLE 1 n ++ bytesLE 4 stop) = (0, [], m) →
        exec (.segmentWrite h offset b true) s = .next (answerTo h 5 0 0 (bytesLE 4 stop) m)))

/-- Sessions and the writing key (R328, R330, R331, R332, R333, R339). A HEARTBEAT with SESSION 0 opens the first closed session and is answered in it; one in an open session is answered with keyholder, level and state; TAKE_KEY takes a key that is free or its own, FORCE at the service level takes another session's with E103 and drops that session's staged writes, RELEASE_KEY gives the key up with the staged writes, DROP_SERVICE ends the service level, CLOSE closes the session after the answer; a session without a request for its time is closed with E99. A closed session holds no key, no level and no transfer. -/
def Obligations.SessionsAndKey : Prop :=
  ∀ (h : Hdr) (flags : Byte) (k : Fin 8) (s : State),
    let n := h.session.toNat
    let u := served s n
    (serves s h.transport = true → qNext s (rxQueue h.transport) = none → s.kdp.saving = none → (sessOf s (k + 1)).isOpen = false → (∀ j, j < k.val → (sessOf s (j + 1)).isOpen = true) →
      let m := setSess s (k + 1) { State.sessionReset with isOpen := true, transport := h.transport, seqLast := h.seq, lastRequest := s.now }
      let w := if s.kdp.keyholder = 0 then hostActive m else m
      exec (.sessionOpen h) s = .next (respond w (k + 1) 7 h.seq.toNat 0 0 (heartbeatPayload w (k + 1)) true)) ∧
    (NextRequest h s →
      let held : Prop := s.kdp.keyholder ≠ 0 ∧ s.kdp.keyholder ≠ n
      (flags.toNat % 64 = 0 → exec (.heartbeat h flags) s = .next (answerTo h 7 0 0 (heartbeatPayload u n) u)) ∧
      (¬ held → let m := { u with kdp := { u.kdp with keyholder := n } }
        exec (.takeKey h) s = .next (answerTo h 7 0 0 (heartbeatPayload m n) m)) ∧
      (held → exec (.takeKey h) s = .next (answerTo h 7 0 5 (heartbeatPayload u n) u)) ∧
      (held → (sessOf s n).service = true →
        ∃ t, exec (.force h) s = .next t ∧
          Answered { u with kdp := { u.kdp with keyholder := n, staged := u.kdp.staged.filter (fun x => x.session != s.kdp.keyholder) } } [103] t ∧ t.kdp.keyholder = n) ∧
      (s.kdp.keyholder = n → let m := { u with kdp := { u.kdp with keyholder := 0, staged := u.kdp.staged.filter (fun x => x.session != n) } }
        exec (.releaseKey h) s = .next (answerTo h 7 0 0 (heartbeatPayload m n) m)) ∧
      (let m := inSession h (fun x => { x with service := false }) u;
        exec (.dropService h) s = .next (answerTo h 7 0 0 (heartbeatPayload m n) m)) ∧
      (exec (.close h) s = .next (closeSession (answerTo h 7 0 0 (heartbeatPayload u n) u) n))) ∧
    ((sessOf s (k + 1)).isOpen = true → serves s (sessOf s (k + 1)).transport = true →
      ∃ t, exec (.sessionTimeout k) s = .next t ∧
        After (closeSession (s.atLeast ((sessOf s (k + 1)).lastRequest + s.reg Reg.kdpSessionTimeoutMs * 1000000)) (k + 1)) [99] t) ∧
    (let t := closeSession s (k + 1);
      sessOf t (k + 1) = State.sessionReset ∧ t.kdp.keyholder ≠ k.val + 1 ∧ (s.kdp.keyholder = k.val + 1 → ∀ x ∈ t.kdp.staged, x.session ≠ k.val + 1))

/-- The service level, the service key and the saved set (R311, R312, R335, R336, R337, R338). Where a service key stands and no block runs, READ of unlock.challenge answers with 16 bytes and arms them; the matching response in time gives the service level and clears the count of failures, another one spends the challenge and counts, and the third failure in a row begins a block with E102. A write of unlock.key stores the key, a block ends at its end. A dict.save keeps the values to store and its answer back; when the save is done the older copy holds them under the next count and the answer goes out, to an engine by the end of its DICT_OP. -/
def Obligations.UnlockAndSave : Prop :=
  ∀ (h : Hdr) (b : List Byte) (s : State),
    let n := h.session.toNat
    let u := served s n
    (NextRequest h s → unlockState s = 1 →
      exec (.unlockChallenge h) s = .next (answerTo h 1 Reg.unlockChallenge 0 (drawBytes 16 u).1
        (inSession h (fun x => { x with challenge := some ((drawBytes 16 u).1, s.now) }) (drawBytes 16 u).2))) ∧
    (NextRequest h s → HoldsKey h s → bootedSlot s ≠ none → b.length = 32 →
      (∀ c t0 key, s.kdp.blocked = false → (sessOf s n).challenge = some (c, t0) → s.mram.serviceKey = some key →
        let good : Prop := s.now ≤ t0 + 10000000000 ∧ b = hmacSha256 key (unlockMessage s n c)
        let m := inSession h (fun x => { x with challenge := none }) u
        (good → exec (.unlockResponse h b) s = .next (answerTo h 2 Reg.unlockResponse 0 [] ((inSession h (fun x => { x with service := true }) m).setReg Reg.unlockFailCount 0))) ∧
        (¬ good → s.reg Reg.unlockFailCount < 2 →
          exec (.unlockResponse h b) s = .next (answerTo h 2 Reg.unlockResponse 6 [] (m.setReg Reg.unlockFailCount (s.reg Reg.unlockFailCount + 1)))) ∧
        (¬ good → s.reg Reg.unlockFailCount = 2 → ∃ t, exec (.unlockResponse h b) s = .next t ∧
          Answered (let w := m.setReg Reg.unlockFailCount 3; { w with kdp := { w.kdp with blocked := true, blockEnd := s.now + 10000000000 } }) [102] t)) ∧
      (s.mram.serviceKey = none ∨ (sessOf s n).service = true →
        exec (.unlockKeyWrite h b) s = .next (answerTo h 2 Reg.unlockKey 0 [] { u with mram := { u.mram with serviceKey := some b } }))) ∧
    (s.kdp.blocked = true → exec .unlockBlockEnd s = .next (let m := s.atLeast s.kdp.blockEnd; { m.setReg Reg.unlockBlockS 0 with kdp := { m.kdp with blocked := false, blockEnd := 0 } })) ∧
    (NextRequest h s → HoldsKey h s → bootedSlot s ≠ none →
      exec (.dictSave (.host h)) s = .next (inSession h (fun x => { x with seqLast := h.seq, lastResponse := [] })
        { u with kdp := { u.kdp with saving := some (n, bytesLE 1 2 ++ bytesLE 1 h.seq.toNat ++ bytesLE 3 Reg.dictSave ++ bytesLE 1 h.transport ++ bytesLE 1 n, saveSet u) } })) ∧
    (MayWrite .firmware false s → s.kdp.saving = none →
      exec (.dictSave .firmware) s = .next { s with kdp := { s.kdp with saving := some (0, [], saveSet s) } }) ∧
    (∀ who header set, s.kdp.saving = some (who, header, set) →
      ∃ t, exec .dictSaveDone s = .next t ∧
        (header.length ≠ 1 → Answered { storeSaved s set with kdp := { s.kdp with saving := none } } [] t) ∧
        (header.length = 1 → t = endDictOp { storeSaved s set with kdp := { s.kdp with saving := none } } (field header 0 1) 0) ∧
        (∃ x, vget t.mram.saved none (saveTarget s) = some x ∧ x.values = set ∧ ∀ y k, bootCopy s = some (k, y) → x.count = (y.count + 1) % 4294967296) ∧
        (header = [] → t = { storeSaved s set with kdp := { s.kdp with saving := none } }))

/-- CAN FD and SPI (R340, R343, R344, R345, R346, R347). With CTL powered and VIO present, a frame with the request identifier, or a PUT of the whole length, goes to the lowest free receive buffer with its entry on the queue of the transport, from which the service takes what it may; GET shifts out the status, the length and the oldest waiting frame and consumes it when all of it was clocked; STAT shifts out the status and clears RX_OVERFLOW; an unknown command is counted. An idle controller takes its new bit timing and identifiers; bus-off holds, and ends by the standard recovery where can.busoff_hold is 0. -/
def Obligations.Transports : Prop :=
  ∀ (c : Fin 2) (f : CanFrame) (length : Half) (bytes : List Byte) (clocked : Nat) (command : Byte) (s : State), domainOn s 1 = true → s.power.vio = true →
    let k := canOf s c
    let shown (b : List Byte) : State := spiOut s (bytesLE 1 (spiStatus s) ++ b)
    let buffered (m : State) (t b : Nat) (d : List Byte) : State :=
      let body := if lenOk t d then d.take (14 + field d 8 2) else d
      serveFrames (postFrame (setTrans m t { transOf m t with rx := (transOf m t).rx ++ [(b, body)] }) t b body.length)
    (k.mode ≠ 2 → k.busOff = false → f.ext = k.ext → f.id = k.reqId →
      (f.fd = false → exec (.canFrameRx c f []) s = .next (s.bump (Reg.canRxClassic c))) ∧
      (∀ b, f.fd = true → freeBuffer s c = some b → exec (.canFrameRx c f []) s = .next (buffered s c b (f.data.take 64)))) ∧
    (length.toNat ≤ bytes.length → length.toNat ≤ 2048 → ∀ b, freeBuffer s 2 = some b →
      exec (.put length bytes []) s = .next (buffered (shown []) 2 b (bytes.take length.toNat))) ∧
    (∀ d l, (transOf s 2).tx = d :: l → (transOf s 2).txHeld = [] →
      let m := shown (slice (bytesLE 2 d.length ++ d) 0 clocked)
      exec (.get clocked) s = .next (if d.length + 2 ≤ clocked then setTrans m 2 { transOf m 2 with tx := l } else m)) ∧
    (exec .stat s = .next (let m := shown []; { m with kdp := { m.kdp with spiOverflow := false } })) ∧
    (command.toNat = 0 ∨ 3 < command.toNat → exec (.spiUnknownCommand command) s = .next ((shown []).bump Reg.spiFramingErrors)) ∧
    (k.changePending = true → exec (.canBitrateApply c) s = .next (setCan s c { canTakes s c k with changePending := false })) ∧
    (k.mode = 0 → exec (.busOff c) s = .next (setCan s c { k with busOff := true })) ∧
    (k.busOff = true → s.reg (Reg.canBusoffHold c) = 0 → (transOf s c).tx = [] → (transOf s c).txHeld = [] →
      exec (.busOffRecovery c) s = .next (setCan s c { k with busOff := false, errorPassive := false }))

/-- Images, the start of the engines and the storm window (R366, R368, R369, R389). A segmented write of eng.image_write by the keyholder at the service level leaves the image in the target slot. At the start with a valid stock image every idle stock engine with a segment runs from its ENTRY and WJ stands by; with none W0 runs the recovery loader. At the end of a storm window the sources that did not exceed their limit are unmasked and the counts begin anew. -/
def Obligations.EngineStart : Prop :=
  ∀ (h : Hdr) (image : List Byte) (modules : List ModuleDecl) (s : State),
    (NextRequest h s → HoldsKey h s → (sessOf s h.session.toNat).service = true → bootedSlot s ≠ none → image.length ≤ 2097152 →
      ∃ t, exec (.imageWrite h image) s = .next t ∧ vget t.mram.images [] (targetSlot s) = image) ∧
    (s.power.device = 2 → domainOn s 1 = true → (domainOf s 1).queued = false → (∀ e, e < 9 → (engOf s e).run = .idle) → s.reg Reg.engPairMode = 0 →
      ∃ t, exec (.engineStart modules) s = .next t ∧ (engOf t 8).run = .standby ∧
        (∀ n e, bootSlot s = some n → e < 4 → segUsed (imageOf s n) e = true →
          (engOf t e).run = .running ∧ (engOf t e).pc = BitVec.ofNat 32 (field (segEntry (imageOf s n) e) 16 4) ∧ (engOf t e).image = n) ∧
        (bootSlot s = none → (engOf t 0).run = .running ∧ (engOf t 0).image = 0xFF)) ∧
    (s.power.device ≠ 0 →
      let stop := s.events.stormStart + s.reg Reg.evtStormWindowMs * 1000000
      ∃ t, exec .stormWindowEnd s = .next t ∧ t = { s.atLeast stop with events := { s.events with stormMask := t.events.stormMask, stormCount := [], stormStart := stop } } ∧
        ∀ e, e < 128 → t.events.stormMask.getLsbD e = (s.events.stormMask.getLsbD e && decide (2 ^ eventLimit s e < mapGet (fun _ => 0) s.events.stormCount e)))

/-- Readings of the field sensors and the throttle hold (R396, R398, R399, R400, R402, R403, R408). While no sensor is voted out, a reading whose two elements agree within 3 °C becomes T_F of its field and the band follows it by its hysteresis: an unchanged band leaves everything else as it was, a changed one raises E16. A reading out of range, or the eighth in a row that deviates, votes the sensor out with E18, and the field takes the mean of its neighbours plus 5 °C. The throttle hold ends at its end. -/
def Obligations.FieldTemperatures : Prop :=
  ∀ (f : Fin 32) (r : SensorObs) (a b : Int) (s : State),
    (domainOn s 7 = true → s.events.gathering = none → s.scan.running = true → s.therm.seen = BitVec.allOnes 32 → s.therm.banded = BitVec.allOnes 32 → s.therm.votedOut = 0 →
      r.e0 = some a → r.e1 = some b → (a - b).natAbs ≤ 24 → elementDropped s f 0 = false → elementDropped s f 1 = false →
      let x := if s.therm.picked.getLsbD f then b else a
      let temp : Rat := (x : Rat) / 8
      let n := if deviates s temp (meanField s f) then vget s.therm.deviating 0 f + 1 else 0
      let old := bandOf s f
      let new := nextBand old temp
      (-440 ≤ x → x ≤ 1600 → n < 8 →
        ((new = old ∨ (s.therm.holdEnd.isSome = true ∧ new < old)) →
          exec (.fieldSensorReading f r) s = .next { s with therm := { s.therm with differ := vset s.therm.differ f 0, raw := vset s.therm.raw f (some temp), tf := vset s.therm.tf f temp, lastValid := vset s.therm.lastValid f (some temp), deviating := vset s.therm.deviating f n } }) ∧
        (new ≠ old → s.therm.holdEnd = none →
          ∃ t, exec (.fieldSensorReading f r) s = .next t ∧ bandOf t f = new ∧ tempOf t f = temp ∧ t.lamp.bandFields.getLsbD f = true ∧ Raised 16 s t)) ∧
      (x < -440 ∨ 1600 < x ∨ n = 8 →
        ∃ t, exec (.fieldSensorReading f r) s = .next t ∧ t.therm.votedOut.getLsbD f = true ∧ Raised 18 s t ∧
          some (tempOf t f) = (meanQ ((neighbours f).map (tempOf s))).map (· + 5))) ∧
    (∀ stop, s.therm.holdEnd = some stop → exec .throttleHoldEnd s = .next (let m := s.atLeast stop; { m with therm := { m.therm with holdEnd := none } }))

/-- The protection sensors and the shutdown (R397, R400, R409, R410, R411, R412). With ANA powered a vote is held until its release; the second vote held sets the shutdown latch: both array domains are off, the latches and the light are gone, LIT becomes READY, E20 is raised and the journal holds the closed record of this shutdown. A monitor reading is kept with its counts of differences, and no temperature of a sound field follows it; with every field sensor voted out all fields take the highest sound monitor plus 5 °C, or 140 °C. A reading that meets a failure check of R409 declares the sensor failed with E19. -/
def Obligations.ProtectionVotes : Prop :=
  ∀ (n : Fin 4) (r : TpObs) (s : State),
    (domainOn s 7 = true →
      let voted := setProt s n { protOf s n with vote := true }
      let p := protOf s n
      let d : Rat := (r.monitor : Rat) / 8 - tempOf s (protField n)
      let q : ProtSensor := { p with monitor := r.monitor, pairDiffers := (if 80 < (r.e0 - r.e1).natAbs then p.pairDiffers + 1 else 0), fieldDiffers := (if 25 < d ∨ d < -25 then p.fieldDiffers + 1 else 0) }
      let sound : Prop := -440 ≤ r.monitor ∧ r.monitor ≤ 1600 ∧ q.pairDiffers < 5 ∧ q.fieldDiffers < 100
      (s.therm.shutdown = true ∨ voteCount voted < 2 → exec (.tpVote n) s = .next voted) ∧
      (s.therm.shutdown = false → 2 ≤ voteCount voted → ∃ t, exec (.tpVote n) s = .next t ∧
        t.therm.shutdown = true ∧ (domainOf t 5).state = 0 ∧ (domainOf t 6).state = 0 ∧ t.latches.a = [] ∧ t.latches.b = [] ∧ t.power.light = 0 ∧
        t.power.device = (if s.power.device = 4 then 3 else s.power.device) ∧ Raised 20 s t ∧
        t.mram.journal = ⟨(s.mram.journal.seq + 1) % 4294967296, false, true, shutdownRecord { voted with therm := { voted.therm with shutdown := true } }⟩) ∧
      (p.failed = true ∨ sound → ∃ t, exec (.tpMonitorReading n r) s = .next t ∧ t = (let m := setProt s n q; { m with therm := { m.therm with tf := t.therm.tf } }) ∧
        (∀ f, f < 32 → s.therm.votedOut.getLsbD f = false → tempOf t f = tempOf s f) ∧
        (s.therm.votedOut = BitVec.allOnes 32 → ∀ f, f < 32 → tempOf t f = (match maxQ (soundMonitors t) with | some x => x + 5 | none => 140))) ∧
      (p.failed = false → ¬ sound → ∃ t, exec (.tpMonitorReading n r) s = .next t ∧ protOf t n = { q with failed := true } ∧ Raised 19 s t)) ∧
    exec (.tpVoteRelease n) s = .next (setProt s n { protOf s n with vote := false })

/-- Triggers, the grid and the results of conversions (R415, R417, R418, R422, R423, R424, R426, R427, R428, R429, R430). The next trigger of an enabled group comes at its instant, and sets the one after it by the clock of G0 and G1 and the period of a PERIODIC group; with no round under way it queues its round on the converters, during one it is counted and dropped. An injected request of an enabled hardware source queues its conversions, or is counted as lost. The next grid point is the next multiple of 100 ns, of 50 ns while a PAIR group is enabled, which shifts those of AD3 by 50 ns; there each free converter whose grid point it is starts the pending conversion of highest precedence and every other one stays as it is. A completed conversion leaves its result word, its value where it is valid, the next SEQ, and one conversion less in its round or request. -/
def Obligations.Conversions : Prop :=
  ∀ (g : Fin 8) (k : Fin 4) (src : Fin 3) (raw spare : Int) (z : ZeroObs) (s : State),
    (domainOn s 7 = true → groupOn s g = true → g.val = 2 ∨ (adcGroup s g).due ≠ [] → (∀ j, j < 4 → (convOf s j).slice ≠ none) →
      let t0 := (adcGroup s g).due.headD 0
      let u := if g.val = 2 then s else s.atLeast t0
      let next := if g.val = 0 then [t0 + 2000] else if g.val = 1 then [t0 + 1000000] else if s.reg (Reg.adcgTrigger g) = 1 then [t0 + s.reg (Reg.adcgPeriodNs g)] else []
      let x := if g.val = 2 then adcGroup s g else { adcGroup s g with due := (adcGroup s g).due.drop 1 ++ next }
      (x.left = 0 → ∃ t, exec (.groupTrigger g) s = .next t ∧ t = { u with adc := t.adc } ∧ adcGroup t g = { x with left := (groupRound s g).length } ∧
        ∀ j, j < 4 → (convOf t j).queue = (convOf s j).queue ++ ((groupRound s g).filter (fun p => p.1 == j)).map (fun p => ⟨groupPrec s g, g, p.2.1, p.2.2⟩)) ∧
      (x.left ≠ 0 → exec (.groupTrigger g) s = .next (setAdcGroup (u.bump Reg.adcTrigOverrun) g { x with overrun := true }))) ∧
    (domainOn s 7 = true → bitAt (s.reg Reg.adcInjConfig) src = true →
      let c := Instr.adcInjRequest ([.loadstep, .fltIn, .e2].getD src.val .e2)
      let cfg := s.reg Reg.adcInjConfig
      let n := bits cfg 9 8 + 1
      let j := 2 + bits cfg 7 7
      (s.adc.injState = 1 ∨ s.adc.injState = 2 → exec c s = .next (s.bump Reg.adcInjLost)) ∧
      (s.adc.injState ≠ 1 → s.adc.injState ≠ 2 → ∃ t, exec c s = .next t ∧ t = { s with adc := t.adc } ∧ t.adc.injState = 1 ∧ t.adc.injLeft = n ∧
        (convOf t j).queue = (convOf s j).queue ++ (List.range n).map (fun i => ⟨0, 8, bits cfg (14 + 5 * i) (10 + 5 * i), i⟩))) ∧
    (domainOn s 7 = true → s.adc.handover = false → ∀ stop,
      let step := if pairEnabled s then 50 else 100
      let later (m : Nat) : Prop := m % step = 0 ∧ s.now ≤ m ∧ ∀ g0, s.adc.lastGrid = some g0 → g0 < m
      let own := decide (stop % 100 = if k.val = 3 ∧ pairEnabled s = true then 50 else 0)
      let free := (convOf s k).running.isNone && (convOf s k).slice.any (fun n => !sliceBusy s n stop)
      later stop → (∀ m, later m → stop ≤ m) →
      ∃ t, exec (.adcGridPoint z) s = .next t ∧ t.now = stop ∧ t.adc.lastGrid = some stop ∧
        ((own && free) = false ∨ choosePend s k stop = none → convOf t k = convOf s k) ∧
        (own = true → free = true → ∀ p, choosePend s k stop = some p → p ∈ (convOf s k).queue ∧ (∀ q ∈ (convOf s k).queue, q.group = 8 → p.prec ≤ q.prec) ∧
          (convOf t k).queue = (convOf s k).queue.erase p ∧
          ∃ x, (convOf t k).running = some x ∧ x.group = p.group ∧ x.chan = p.chan ∧ x.idx = p.idx ∧ some x.slice = (convOf s k).slice ∧ x.start = stop)) ∧
    (∀ x, (convOf s k).running = some x → x.chan < 24 → (x.group = 8 → x.idx < 4) →
      let c := convOf s k
      let code := (clampI 0 4095 raw).toNat
      let valid := !c.invalid && !(c.ref == 1 && s.adc.extFault)
      let w := resultWord valid (decide (raw < 0) || decide (4095 < raw)) x.recover x.settling (x.group == 8) x.slice x.chan c.seq code
      ∃ t, exec (.adcConversionDone k raw spare) s = .next t ∧ t.now = Nat.max s.now (x.start + 100) ∧ (convOf t k).running = none ∧ (convOf t k).seq = (c.seq + 1) % 16 ∧
        t.reg (Reg.adcChResult x.chan) = w ∧
        (valid = true → t.reg (Reg.adcChValue x.chan) = ratToF32 ((code : Rat) * vRef s c.ref / 4096 * channelK x.chan)) ∧
        (4 ≤ x.group → x.group < 8 → (adcGroup t x.group).left = (adcGroup s x.group).left - 1) ∧
        (x.group = 8 → t.reg (Reg.adcInjResult x.idx) = w ∧ t.adc.injLeft = s.adc.injLeft - 1 ∧ (s.adc.injLeft = 1 → t.adc.injState = 3)))

/-- The rotating spare and the input clamps (R428, R431, R432, R433, R434, R435, R437). A spare whose offsets and gain lie in range completes its calibration, once its reference has settled and its conversions have run; one whose gain is out of range fails with E11. A calibrated spare begins its shadow after adc.rotate_ms. A completed conversion of the target is a usable pair or a discarded one. 64 usable pairs that pass make the handover wait for the target's grid point, where it takes place unless an injected conversion is pending or runs there; the first failed test is a strike, the second makes the spare fail with E11. A shadow without 64 usable pairs in 4,096 grid points ends without a strike. A clamp that begins or ends is noted, and its flag falls 1 ms after it ended. -/
def Obligations.SpareSlice : Prop :=
  ∀ (n : Nat) (c : RotationObs) (k : Fin 4) (raw spare : Int) (z : ZeroObs) (pin : Fin 8) (on : Bool) (s : State),
    let target := convOf s s.adc.target
    let retry := { s with adc := { s.adc with rotating := false, handover := false, calBegan := some (s.adc.rotateAt + s.reg Reg.adcRotateMs * 1000000) } }
    (n < 5 → s.adc.spare = some n →
      (domainOn s 7 = true → s.events.gathering = none → s.adc.rotating = false → s.adc.spareReady = false ∨ s.adc.calBegan ≠ none → c.offset0.natAbs ≤ 256 → c.offset1.natAbs ≤ 256 →
        (sliceOf s n).halfDropped = 0 → (∀ j, j < 4 → (convOf s j).invalid = false) → (∀ j x, j < 4 → (convOf s j).running = some x → x.group ≠ 8) →
        let half := if c.offset1.natAbs < c.offset0.natAbs then 1 else 0
        let off := if half = 1 then c.offset1 else c.offset0
        let paired := 2 ≤ s.adc.target ∧ pairEnabled s = true
        let settle := if s.adc.spareRef = target.ref then 0 else if s.adc.spareRef = 2 ∨ target.ref = 2 then 5000 else 2000
        let m := s.atLeast (s.adc.calBegan.getD s.now + settle + 51200 + (if paired then 6400 else 0))
        (c.gain.natAbs ≤ 20000 →
          let u := ((setSlice m n { sliceOf s n with offset := off, gain := c.gain, half := half, recover := 0, timing := if paired then c.timing else (sliceOf s n).timing }).setReg
            (Reg.adcSliceOffset n) (ofInt 16 off)).setReg (Reg.adcSliceGain n) (ofInt 32 c.gain)
          exec (.spareRotation c) s = .next { u with adc := { u.adc with calBegan := none, spareRef := target.ref, spareReady := true } }) ∧
        (20000 < c.gain.natAbs → ∃ t, exec (.spareRotation c) s = .next t ∧ t.adc.spare = none ∧ t.adc.noSpare = true ∧ (sliceOf t n).failed = true ∧ Raised 11 s t)) ∧
      (domainOn s 7 = true → s.adc.rotating = false → s.adc.spareReady = true → s.adc.calBegan = none →
        exec (.spareRotation c) s = .next (let m := s.atLeast (s.adc.rotateAt + s.reg Reg.adcRotateMs * 1000000)
          { m with adc := { m.adc with rotating := true, rotateAt := m.now, points := 0, pairs := 0, pairSum := 0, pairWorst := 0 } })) ∧
      (s.adc.rotating = true → s.adc.handover = false → 64 ≤ s.adc.pairs →
        let passes : Prop := s.adc.pairSum.natAbs ≤ 64 ∧ s.adc.pairWorst ≤ 4
        (passes → exec .spareHandover s = .next { s with adc := { s.adc with handover := true } }) ∧
        (¬ passes → (sliceOf s n).strikes = 0 → exec .spareHandover s = .next (setSlice retry n { sliceOf s n with strikes := 1 })) ∧
        (¬ passes → (sliceOf s n).strikes = 1 → ∃ t, exec .spareHandover s = .next t ∧ t.adc.spare = none ∧ (sliceOf t n).failed = true ∧ Raised 11 s t)) ∧
      (s.adc.rotating = true → 4096 ≤ s.adc.points → s.adc.pairs < 64 → exec .shadowAbandon s = .next (setSlice retry n { sliceOf s n with strikes := 0 })) ∧
      (domainOn s 7 = true → s.adc.rotating = true → s.adc.handover = true → s.adc.target < 4 → gridOf s s.adc.target (nextGrid s) = true →
        (injecting s s.adc.target = false → ∃ t, exec (.adcGridPoint z) s = .next t ∧ (convOf t s.adc.target).slice = some n ∧ t.adc.spare = target.slice ∧
          t.adc.target = (s.adc.target + 1) % 4 ∧ t.adc.rotating = false ∧ t.adc.handover = false ∧ t.adc.spareReady = false ∧ t.adc.calBegan = some t.now ∧ (sliceOf t n).strikes = 0 ∧
          t.reg Reg.adcHandovers = (s.reg Reg.adcHandovers + 1) % 4294967296) ∧
        (injecting s s.adc.target = true → ∃ t, exec (.adcGridPoint z) s = .next t ∧ (convOf t s.adc.target).slice = target.slice ∧ t.adc.spare = some n ∧ t.adc.handover = true)) ∧
      (∀ x m rm, (convOf s k).running = some x → x.shadow = some (m, rm) → x.chan < 24 → (x.group = 8 → x.idx < 4) → s.adc.rotating = true → s.adc.pairs < 64 →
        let v := convOf s k
        let usable : Prop := v.invalid = false ∧ (v.ref = 1 → s.adc.extFault = false) ∧ x.recover = false ∧ x.settling = false ∧ rm = false ∧
          0 ≤ raw ∧ raw ≤ 4095 ∧ 0 ≤ spare ∧ spare ≤ 4095
        ∃ t, exec (.adcConversionDone k raw spare) s = .next t ∧
          (usable → t.adc.pairs = s.adc.pairs + 1 ∧ t.adc.pairSum = s.adc.pairSum + (spare - raw) ∧ t.adc.pairWorst = Nat.max s.adc.pairWorst (spare - raw).natAbs) ∧
          (¬ usable → t.adc.pairs = s.adc.pairs ∧ t.reg Reg.adcShadowDiscards = (s.reg Reg.adcShadowDiscards + 1) % 4294967296))) ∧
    (bitAt s.adc.clampPins pin = on → exec (.ainClamp pin on) s = .next s) ∧
    (bitAt s.adc.clampPins pin ≠ on → exec (.ainClamp pin on) s = .next { s with adc := { s.adc with clampPins := setBit s.adc.clampPins pin on, clampFlag := true, clampEnd := (if on then s.adc.clampEnd else s.now + 1000) } }) ∧
    (s.adc.clampFlag = true → s.adc.clampPins = 0 →
      exec .ainClampHoldEnd s = .next (let m := s.atLeast (s.adc.clampEnd - 1000 + 1000000); { m with adc := { m.adc with clampFlag := false } }))

/-- Background trim, aging learning and the calibration mirror (R443, R446, R447, R448, R449, R450, R451, R457, R458). Once its interval has run, in a powered field a measurement that the scan spoils is counted and discarded; a flagged sink's leaves the cursor; any other gives the sink under the cursor its result, moves its trim code after two passes with the same LOW or HIGH, and moves the cursor on. The reference trim, once its period has run, skips a field that is dark or below code 146, and moves the gain of a field by a quarter of its error, at most 0.2 %, within 0.97 and 1.03, with the field's limit bit where it is held there. An aging notice whose target lies above AGE adds one to it, in the aging map and in the mirror. The changed trim codes go to MRAM, each word with its CRC-8, 10 minutes of LIT after the last write, and an undamaged build of the mirror leaves MRAM as it is and the mirror ready, each word from its binning word and AGE. -/
def Obligations.BackgroundTrim : Prop :=
  ∀ (f : Fin 32) (permille : Nat) (o : FrefObs) (e : List Byte) (u : State) (s : State),
    (s.scan.running = true → fieldPowered s f = true →
      let m := s.atLeast (vget s.cal.sinkLast 0 f + s.reg Reg.calSinkIntervalUs * 1000)
      let w := { m with cal := { m.cal with sinkLast := vset m.cal.sinkLast f m.now } }
      let res := sinkResult s permille
      (measureBad w f = true → exec (.sinkMeasurement f permille) s = .next (noteSupply (w.bump Reg.calDiscards))) ∧
      (∀ k left, measureBad w f = false → s.lamp.flagged.find? (fun q => sinkField q.1 == f.val) = some (k, left) →
        ∃ t, exec (.sinkMeasurement f permille) s = .next t ∧ t.cal = w.cal ∧ t.now = w.now ∧
          t.lamp.flagged = (if res ≤ 2 ∧ 1 < left then [(k, left - 1)] else []) ++ s.lamp.flagged.filter (fun q => q.1 != k)) ∧
      (measureBad w f = false → s.lamp.flagged.find? (fun q => sinkField q.1 == f.val) = none →
        let c := vget s.cal.cursor 0 f
        let k := fieldSink f c
        let code := trimCode s.cal.trimNext k
        let again : Prop := mapGet (fun _ => 0) s.cal.lastResult k = res
        ∃ t, exec (.sinkMeasurement f permille) s = .next t ∧ t.now = w.now ∧ mapGet (fun _ => 0) t.cal.lastResult k = res ∧
          vget t.cal.cursor 0 f = (if c + 1 < 2048 then c + 1 else 0) ∧
          (again → res = 3 → code < 31 → trimCode t.cal.trimNext k = code + 1) ∧ (again → res = 5 → 0 < code → trimCode t.cal.trimNext k = code - 1) ∧
          (¬ again ∨ res < 3 ∨ res = 4 ∨ code = 31 ∧ res = 3 ∨ code = 0 ∧ res = 5 → t.cal.trimNext = s.cal.trimNext))) ∧
    (s.scan.running = true → domainOn s 7 = true → s.cal.frefNext = f.val →
      let m := s.atLeast (s.cal.frefLast + s.reg Reg.calFrefPeriodMs * 1000000)
      let w := { m with cal := { m.cal with frefLast := m.now } }
      let low : Prop := fieldPowered s f = false ∨ vget s.refs.code 0 f < 146
      (low → exec (.fieldRefTrim o) s = .next { w with cal := { w.cal with frefNext := (f.val + 1) % 32 } }) ∧
      (¬ low → (o.bad = true ∨ measureBad w f = true) → exec (.fieldRefTrim o) s = .next (noteSupply (w.bump Reg.calDiscards))) ∧
      (¬ low → o.bad = false → measureBad w f = false → 100 * (Nat.max o.sink0 o.sink1 - Nat.min o.sink0 o.sink1) ≤ 2 * Nat.max o.sink0 o.sink1 →
        let nA := if s.cal.refPick.getLsbD f then o.sink1 else o.sink0
        let g : Rat := (nA : Rat) / 1000 / vget s.refs.iref 120 f
        let new : Rat := s.real (Reg.calFrefGain f) + clampQ (-2 / 1000) (2 / 1000) ((g - 1) / 4)
        ∃ t, exec (.fieldRefTrim o) s = .next t ∧ t.now = w.now ∧ t.cal.frefNext = (f.val + 1) % 32 ∧
          t.reg (Reg.calFrefGain f) = ratToF32 (clampQ (97 / 100) (103 / 100) new) ∧
          bitAt (t.reg Reg.calFrefLimit) f = (decide (new < 97 / 100) || decide (103 / 100 < new)))) ∧
    (firmwareRuns s 3 = true → qTake s 7 = (some e, u) →
      let p := field e 8 3
      let above : Prop := s.flag Reg.calAgingEnable = true ∧ mirrorAge u p < ageTarget u p (field e 11 1) (toInt 16 (field e 12 2)) (toInt 16 (field e 14 2)) (field e 16 1)
      (field e 0 2 = 0x0701 → above → ∃ t, exec (.agingNotice []) s = .next t ∧ ageOf t p = Nat.min 255 (ageOf s p + 1) ∧
        t.reg Reg.calAgeUpdates = (s.reg Reg.calAgeUpdates + 1) % 4294967296 ∧
        (p < 1048576 → tileCheck u (.mirror (pixelTile p)) = crc32c (tileData u (.mirror (pixelTile p))) →
          mirrorAge t p = mirrorAge u p + 1 ∧ tileCheck t (.mirror (pixelTile p)) = crc32c (tileData t (.mirror (pixelTile p))))) ∧
      (¬ above ∨ field e 0 2 ≠ 0x0701 → exec (.agingNotice []) s = .next u)) ∧
    (firmwareRuns s 3 = true → s.cal.trimChanged = true → s.power.device = 4 →
      let lit := s.mram.litNs + (s.now - s.power.litSince)
      let wait := match s.mram.trimSaved with | some t0 => t0 + 600000000000 - lit | none => 0
      ∃ t, exec .trimMapSave s = .next t ∧ t.now = s.now + wait ∧ t.cal = { s.cal with trimChanged := false } ∧
        t.mram = { s.mram with trim := t.mram.trim, trimSaved := some (litTime t) } ∧ badWords t.mram.trim = [] ∧
        (s.cal.trimNext.Pairwise (fun a b => a.1 < b.1) → (∀ x ∈ s.cal.trimNext, x.2 < 32) →
          ∀ k, field (bytesLE 8 (mapGet (fun _ => trimWord) t.mram.trim (k / 7))) (k % 7) 1 = trimCode s.cal.trimNext k)) ∧
    (firmwareRuns s 3 = true → domainOn s 3 = true → s.cal.mirrorReady = false → recordSound s 0 = true → recordSound s 1 = true →
      badWords s.mram.aging = [] → badWords s.mram.trim = [] → badTiles s ⟨[], false, false, [], [], []⟩ = [] →
      ∃ t, exec (.mirrorBuildDone ⟨[], false, false, [], [], []⟩) s = .next t ∧ t.cal.mirrorReady = true ∧ t.cal.fallback = 0 ∧ t.mram = s.mram ∧
        (s.cal.fallback = 0 → ∀ k i, k < 4096 → i < 256 → calWord t k i = calFromBin (binWord s (tilePixelIndex k i)) (ageOf s (tilePixelIndex k i))))

/-- The import of calibration (R459, R460). A file that the keyholder writes to cal.import at the service level, and for whose BLOB the pool has the pages, is taken for writing where it passes the checks of R459 and R460, and is otherwise rejected with MRAM unchanged. When the writes are done, MRAM holds the file's binning words with their check words, both copies of its field records where it has them, and AGE 0 of its pixels where it clears them, every other tile as before, and the state of the import says so. -/
def Obligations.CalibrationImport : Prop :=
  ∀ (h : Hdr) (file : List Byte) (s : State),
    (NextRequest h s → HoldsKey h s → (sessOf s h.session.toNat).service = true → bootedSlot s ≠ none → s.cal.imp.state ≠ 2 → file.length ≤ 4211268 →
      (createChannel (served s h.session.toNat) (bytesLE 1 4 ++ bytesLE 7 0 ++ bytesLE 4 (importBlob file.length)) 0 none).1 = 0 →
      (importBeyond file = false → importOk s file = true → ∃ t, exec (.calImport h file) s = .next t ∧ t.cal.imp.state = 2 ∧ t.cal.imp.file = file ∧ t.mram.binning = s.mram.binning) ∧
      (importBeyond file = true ∨ importOk s file = false → ∃ t, exec (.calImport h file) s = .next t ∧
        t.cal.imp.state = 5 ∧ t.mram.binning = s.mram.binning ∧ t.mram.aging = s.mram.aging ∧ t.mram.records = s.mram.records)) ∧
    (s.cal.imp.state = 2 →
      let file := s.cal.imp.file
      let first := field file 16 2
      let n := field file 18 2
      let at' (i : Nat) : Nat := 64 + (if bitAt (field file 6 2) 1 then 512 else 0) + 1028 * i
      first + n ≤ 4096 →
      ∃ t, exec .calImportWriteDone s = .next t ∧ t.cal.imp.state = 3 ∧
        (∀ i j, i < n → j < 256 → binWord t (tilePixelIndex (first + i) j) = field file (at' i + 4 * j) 4 ∧ binCheck t (first + i) = field file (at' i + 1024) 4) ∧
        (∀ k j, k < 4096 → k < first ∨ first + n ≤ k → j < 256 → binWord t (tilePixelIndex k j) = binWord s (tilePixelIndex k j)) ∧
        (bitAt (field file 6 2) 1 = true → recordCopy t 0 = recordsOf (slice file 64 512) ∧ recordCopy t 1 = recordsOf (slice file 64 512)) ∧
        (bitAt (field file 6 2) 1 = false → t.mram.records = s.mram.records) ∧
        (bitAt (field file 6 2) 0 = true → ∀ i j, i < n → j < 256 → ageOf t (tilePixelIndex (first + i) j) = 0) ∧
        (bitAt (field file 6 2) 0 = false → t.mram.aging = s.mram.aging))

/-- The supply, the domains and VCORE (R464, R465, R467, R471, R472, R473, R474, R487, R516, R518). At tV the device leaves OFF: it stays in AO under TEST_EN, and with no valid saved set it enters BOOT. A falling VSUP raises E0 once until it clears; a ride-through begins and ends with E8. A loss of power leaves the device OFF with its latches dark and MRAM as it was. A domain that ends its ramp is ON, and one that ends its drain is OFF, with E4; a queued ramp of CTL or ANA follows at once. After 16 Toll periods VCORE moves by the slack unless a ride-through holds it. The loss of VIO ends a leader's pulse and resets the TAP; its return lets each CAN controller in normal operation send the frames that waited. -/
def Obligations.SupplyAndDomains : Prop :=
  ∀ (p : StartObs) (mv : Nat) (d : Fin 8) (s : State),
    (s.power.device = 0 → s.mram.journal.isOpen = false →
      ∃ t, exec (.vsupValid p) s = .next t ∧ t.power.tStart = s.now ∧ t.power.vsupMv = p.mv ∧ t.power.xin = p.xin ∧
        (p.testEn = true → t.power.device = 1) ∧ (p.testEn = false → bootCopy s = none → t.power.device = 2)) ∧
    (s.power.device ≠ 0 →
      let low := noteSupply { s with power := { s.power with uvWarn := true, vsupMv := mv } }
      (s.power.uvWarn = false → ∃ t, exec (.vsupUvWarn mv) s = .next t ∧ After low [0] t) ∧
      (s.power.uvWarn = true → exec (.vsupUvWarn mv) s = .next s) ∧
      (s.power.ride = none → ∃ t, exec (.rideThroughStart mv) s = .next t ∧ t.power.ride = some (s.now, mv) ∧ t.power.uvWarn = true ∧ t.power.vsupMv = mv) ∧
      (s.cal.imp.state ≠ 2 → s.kdp.saving = none → (∀ e, e < 9 → (engOf s e).moves = []) → ∀ steps, ∃ t, exec (.brownOut steps) s = .next t ∧ t.power = { State.reset.power with vio := s.power.vio } ∧ t.latches = State.reset.latches ∧
        t.mram.binning = s.mram.binning ∧ t.mram.aging = s.mram.aging ∧ t.mram.trim = s.mram.trim ∧ t.mram.lantern = s.mram.lantern ∧ t.mram.images = s.mram.images ∧ t.mram.saved = s.mram.saved)) ∧
    (s.power.uvWarn = true → exec (.vsupUvWarnClear mv) s = .next { s with power := { s.power with uvWarn := false, vsupMv := mv } }) ∧
    (∀ start low, s.power.ride = some (start, low) →
      ∃ t, exec (.rideThrough mv) s = .next t ∧ After (({ s with power := { s.power with ride := none } }).bump Reg.pwrRideCount) [8] t) ∧
    (d.val ≠ 0 → (domainOf s d).state = 1 → (domainOf s d).want = true → (domainOf s d).queued = false →
      ∃ t, exec (.domainRampDone d) s = .next t ∧ domainOf t d = ⟨2, true, false⟩ ∧ Raised 4 s t) ∧
    (d.val ≠ 0 → (domainOf s d).state = 3 →
      ((domainOf s d).want = false → (domainOf s d).queued = false → ∃ t, exec (.domainDrainDone d) s = .next t ∧ domainOf t d = ⟨0, false, false⟩ ∧ Raised 4 s t) ∧
      (d.val = 1 ∨ d.val = 7 → (domainOf s d).queued = true → ∃ t, exec (.domainDrainDone d) s = .next t ∧ domainOf t d = ⟨1, true, false⟩ ∧ Raised 4 s t)) ∧
    (16 ≤ s.power.tollPeriods →
      let slack := s.reg Reg.tollSlack
      let target := s.reg Reg.pwrVcoreSlack
      let v := s.power.vcoreMv
      ∃ t, exec .vcoreAdjust s = .next t ∧ t.power.tollPeriods = 0 ∧
        t.power.vcoreMv = (if s.power.ride.isSome then v else if target + 8 < slack then Nat.max 650 (v - 5) else if slack < target then Nat.min 900 (v + 10) else v)) ∧
    exec .vioLoss s = .next { s with power := { s.power with vio := false }, scan := { s.scan with sync := { s.scan.sync with pin := false } }, jtag := { s.jtag with tap := 0, ir := 3, tdo := none } } ∧
    (∃ t, exec .vioRestored s = .next t ∧
      ((transOf s 0).txHeld = [] → (transOf s 1).txHeld = [] →
        t.power = { s.power with vio := true } ∧
        ∀ c, c < 2 →
          let k := canOf s c
          let x := transOf s c
          (k.mode = 0 → k.busOff = false → (transOf t c).tx = [] ∧
            (canOf t c).sent = k.sent ++ x.tx.map (fun f => ⟨k.ext, (if field f 0 1 % 16 = 6 then k.notifyId else k.respId), k.brs, canPad f⟩)) ∧
          (k.mode ≠ 0 ∨ k.busOff = true → (transOf t c).tx = x.tx ∧ (canOf t c).sent = k.sent)))

/-- Wakes, RESET_N, FLT_IN_N and the supervision of the inputs (R467, R476, R478, R481, R482, R483, R484, R485, R486, R495). WAKE or an enabled CAN wake starts the device from AO; WAKE low for its time asks for SLEEP in WAKE mode; a pulse of RESET_N starts the control plane anew while the latches stay as they are. FLT_IN_N raises E3, a stuck input E6, and the seventeenth ignored pulse in 10 ms E7 where none was raised for 100 ms; other ignored pulses are counted; in AO neither is taken from RESET_N and FLT_IN_N. LOADSTEP rises for a swap that it announces and falls after it; anticipation ends. -/
def Obligations.InputsAndWakes : Prop :=
  ∀ (n : Fin 4) (s : State),
    let awake := setInput s 1 { inputOf s 1 with active := true, stuck := false }
    (s.power.device = 1 → s.power.testEn = false →
      (∃ t, exec .wakeRise s = .next t ∧ t.power.device = 2 ∧ t.power.tStart = s.now ∧ inputOf t 1 = inputOf awake 1) ∧
      (s.flag Reg.pwrCanWake = true → ∃ t, exec .canWake s = .next t ∧ t.power.device = 2 ∧ t.power.tStart = s.now)) ∧
    (s.power.device = 3 ∨ s.power.device = 4 →
      exec .wakeRise s = .next { awake with power := { awake.power with wakeLow := none } } ∧
      (∀ start, s.power.wakeLow = some start → s.reg Reg.pwrStartMode = 1 →
        exec .wakeOffTimeout s = .next (let m := s.atLeast (start + s.reg Reg.pwrWakeOffMs * 1000000); { m with power := { m.power with wakeLow := none, request := some 3 } }))) ∧
    (s.power.device = 5 → s.power.testEn = false →
      exec .resetNPulse s = .next (let m := setInput s 0 { inputOf s 0 with stuck := false }; { m with bist := { m.bist with aborted := true } })) ∧
    (2 ≤ s.power.device → s.power.device ≤ 4 →
      ∃ t, exec .resetNPulse s = .next t ∧ t.power.device = 2 ∧ t.power.restart = true ∧ t.power.tStart = s.now ∧ t.latches = s.latches) ∧
    (s.power.device ≠ 0 →
      let stuck := setInput s n { inputOf s n with stuck := true }
      let x := inputOf s n
      let recent := x.recent.filter (fun t => decide (s.now < t + 10000000)) ++ [s.now]
      let u := s.bump (Reg.pwrInputChatter n)
      let quiet : Prop := ∀ t, x.lastChatter = some t → t + 100000000 ≤ s.now
      let served : Prop := 2 ≤ s.power.device ∨ s.power.device = 1 ∧ n.val ≠ 0 ∧ n.val ≠ 2
      (exec .wakeFall s = .next (let m := setInput s 1 { inputOf s 1 with active := false, stuck := false }; { m with power := { m.power with wakeLow := some s.now } })) ∧
      (¬ served → exec (.inputStuck n) s = .next s ∧ exec (.inputPulseIgnored n) s = .next s) ∧
      (served → x.stuck = false → ∃ t, exec (.inputStuck n) s = .next t ∧ After stuck [6] t) ∧
      (served → 16 < recent.length → quiet → ∃ t, exec (.inputPulseIgnored n) s = .next t ∧ After (setInput u n { x with recent := recent, lastChatter := some s.now }) [7] t) ∧
      (served → recent.length ≤ 16 ∨ ¬ quiet → exec (.inputPulseIgnored n) s = .next (setInput u n { x with recent := recent }))) ∧
    (2 ≤ s.power.device → s.power.fltIn = false →
      let u := setInput s 2 { inputOf s 2 with active := true }
      ∃ t, exec .fltIn s = .next t ∧ After (noteSupply { u with power := { u.power with fltIn := true } }) [3] t) ∧
    (exec .fltInRelease s = .next (let m := setInput s 2 { inputOf s 2 with active := false, stuck := false }; { m with power := { m.power with fltIn := false } })) ∧
    (s.scan.running = true → s.power.loadstep = false → loadstepDue s = true →
      let m := s.atLeast (nextBoundary s - s.reg Reg.pwrLoadstepLeadUs * 1000)
      let rising : Bool := decide (frontCurrent m < backCurrent m)
      ∃ t, exec .loadstepRise s = .next t ∧ t.now = m.now ∧ t.power.loadstep = true ∧ t.power.loadSwapped = false ∧ t.power.boostHold = rising ∧
        t.power.vT = (if rising = true ∧ s.power.litSeen = true then Nat.min (s.power.vT + s.reg Reg.pwrHdrmBoostMv) (Nat.max (s.reg Reg.pwrVledMaxMv) s.power.vT) else s.power.vT)) ∧
    (s.power.loadstep = true → s.power.loadSwapped = true →
      exec .loadstepFall s = .next (let m := s.atLeast (s.scan.frameStart + scanNs s); { m with power := { m.power with loadstep := false, loadSwapped := false }, lamp := { m.lamp with loadstepFell := some m.now } })) ∧
    (∀ start, s.power.vbatGood = some start → s.power.anticipating = true →
      exec .anticipationEnd s = .next (let m := s.atLeast (start + s.reg Reg.pwrVbatHoldMs * 1000000); { m with power := { m.power with anticipating := false } }))

/-- The Lantern beam: its load, host silence and the loss of the feed (R500, R501, R502). The loader of a Lantern beam that waits leaves every sound tile of a powered half in the back latches and the frame loaded. In READY and LIT a silent host raises E96 once, and it or a failed feed lights the Lantern beam with E97 and its cause where no shutdown, no lockout and no Lantern beam stands. -/
def Obligations.LanternBeam : Prop :=
  ∀ (bad again : List Nat) (s : State),
    (s.lantern.state = 1 → s.lantern.loaded = false → domainOn s 4 = true → domainOn s 7 = true → allSwapped s = true →
      ∃ t, exec (.lanternLoadDone bad again) s = .next t ∧ t.lantern.loaded = true ∧ t.lantern.state = 1 ∧
        ∀ k i, k < 4096 → i < 256 → k ∉ bad → lanternTileOk s s.lantern.frame k = true → loadableTile s k = true →
          latchGet t false (tilePixelIndex k i) = (halves (lanternTile s s.lantern.frame k)).getD i 0) ∧
    (s.power.device = 3 ∨ s.power.device = 4 →
      let mayLight : Prop := s.therm.shutdown = false ∧ s.flag Reg.bistLockout = false ∧ s.lantern.state = 0
      (∀ since, s.host.since = some since → s.host.raised = false → firmwareRuns s 0 = true →
        let m := s.atLeast (since + s.reg Reg.hostTimeoutMs * 1000000)
        (s.therm.shutdown = true → ∃ t, exec .hostTimeout s = .next t ∧ After { m with host := { m.host with raised := true } } [96] t) ∧
        (mayLight → ∃ t, exec .hostTimeout s = .next t ∧ t.now = m.now ∧ t.host.raised = true ∧ t.lantern.state = 1 ∧ t.lantern.cause = 1 ∧
          t.lantern.frame = s.reg Reg.lanternSelect ∧ Raised 96 s t ∧ Raised 97 s t)) ∧
      (feedValid s = false → mayLight → ∃ t, exec .feedLoss s = .next t ∧ t.lantern.state = 1 ∧ t.lantern.cause = 2 ∧
        t.lantern.frame = s.reg Reg.lanternSelect ∧ Raised 97 s t))

/-- The end of BOOT and the shutdown BIST (R467, R489, R490, R491, R493, R494, R495, R497, R498). BOOT ends in LIT with the Lantern beam lit and in READY without, once the start BIST is complete, whose failure locks out with E122. The blocks of the sequencer, of the Lantern tiles and of the seal never fail; B2, B3, B5, B6, B8 and B9 fail in a step whose own elements fail with the condition of their block met; a step that fails is not covered. In SHUTDOWN-BIST the firmware window opens, with the trim map saved, and ends with every engine halted and the sequencer begun; a step takes its verdict into the signature and the record; the last step seals the record as COMPLETE and the device enters AO; an abort leaves the record ABORTED at its step and starts the device. -/
def Obligations.SelfTests : Prop :=
  ∀ (v : StepObs) (b : StartBistObs) (s : State),
    (s.power.device = 2 → s.bist.startBlocks = [] → ∃ t, exec .bootEnd s = .next t ∧ t.power.device = (if lanternLit s then 4 else 3) ∧ t.host.since = some s.now) ∧
    (s.power.device = 2 → s.bist.startBlocks ≠ [] → ∃ t, exec (.startBistDone b) s = .next t ∧ t.bist.startBlocks = [] ∧
      ((startVerdict s s.bist.startBlocks b).1 = none → t.reg Reg.bistLockout = 0 ∧ t.reg Reg.bistFirstFail = 0xFFFF) ∧
      (b.steps = [] → t.reg Reg.bistLockout = 0) ∧
      (∀ k, (startVerdict s s.bist.startBlocks b).1 = some k → t.reg Reg.bistLockout = 1 ∧ t.reg Reg.bistFirstFail = k ∧ stepBlock k ∈ s.bist.startBlocks ∧ Raised 122 s t)) ∧
    (∀ r k,
      let fails := (stepVerdict s r k v).1
      let passed := bitAt v.passed 0
      (fails = true → (stepVerdict s r k v).2.1 = false) ∧ (stepBlock k = 0 ∨ stepBlock k = 10 ∨ stepBlock k = 11 → fails = false) ∧
      (stepBlock k = 2 → fails = (!passed && !bitAt v.passed 1)) ∧
      (stepBlock k = 3 → fails = (!passed && decide (2 ≤ (List.range 5).countP (fun j => bitAt r.slices j || j == (k - 66) / 4)))) ∧
      (stepBlock k = 5 → fails = (!passed && !bitAt v.passed 1 && decide (8 ≤ r.sensors))) ∧
      (stepBlock k = 6 → fails = (!passed && decide (1 ≤ r.prots))) ∧ (stepBlock k = 9 → fails = (!passed && decide (1 ≤ r.engines))) ∧
      (stepBlock k = 8 → fails = (!passed && decide (32 ≤ sparesUsed s (k - 133))))) ∧
    (s.power.device = 5 →
      (s.bist.window = false → s.bist.running = false → ∃ t, exec .shutdownBist s = .next t ∧ t.bist.window = true ∧ t.bist.running = false ∧
        t.mram.trim = (if firmwareRuns s 3 && s.cal.trimChanged then (saveTrim s).mram.trim else s.mram.trim)) ∧
      (s.bist.window = true → ∃ t, exec .bistFirmwareWindowEnd s = .next t ∧ t.now = Nat.max s.now (s.bist.entered + 20000000) ∧
        t.bist.window = false ∧ t.bist.running = true ∧ t.bist.step = 0 ∧ t.bist.sig = 0xFFFFFFFF ∧ t.scan.running = false ∧
        ∀ e, e < 9 → (engOf t e).run = .idle ∨ (engOf t e).run = .failed) ∧
      (s.bist.aborted = true → ∃ t, exec .bistAbort s = .next t ∧ t.power.device = 2 ∧ t.bist.asRead.state = 3 ∧ t.bist.asRead.stepsDone = s.bist.step) ∧
      (s.bist.running = true → s.bist.aborted = false →
        let k := s.bist.step + 1
        let fail := (stepVerdict s s.bist.found k v).1
        let sig := crc32cUpdate s.bist.sig (bytesLE 2 k ++ [BitVec.ofNat 8 (b2n fail)])
        (v.vledLow = false ∨ (stepBlock k ≠ 1 ∧ stepBlock k ≠ 2) →
          (k ≠ 686 → ∃ t, exec (.hallmarkStepDone v) s = .next t ∧ t.bist.step = k ∧ t.bist.sig = sig ∧ t.mram.hallmark.state = 1 ∧ t.mram.hallmark.stepsDone = k ∧
            t.bist.record.firstFail = (if fail && s.bist.record.firstFail == 0xFFFF then k else s.bist.record.firstFail)) ∧
          (k = 686 → ∃ t, exec (.hallmarkStepDone v) s = .next t ∧ t.power.device = 1 ∧ t.mram.hallmark.valid = true ∧ t.mram.hallmark.state = 2 ∧
            t.mram.hallmark.stepsDone = 686 ∧ t.mram.hallmark.signature = crc32cUpdate sig (bytesLE 2 686 ++ sealMarker))) ∧
        (v.vledLow = true → stepBlock k = 1 ∨ stepBlock k = 2 → ∃ t, exec (.hallmarkStepDone v) s = .next t ∧ t.power.device = 1 ∧
          t.mram.hallmark.state = 3 ∧ t.mram.hallmark.stepsDone = s.bist.step)))

/-- The fatal-error dump and the TAP (R510, R518, R534). With CMP powered a trigger that is due begins a dump where none stands and none is written, and is counted otherwise; while one is written an entry of Q14 adds a firmware section. 50 ms later the dump closes with E121, its sequence and its length. TRST_N low resets the TAP; an edge of TCK moves it as IEEE 1149.1 has it, and the capture under IDCODE takes the 32 bits of the IDCODE. -/
def Obligations.DumpAndTap : Prop :=
  ∀ (j : JtagObs) (b : List Byte) (u : State) (s : State),
    (domainOn s 3 = true →
      (∀ a e c, s.dump.due = some (a, e, c) →
        let m := { s with dump := { s.dump with due := none } }
        (s.reg Reg.dumpSeq = 0 → s.dump.writing = false → ∃ t, exec (.dumpTrigger []) s = .next t ∧ t.dump.writing = true ∧ t.dump.trigger = a ∧ t.dump.engine = e ∧
          t.dump.cause = c ∧ t.dump.started = s.now ∧ t.dump.due = none ∧ t = { s with dump := t.dump }) ∧
        (s.reg Reg.dumpSeq ≠ 0 ∨ s.dump.writing = true → exec (.dumpTrigger []) s = .next (m.bump Reg.dumpSuppressed))) ∧
      (s.dump.due = none → s.dump.writing = true → qTake s 14 = (some b, u) → 0x0100 ≤ field b 0 2 → field b 0 2 ≤ 0x01FF →
        exec (.dumpTrigger []) s = .next { u with dump := { u.dump with sections := s.dump.sections ++ dumpSection (field b 0 2) (slice b 8 24) } }) ∧
      (s.dump.writing = true → 64 ≤ s.dump.hardware.length → ∃ t, exec (.dumpClose []) s = .next t ∧ t.now = Nat.max s.now (s.dump.started + 50000000) ∧
        t.dump.writing = false ∧ t.dump.length = s.dump.hardware.length + s.dump.sections.length + 8 ∧ t.reg Reg.dumpSeq = field s.dump.hardware 8 4 ∧ Raised 121 s t)) ∧
    (s.power.device ≠ 0 →
      (j.trstN = false ∨ s.power.vio = false → exec (.tckEdge j) s = .next { s with jtag := { s.jtag with tap := 0, ir := 3, tdo := none } }) ∧
      (j.trstN = true → s.power.vio = true →
        ∃ t, exec (.tckEdge j) s = .next t ∧ t.jtag.tap = (if j.rising then tapNext s.jtag.tap j.tms else s.jtag.tap) ∧
          (j.rising = true → s.jtag.tap = 3 → s.jtag.ir = 3 → t.jtag.dr = (List.range 32).map (fun i => bitAt (idcode s) i)) ∧
          (j.rising = true → s.jtag.tap = 4 → t.jtag.dr = s.jtag.dr.drop 1 ++ [j.tdi]) ∧
          (j.rising = false → s.jtag.tap = 4 → t.jtag.tdo = s.jtag.dr.head?) ∧
          (j.rising = false → s.jtag.tap = 15 → t.jtag.ir = jtagInstr s.jtag.irShift)))

/-- The state before power (R465, R467). Before tV the device is OFF: every domain is off, no latch holds light, no command waits, no session is open, no engine runs, the sequencer rests, and every dictionary entry reads its default. Memory and register file are in their canonical forms, and no raise is held back. -/
def Obligations.ResetState : Prop :=
  State.reset.power.device = 0 ∧ (∀ d, 1 ≤ d → d ≤ 7 → domainOf State.reset d = ⟨0, false, false⟩) ∧ State.reset.latches.a = [] ∧ State.reset.latches.b = [] ∧
  State.reset.pending = [] ∧ (∀ n, 1 ≤ n → n ≤ 8 → (sessOf State.reset n).isOpen = false) ∧ (∀ e, e < 9 → (engOf State.reset e).run = .idle) ∧
  State.reset.scan.running = false ∧ (∀ k, State.reset.reg k = dictDefault k) ∧ StoreCanonical State.reset ∧ RegsCanonical State.reset ∧ State.reset.events.gathering = none

/-- Every step keeps the memory of the pixel store canonical (R254, R255, R264, R472). From every state whose store memory is in its canonical form, a step of any command that answers a next state leaves the store memory in its canonical form. The form is the model's choice (log 4). -/
def Obligations.StoreStaysCanonical : Prop :=
  ∀ s t : State, StoreCanonical s → step s = .next t → StoreCanonical t

/-- Every step keeps the register file canonical (R303, R304, R313, R384). From every state whose register file is in its canonical form, a step of any command that answers a next state leaves the register file in its canonical form. The form is the model's choice (log 69). -/
def Obligations.RegsStayCanonical : Prop :=
  ∀ s t : State, RegsCanonical s → step s = .next t → RegsCanonical t

/-- No raise is held back between commands (R384). From every state in which no raised event is held back, a step of any command that answers a next state leaves none held back: a command that gathers its raises, to handle them in ascending order of the source, handles them at its end. Which commands gather is the model's choice (log 197). -/
def Obligations.NoRaiseHeldBack : Prop :=
  ∀ s t : State, s.events.gathering = none → step s = .next t → t.events.gathering = none

end
end

