-- ==== Sys2Proof/WellFormed.lean ====
section
/-!
DEFINITION. Which commands are well-formed: what an observation may name lies inside the device. The operand types already hold every
field of the commands to its width; these are the bounds that no type states.
-/

namespace Sys2Proof

/-- ECC findings name bytes of the pixel store (R250: 48 MiB). -/
def eccOk (l : List EccFinding) : Bool := l.all (fun x => decide (x.addr < 50331648))

/-- Probes name pixels of the array (R36: 2,048 by 512). -/
def probesOk (l : List Probe) : Bool := l.all (fun x => decide (x.pixel < 1048576))

/-- The observations of a phase slot. -/
def SlotObs.ok (o : SlotObs) : Bool :=
  probesOk o.probes && probesOk o.subth && probesOk o.listen && o.lit.all (fun x => decide (x.pixel < 1048576)) &&
  o.conductDiff.all (fun p => decide (p < 1048576))

/-- A result of a converter is a 16-bit code (R422). -/
def rawOk (r : Int) : Bool := decide (-32768 ≤ r) && decide (r ≤ 65535)

/-- What the reads of a request found, by the host that writes or by no host. -/
def Writer.ok : Writer → Bool
  | .host h => eccOk h.ecc
  | .firmware => true

/-- Whether a command is well-formed. -/
def Instr.wf (i : Instr) : Bool :=
  match i with
  | .scanBoundary o => decide (o.slack ≤ 256) && eccOk o.ecc && o.again.all (fun t => decide (t < 4096))
  | .clusterSwap _ again echo => again.all (fun t => decide (t < 4096)) && echo.all (fun e => decide (e.pixel < 1048576))
  | .faultNotice ecc | .agingNotice ecc | .dumpTrigger ecc | .dumpClose ecc => eccOk ecc
  | .kdpPacket _ ecc | .put _ _ ecc | .canFrameRx _ _ ecc => eccOk ecc
  | .read h _ | .readStaged h _ | .describe h _ | .write h _ _ | .writeStaged h _ _ | .commit h _ | .segmentedWriteStart h _ _ _ | .segmentedReadStart h _ => eccOk h.ecc
  | .segmentWrite h _ _ _ | .segmentRead h _ _ | .sessionOpen h | .heartbeat h _ | .takeKey h | .releaseKey h | .force h | .discardStaged h | .close h => eccOk h.ecc
  | .dropService h | .unlockChallenge h | .unlockResponse h _ | .unlockKeyWrite h _ | .imageWrite h _ | .calImport h _ => eccOk h.ecc
  | .commitRequest w _ | .driveRecompute w | .diagClear w _ | .diagDisable w | .laneEnableMaskWrite w _ | .chanCreate w _ | .chanDestroy w _ | .queueEntriesWrite w _ _ => w.ok
  | .assayReset w _ | .assayConfigWrite w _ _ | .rectLearn w _ | .dictSave w | .dictRestore w | .canModeWrite w _ _ | .registerWrite w _ _ | .imageActivate w => w.ok
  | .evtClear w _ | .adcgFire w _ | .adcgEnable w _ _ | .adcInjRequest (.write w) | .pwrRequestReady w | .pwrRequestLit w | .pwrRequestSleep w => w.ok
  | .arrayMaskWrite w _ | .lanternCommand w | .lanternRelease w | .dumpClear w => w.ok
  | .rectValueCheck _ ecc => eccOk ecc
  | .readbackReq _ o => eccOk o.ecc
  | .phaseSlot o => o.ok
  | .composeTileDone _ o => eccOk o.ecc
  | .driveTileDone _ o => eccOk o.ecc
  | .latchLoadTileDone _ o l => eccOk o.ecc && l.all (fun e => decide (e.pixel < 1048576))
  | .writebackDone o => eccOk o.ecc
  | .regionLanded o => eccOk o.ecc
  | .moveComplete _ o _ => eccOk o.ecc
  | .rowRepairDone r => decide (r < 24576)
  | .mirrorBuildDone o => o.tiles.all (fun t => decide (t < 4096)) && o.aging.all (fun p => decide (p < 1048576)) &&
      o.trim.all (fun k => decide (k < 65536)) && o.again.all (fun t => decide (t < 4096))
  | .lanternLoadDone l again => l.all (fun t => decide (t < 4096)) && again.all (fun t => decide (t < 4096))
  | .adcConversionDone _ r p => rawOk r && rawOk p
  | .adcGridPoint z => rawOk z.target && rawOk z.spare
  | _ => true

end Sys2Proof
end

