-- ==== Sys2Proof/Laws/PerInstr.lean ====
section
/-!
SUPPORT. Per command, as syntax: a command that has an engine's word (R352, R353) is well-formed.
-/

namespace Sys2Proof.Laws

/-- A command that has an instruction word is well-formed: the widths of the fields of a word are all that an instruction needs. -/
def WordWf.Statement (i : Instr) : Prop := ∀ w, encodeEngine i = some w → i.wf = true

theorem WordWf.xinLoss : WordWf.Statement .xinLoss := fun _ h => nomatch (h : none = some _)

theorem WordWf.xinRestored : WordWf.Statement .xinRestored := fun _ h => nomatch (h : none = some _)

theorem WordWf.scanBoundary (o : ScanObs) : WordWf.Statement (.scanBoundary o) := fun _ h => nomatch (h : none = some _)

theorem WordWf.phaseSlot (o : SlotObs) : WordWf.Statement (.phaseSlot o) := fun _ h => nomatch (h : none = some _)

theorem WordWf.coverageRewrite : WordWf.Statement .coverageRewrite := fun _ h => nomatch (h : none = some _)

theorem WordWf.listenRoundEnd : WordWf.Statement .listenRoundEnd := fun _ h => nomatch (h : none = some _)

theorem WordWf.massGuardRearm : WordWf.Statement .massGuardRearm := fun _ h => nomatch (h : none = some _)

theorem WordWf.frameBoundary : WordWf.Statement .frameBoundary := fun _ h => nomatch (h : none = some _)

theorem WordWf.clusterSwap (g : Fin 16) (again : List Nat) (echo : List EchoFault) : WordWf.Statement (.clusterSwap g again echo) := fun _ h => nomatch (h : none = some _)

theorem WordWf.teOutRise : WordWf.Statement .teOutRise := fun _ h => nomatch (h : none = some _)

theorem WordWf.commitWindowClose : WordWf.Statement .commitWindowClose := fun _ h => nomatch (h : none = some _)

theorem WordWf.admissionPoint : WordWf.Statement .admissionPoint := fun _ h => nomatch (h : none = some _)

theorem WordWf.syncEdge : WordWf.Statement .syncEdge := fun _ h => nomatch (h : none = some _)

theorem WordWf.syncEdgeMissing : WordWf.Statement .syncEdgeMissing := fun _ h => nomatch (h : none = some _)

theorem WordWf.syncAcquireTimeout : WordWf.Statement .syncAcquireTimeout := fun _ h => nomatch (h : none = some _)

theorem WordWf.commitRequest (by_ : Writer) (tag : Byte) : WordWf.Statement (.commitRequest by_ tag) := fun _ h => nomatch (h : none = some _)

theorem WordWf.composeTileDone (t : Fin 4096) (o : TileObs) : WordWf.Statement (.composeTileDone t o) := fun _ h => nomatch (h : none = some _)

theorem WordWf.driveTileDone (t : Fin 4096) (o : TileObs) : WordWf.Statement (.driveTileDone t o) := fun _ h => nomatch (h : none = some _)

theorem WordWf.latchLoadTileDone (t : Fin 4096) (o : TileObs) (echo : List EchoFault) : WordWf.Statement (.latchLoadTileDone t o echo) := fun _ h => nomatch (h : none = some _)

theorem WordWf.driveRecompute (by_ : Writer) : WordWf.Statement (.driveRecompute by_) := fun _ h => nomatch (h : none = some _)

theorem WordWf.faultNotice (ecc : List EccFinding) : WordWf.Statement (.faultNotice ecc) := fun _ h => nomatch (h : none = some _)

theorem WordWf.diagClear (by_ : Writer) (pixel : Word) : WordWf.Statement (.diagClear by_ pixel) := fun _ h => nomatch (h : none = some _)

theorem WordWf.diagDisable (by_ : Writer) : WordWf.Statement (.diagDisable by_) := fun _ h => nomatch (h : none = some _)

theorem WordWf.writebackDone (o : TileObs) : WordWf.Statement (.writebackDone o) := fun _ h => nomatch (h : none = some _)

theorem WordWf.laneBitLock (k : Fin 4) (net0 net1 : Nat) : WordWf.Statement (.laneBitLock k net0 net1) := fun _ h => nomatch (h : none = some _)

theorem WordWf.trainingSequence (k : Fin 4) (ts : TrainSeq) : WordWf.Statement (.trainingSequence k ts) := fun _ h => nomatch (h : none = some _)

theorem WordWf.laneAdaptDone (k : Fin 4) (a : AdaptObs) : WordWf.Statement (.laneAdaptDone k a) := fun _ h => nomatch (h : none = some _)

theorem WordWf.laneDeskewDone (k : Fin 4) : WordWf.Statement (.laneDeskewDone k) := fun _ h => nomatch (h : none = some _)

theorem WordWf.rungTimeout (k : Fin 4) : WordWf.Statement (.rungTimeout k) := fun _ h => nomatch (h : none = some _)

theorem WordWf.linkUpWaitEnd : WordWf.Statement .linkUpWaitEnd := fun _ h => nomatch (h : none = some _)

theorem WordWf.emiUpdate (k : Fin 4) (eye : EyeObs) : WordWf.Statement (.emiUpdate k eye) := fun _ h => nomatch (h : none = some _)

theorem WordWf.laneEmiDrop (k : Fin 4) : WordWf.Statement (.laneEmiDrop k) := fun _ h => nomatch (h : none = some _)

theorem WordWf.lullSetReceived (k : Fin 4) (lull : LullObs) : WordWf.Statement (.lullSetReceived k lull) := fun _ h => nomatch (h : none = some _)

theorem WordWf.lullSetSend : WordWf.Statement .lullSetSend := fun _ h => nomatch (h : none = some _)

theorem WordWf.linkPacket (k : Fin 4) (symbols : List LaneSymbol) : WordWf.Statement (.linkPacket k symbols) := fun _ h => nomatch (h : none = some _)

theorem WordWf.ack (k : Fin 4) (symbols : List LaneSymbol) : WordWf.Statement (.ack k symbols) := fun _ h => nomatch (h : none = some _)

theorem WordWf.nak (k : Fin 4) (symbols : List LaneSymbol) : WordWf.Statement (.nak k symbols) := fun _ h => nomatch (h : none = some _)

theorem WordWf.credit (k : Fin 4) (symbols : List LaneSymbol) : WordWf.Statement (.credit k symbols) := fun _ h => nomatch (h : none = some _)

theorem WordWf.drop (k : Fin 4) (symbols : List LaneSymbol) : WordWf.Statement (.drop k symbols) := fun _ h => nomatch (h : none = some _)

theorem WordWf.replayTimeout (k : Fin 4) : WordWf.Statement (.replayTimeout k) := fun _ h => nomatch (h : none = some _)

theorem WordWf.laneLost (k : Fin 4) (cause : Fin 6) : WordWf.Statement (.laneLost k cause) := fun _ h => nomatch (h : none = some _)

theorem WordWf.laneRejoin (k : Fin 4) (lull : LullObs) : WordWf.Statement (.laneRejoin k lull) := fun _ h => nomatch (h : none = some _)

theorem WordWf.laneEnableMaskWrite (by_ : Writer) (mask : Byte) : WordWf.Statement (.laneEnableMaskWrite by_ mask) := fun _ h => nomatch (h : none = some _)

theorem WordWf.partnerAbsent : WordWf.Statement .partnerAbsent := fun _ h => nomatch (h : none = some _)

theorem WordWf.region (packet : List Byte) : WordWf.Statement (.region packet) := fun _ h => nomatch (h : none = some _)

theorem WordWf.regionLanded (o : TileObs) : WordWf.Statement (.regionLanded o) := fun _ h => nomatch (h : none = some _)

theorem WordWf.setClose (packet : List Byte) : WordWf.Statement (.setClose packet) := fun _ h => nomatch (h : none = some _)

theorem WordWf.setCommit (packet : List Byte) : WordWf.Statement (.setCommit packet) := fun _ h => nomatch (h : none = some _)

theorem WordWf.kdpPacket (packet : List Byte) (ecc : List EccFinding) : WordWf.Statement (.kdpPacket packet ecc) := fun _ h => nomatch (h : none = some _)

theorem WordWf.readbackReq (packet : List Byte) (o : TileObs) : WordWf.Statement (.readbackReq packet o) := fun _ h => nomatch (h : none = some _)

theorem WordWf.chanCreate (by_ : Writer) (descriptor : List Byte) : WordWf.Statement (.chanCreate by_ descriptor) := fun _ h => nomatch (h : none = some _)

theorem WordWf.chanDestroy (by_ : Writer) (handle : Word) : WordWf.Statement (.chanDestroy by_ handle) := fun _ h => nomatch (h : none = some _)

theorem WordWf.deferredFree (slot : Fin 256) : WordWf.Statement (.deferredFree slot) := fun _ h => nomatch (h : none = some _)

theorem WordWf.rowRepairDone (row : Nat) : WordWf.Statement (.rowRepairDone row) := fun _ h => nomatch (h : none = some _)

theorem WordWf.queueEntriesWrite (by_ : Writer) (q : Fin 16) (n : Half) : WordWf.Statement (.queueEntriesWrite by_ q n) := fun _ h => nomatch (h : none = some _)

theorem WordWf.assayReset (by_ : Writer) (a : Fin 8) : WordWf.Statement (.assayReset by_ a) := fun _ h => nomatch (h : none = some _)

theorem WordWf.assayConfigWrite (by_ : Writer) (a : Fin 8) (v : Word) : WordWf.Statement (.assayConfigWrite by_ a v) := fun _ h => nomatch (h : none = some _)

theorem WordWf.rectValueCheck (r : Fin 16) (ecc : List EccFinding) : WordWf.Statement (.rectValueCheck r ecc) := fun _ h => nomatch (h : none = some _)

theorem WordWf.rectLearn (by_ : Writer) (r : Fin 16) : WordWf.Statement (.rectLearn by_ r) := fun _ h => nomatch (h : none = some _)

theorem WordWf.lightCheck (r : Fin 16) : WordWf.Statement (.lightCheck r) := fun _ h => nomatch (h : none = some _)

theorem WordWf.read (h : Hdr) (entry : EntryRef) : WordWf.Statement (.read h entry) := fun _ h => nomatch (h : none = some _)

theorem WordWf.readStaged (h : Hdr) (entry : EntryRef) : WordWf.Statement (.readStaged h entry) := fun _ h => nomatch (h : none = some _)

theorem WordWf.describe (h : Hdr) (entry : EntryRef) : WordWf.Statement (.describe h entry) := fun _ h => nomatch (h : none = some _)

theorem WordWf.write (h : Hdr) (entry : EntryRef) (value : List Byte) : WordWf.Statement (.write h entry value) := fun _ h => nomatch (h : none = some _)

theorem WordWf.writeStaged (h : Hdr) (entry : EntryRef) (value : List Byte) : WordWf.Statement (.writeStaged h entry value) := fun _ h => nomatch (h : none = some _)

theorem WordWf.commit (h : Hdr) (tag : Byte) : WordWf.Statement (.commit h tag) := fun _ h => nomatch (h : none = some _)

theorem WordWf.segmentedWriteStart (h : Hdr) (entry : EntryRef) (staged : Bool) (total : Word) : WordWf.Statement (.segmentedWriteStart h entry staged total) := fun _ h => nomatch (h : none = some _)

theorem WordWf.segmentedReadStart (h : Hdr) (entry : EntryRef) : WordWf.Statement (.segmentedReadStart h entry) := fun _ h => nomatch (h : none = some _)

theorem WordWf.segmentWrite (h : Hdr) (offset : Word) (data : List Byte) (last : Bool) : WordWf.Statement (.segmentWrite h offset data last) := fun _ h => nomatch (h : none = some _)

theorem WordWf.segmentRead (h : Hdr) (offset : Word) (count : Half) : WordWf.Statement (.segmentRead h offset count) := fun _ h => nomatch (h : none = some _)

theorem WordWf.sessionOpen (h : Hdr) : WordWf.Statement (.sessionOpen h) := fun _ h => nomatch (h : none = some _)

theorem WordWf.heartbeat (h : Hdr) (flags : Byte) : WordWf.Statement (.heartbeat h flags) := fun _ h => nomatch (h : none = some _)

theorem WordWf.takeKey (h : Hdr) : WordWf.Statement (.takeKey h) := fun _ h => nomatch (h : none = some _)

theorem WordWf.releaseKey (h : Hdr) : WordWf.Statement (.releaseKey h) := fun _ h => nomatch (h : none = some _)

theorem WordWf.force (h : Hdr) : WordWf.Statement (.force h) := fun _ h => nomatch (h : none = some _)

theorem WordWf.discardStaged (h : Hdr) : WordWf.Statement (.discardStaged h) := fun _ h => nomatch (h : none = some _)

theorem WordWf.close (h : Hdr) : WordWf.Statement (.close h) := fun _ h => nomatch (h : none = some _)

theorem WordWf.dropService (h : Hdr) : WordWf.Statement (.dropService h) := fun _ h => nomatch (h : none = some _)

theorem WordWf.sessionTimeout (n : Fin 8) : WordWf.Statement (.sessionTimeout n) := fun _ h => nomatch (h : none = some _)

theorem WordWf.dictSave (by_ : Writer) : WordWf.Statement (.dictSave by_) := fun _ h => nomatch (h : none = some _)

theorem WordWf.dictRestore (by_ : Writer) : WordWf.Statement (.dictRestore by_) := fun _ h => nomatch (h : none = some _)

theorem WordWf.unlockChallenge (h : Hdr) : WordWf.Statement (.unlockChallenge h) := fun _ h => nomatch (h : none = some _)

theorem WordWf.unlockResponse (h : Hdr) (mac : List Byte) : WordWf.Statement (.unlockResponse h mac) := fun _ h => nomatch (h : none = some _)

theorem WordWf.unlockKeyWrite (h : Hdr) (key : List Byte) : WordWf.Statement (.unlockKeyWrite h key) := fun _ h => nomatch (h : none = some _)

theorem WordWf.unlockBlockEnd : WordWf.Statement .unlockBlockEnd := fun _ h => nomatch (h : none = some _)

theorem WordWf.put (length : Half) (bytes : List Byte) (ecc : List EccFinding) : WordWf.Statement (.put length bytes ecc) := fun _ h => nomatch (h : none = some _)

theorem WordWf.get (clocked : Nat) : WordWf.Statement (.get clocked) := fun _ h => nomatch (h : none = some _)

theorem WordWf.stat : WordWf.Statement .stat := fun _ h => nomatch (h : none = some _)

theorem WordWf.spiUnknownCommand (command : Byte) : WordWf.Statement (.spiUnknownCommand command) := fun _ h => nomatch (h : none = some _)

theorem WordWf.canFrameRx (c : Fin 2) (f : CanFrame) (ecc : List EccFinding) : WordWf.Statement (.canFrameRx c f ecc) := fun _ h => nomatch (h : none = some _)

theorem WordWf.canBitrateApply (c : Fin 2) : WordWf.Statement (.canBitrateApply c) := fun _ h => nomatch (h : none = some _)

theorem WordWf.canModeWrite (by_ : Writer) (c : Fin 2) (mode : Byte) : WordWf.Statement (.canModeWrite by_ c mode) := fun _ h => nomatch (h : none = some _)

theorem WordWf.registerWrite (by_ : Writer) (entry : EntryRef) (value : List Byte) : WordWf.Statement (.registerWrite by_ entry value) := fun _ h => nomatch (h : none = some _)

theorem WordWf.add (e : Fin 9) (rd ra rb : Fin 32) : WordWf.Statement (.add e rd ra rb) := fun _ _ => rfl

theorem WordWf.sub (e : Fin 9) (rd ra rb : Fin 32) : WordWf.Statement (.sub e rd ra rb) := fun _ _ => rfl

theorem WordWf.and (e : Fin 9) (rd ra rb : Fin 32) : WordWf.Statement (.and e rd ra rb) := fun _ _ => rfl

theorem WordWf.or (e : Fin 9) (rd ra rb : Fin 32) : WordWf.Statement (.or e rd ra rb) := fun _ _ => rfl

theorem WordWf.xor (e : Fin 9) (rd ra rb : Fin 32) : WordWf.Statement (.xor e rd ra rb) := fun _ _ => rfl

theorem WordWf.sll (e : Fin 9) (rd ra rb : Fin 32) : WordWf.Statement (.sll e rd ra rb) := fun _ _ => rfl

theorem WordWf.srl (e : Fin 9) (rd ra rb : Fin 32) : WordWf.Statement (.srl e rd ra rb) := fun _ _ => rfl

theorem WordWf.sra (e : Fin 9) (rd ra rb : Fin 32) : WordWf.Statement (.sra e rd ra rb) := fun _ _ => rfl

theorem WordWf.mul (e : Fin 9) (rd ra rb : Fin 32) : WordWf.Statement (.mul e rd ra rb) := fun _ _ => rfl

theorem WordWf.mulh (e : Fin 9) (rd ra rb : Fin 32) : WordWf.Statement (.mulh e rd ra rb) := fun _ _ => rfl

theorem WordWf.mulhu (e : Fin 9) (rd ra rb : Fin 32) : WordWf.Statement (.mulhu e rd ra rb) := fun _ _ => rfl

theorem WordWf.div (e : Fin 9) (rd ra rb : Fin 32) : WordWf.Statement (.div e rd ra rb) := fun _ _ => rfl

theorem WordWf.divu (e : Fin 9) (rd ra rb : Fin 32) : WordWf.Statement (.divu e rd ra rb) := fun _ _ => rfl

theorem WordWf.rem (e : Fin 9) (rd ra rb : Fin 32) : WordWf.Statement (.rem e rd ra rb) := fun _ _ => rfl

theorem WordWf.remu (e : Fin 9) (rd ra rb : Fin 32) : WordWf.Statement (.remu e rd ra rb) := fun _ _ => rfl

theorem WordWf.cmp (e : Fin 9) (ra rb : Fin 32) : WordWf.Statement (.cmp e ra rb) := fun _ _ => rfl

theorem WordWf.clz (e : Fin 9) (rd ra : Fin 32) : WordWf.Statement (.clz e rd ra) := fun _ _ => rfl

theorem WordWf.addi (e : Fin 9) (rd ra : Fin 32) (imm : Half) : WordWf.Statement (.addi e rd ra imm) := fun _ _ => rfl

theorem WordWf.andi (e : Fin 9) (rd ra : Fin 32) (imm : Half) : WordWf.Statement (.andi e rd ra imm) := fun _ _ => rfl

theorem WordWf.ori (e : Fin 9) (rd ra : Fin 32) (imm : Half) : WordWf.Statement (.ori e rd ra imm) := fun _ _ => rfl

theorem WordWf.xori (e : Fin 9) (rd ra : Fin 32) (imm : Half) : WordWf.Statement (.xori e rd ra imm) := fun _ _ => rfl

theorem WordWf.shi (e : Fin 9) (rd ra : Fin 32) (imm : Half) : WordWf.Statement (.shi e rd ra imm) := fun _ _ => rfl

theorem WordWf.lui (e : Fin 9) (rd : Fin 32) (imm : Half) : WordWf.Statement (.lui e rd imm) := fun _ _ => rfl

theorem WordWf.cmpi (e : Fin 9) (ra : Fin 32) (imm : Half) : WordWf.Statement (.cmpi e ra imm) := fun _ _ => rfl

theorem WordWf.lb (e : Fin 9) (rd ra : Fin 32) (imm : Half) (m : MemObs) : WordWf.Statement (.lb e rd ra imm m) := fun _ _ => rfl

theorem WordWf.lbu (e : Fin 9) (rd ra : Fin 32) (imm : Half) (m : MemObs) : WordWf.Statement (.lbu e rd ra imm m) := fun _ _ => rfl

theorem WordWf.lh (e : Fin 9) (rd ra : Fin 32) (imm : Half) (m : MemObs) : WordWf.Statement (.lh e rd ra imm m) := fun _ _ => rfl

theorem WordWf.lhu (e : Fin 9) (rd ra : Fin 32) (imm : Half) (m : MemObs) : WordWf.Statement (.lhu e rd ra imm m) := fun _ _ => rfl

theorem WordWf.lw (e : Fin 9) (rd ra : Fin 32) (imm : Half) (m : MemObs) : WordWf.Statement (.lw e rd ra imm m) := fun _ _ => rfl

theorem WordWf.sb (e : Fin 9) (rd ra : Fin 32) (imm : Half) (m : MemObs) : WordWf.Statement (.sb e rd ra imm m) := fun _ _ => rfl

theorem WordWf.sh (e : Fin 9) (rd ra : Fin 32) (imm : Half) (m : MemObs) : WordWf.Statement (.sh e rd ra imm m) := fun _ _ => rfl

theorem WordWf.sw (e : Fin 9) (rd ra : Fin 32) (imm : Half) (m : MemObs) : WordWf.Statement (.sw e rd ra imm m) := fun _ _ => rfl

theorem WordWf.b (e : Fin 9) (cond : Cond) (offset : BitVec 22) : WordWf.Statement (.b e cond offset) := fun _ _ => rfl

theorem WordWf.bl (e : Fin 9) (offset : BitVec 26) : WordWf.Statement (.bl e offset) := fun _ _ => rfl

theorem WordWf.jr (e : Fin 9) (rd ra : Fin 32) (imm : Half) : WordWf.Statement (.jr e rd ra imm) := fun _ _ => rfl

theorem WordWf.amoadd (e : Fin 9) (rd ra rb : Fin 32) (m : MemObs) : WordWf.Statement (.amoadd e rd ra rb m) := fun _ _ => rfl

theorem WordWf.amoswap (e : Fin 9) (rd ra rb : Fin 32) (m : MemObs) : WordWf.Statement (.amoswap e rd ra rb m) := fun _ _ => rfl

theorem WordWf.cas (e : Fin 9) (rd ra rb : Fin 32) (m : MemObs) : WordWf.Statement (.cas e rd ra rb m) := fun _ _ => rfl

theorem WordWf.amoor (e : Fin 9) (rd ra rb : Fin 32) (m : MemObs) : WordWf.Statement (.amoor e rd ra rb m) := fun _ _ => rfl

theorem WordWf.amoand (e : Fin 9) (rd ra rb : Fin 32) (m : MemObs) : WordWf.Statement (.amoand e rd ra rb m) := fun _ _ => rfl

theorem WordWf.qpush (e : Fin 9) (ra : Fin 32) (imm : Half) (m : MemObs) : WordWf.Statement (.qpush e ra imm m) := fun _ _ => rfl

theorem WordWf.qpop (e : Fin 9) (rd ra : Fin 32) (imm : Half) (m : MemObs) : WordWf.Statement (.qpop e rd ra imm m) := fun _ _ => rfl

theorem WordWf.qack (e : Fin 9) (ra : Fin 32) (imm : Half) : WordWf.Statement (.qack e ra imm) := fun _ _ => rfl

theorem WordWf.ewait (e : Fin 9) (rd ra : Fin 32) : WordWf.Statement (.ewait e rd ra) := fun _ _ => rfl

theorem WordWf.esig (e : Fin 9) (ra : Fin 32) (imm : Half) (m : MemObs) : WordWf.Statement (.esig e ra imm m) := fun _ _ => rfl

theorem WordWf.move (e : Fin 9) (rd ra : Fin 32) (m : MemObs) : WordWf.Statement (.move e rd ra m) := fun _ _ => rfl

theorem WordWf.mwait (e : Fin 9) (rd ra : Fin 32) : WordWf.Statement (.mwait e rd ra) := fun _ _ => rfl

theorem WordWf.assay (e : Fin 9) (rd ra rb : Fin 32) (m : MemObs) : WordWf.Statement (.assay e rd ra rb m) := fun _ _ => rfl

theorem WordWf.toll (e : Fin 9) (rd : Fin 32) (imm : Half) : WordWf.Statement (.toll e rd imm) := fun _ _ => rfl

theorem WordWf.twait (e : Fin 9) : WordWf.Statement (.twait e) := fun _ _ => rfl

theorem WordWf.chkpt (e : Fin 9) (ra : Fin 32) (m : MemObs) : WordWf.Statement (.chkpt e ra m) := fun _ _ => rfl

theorem WordWf.tret (e : Fin 9) : WordWf.Statement (.tret e) := fun _ _ => rfl

theorem WordWf.illegalInstruction (e : Fin 9) (m : MemObs) : WordWf.Statement (.illegalInstruction e m) := fun _ h => nomatch (h : none = some _)

theorem WordWf.wdogWrite (e : Fin 9) (rd : Fin 32) : WordWf.Statement (.wdogWrite e rd) := fun _ h => nomatch (h : none = some _)

theorem WordWf.evrouteWrite (e : Fin 9) (rd : Fin 32) : WordWf.Statement (.evrouteWrite e rd) := fun _ h => nomatch (h : none = some _)

theorem WordWf.timeLoRead (e : Fin 9) (rd : Fin 32) : WordWf.Statement (.timeLoRead e rd) := fun _ h => nomatch (h : none = some _)

theorem WordWf.dictOpRead (e : Fin 9) : WordWf.Statement (.dictOpRead e) := fun _ h => nomatch (h : none = some _)

theorem WordWf.dictOpWrite (e : Fin 9) (m : MemObs) : WordWf.Statement (.dictOpWrite e m) := fun _ h => nomatch (h : none = some _)

theorem WordWf.dictOpWriteStaged (e : Fin 9) (m : MemObs) : WordWf.Statement (.dictOpWriteStaged e m) := fun _ h => nomatch (h : none = some _)

theorem WordWf.dictOpReadStaged (e : Fin 9) : WordWf.Statement (.dictOpReadStaged e) := fun _ h => nomatch (h : none = some _)

theorem WordWf.moveComplete (e : Fin 9) (o : TileObs) (m : MemObs) : WordWf.Statement (.moveComplete e o m) := fun _ h => nomatch (h : none = some _)

theorem WordWf.watchdogExpiry (e : Fin 9) : WordWf.Statement (.watchdogExpiry e) := fun _ h => nomatch (h : none = some _)

theorem WordWf.wjResume : WordWf.Statement .wjResume := fun _ h => nomatch (h : none = some _)

theorem WordWf.wjSelfCheck (passed : Bool) : WordWf.Statement (.wjSelfCheck passed) := fun _ h => nomatch (h : none = some _)

theorem WordWf.pairOutputTimeout : WordWf.Statement .pairOutputTimeout := fun _ h => nomatch (h : none = some _)

theorem WordWf.pairSelfCheckDone (pass0 pass1 : Bool) : WordWf.Statement (.pairSelfCheckDone pass0 pass1) := fun _ h => nomatch (h : none = some _)

theorem WordWf.imageWrite (h : Hdr) (image : List Byte) : WordWf.Statement (.imageWrite h image) := fun _ h => nomatch (h : none = some _)

theorem WordWf.imageActivate (by_ : Writer) : WordWf.Statement (.imageActivate by_) := fun _ h => nomatch (h : none = some _)

theorem WordWf.evtClear (by_ : Writer) (mask : BitVec 128) : WordWf.Statement (.evtClear by_ mask) := fun _ h => nomatch (h : none = some _)

theorem WordWf.stormWindowEnd : WordWf.Statement .stormWindowEnd := fun _ h => nomatch (h : none = some _)

theorem WordWf.fieldSensorReading (f : Fin 32) (r : SensorObs) : WordWf.Statement (.fieldSensorReading f r) := fun _ h => nomatch (h : none = some _)

theorem WordWf.throttleHoldEnd : WordWf.Statement .throttleHoldEnd := fun _ h => nomatch (h : none = some _)

theorem WordWf.tpVote (n : Fin 4) : WordWf.Statement (.tpVote n) := fun _ h => nomatch (h : none = some _)

theorem WordWf.tpMonitorReading (n : Fin 4) (r : TpObs) : WordWf.Statement (.tpMonitorReading n r) := fun _ h => nomatch (h : none = some _)

theorem WordWf.adcGridPoint (z : ZeroObs) : WordWf.Statement (.adcGridPoint z) := fun _ h => nomatch (h : none = some _)

theorem WordWf.adcConversionDone (k : Fin 4) (raw spare : Int) : WordWf.Statement (.adcConversionDone k raw spare) := fun _ h => nomatch (h : none = some _)

theorem WordWf.groupTrigger (g : Fin 8) : WordWf.Statement (.groupTrigger g) := fun _ h => nomatch (h : none = some _)

theorem WordWf.adcgFire (by_ : Writer) (g : Fin 4) : WordWf.Statement (.adcgFire by_ g) := fun _ h => nomatch (h : none = some _)

theorem WordWf.adcgEnable (by_ : Writer) (g : Fin 4) (on : Bool) : WordWf.Statement (.adcgEnable by_ g on) := fun _ h => nomatch (h : none = some _)

theorem WordWf.adcInjRequest (source : InjSource) : WordWf.Statement (.adcInjRequest source) := fun _ h => nomatch (h : none = some _)

theorem WordWf.spareRotation (c : RotationObs) : WordWf.Statement (.spareRotation c) := fun _ h => nomatch (h : none = some _)

theorem WordWf.spareHandover : WordWf.Statement .spareHandover := fun _ h => nomatch (h : none = some _)

theorem WordWf.shadowAbandon : WordWf.Statement .shadowAbandon := fun _ h => nomatch (h : none = some _)

theorem WordWf.sinkMeasurement (f : Fin 32) (permille : Nat) : WordWf.Statement (.sinkMeasurement f permille) := fun _ h => nomatch (h : none = some _)

theorem WordWf.fieldRefTrim (o : FrefObs) : WordWf.Statement (.fieldRefTrim o) := fun _ h => nomatch (h : none = some _)

theorem WordWf.agingNotice (ecc : List EccFinding) : WordWf.Statement (.agingNotice ecc) := fun _ h => nomatch (h : none = some _)

theorem WordWf.trimMapSave : WordWf.Statement .trimMapSave := fun _ h => nomatch (h : none = some _)

theorem WordWf.mirrorBuildDone (o : MirrorObs) : WordWf.Statement (.mirrorBuildDone o) := fun _ h => nomatch (h : none = some _)

theorem WordWf.calImport (h : Hdr) (file : List Byte) : WordWf.Statement (.calImport h file) := fun _ h => nomatch (h : none = some _)

theorem WordWf.vsupValid (p : StartObs) : WordWf.Statement (.vsupValid p) := fun _ h => nomatch (h : none = some _)

theorem WordWf.vsupUvWarn (mv : Nat) : WordWf.Statement (.vsupUvWarn mv) := fun _ h => nomatch (h : none = some _)

theorem WordWf.rideThrough (mv : Nat) : WordWf.Statement (.rideThrough mv) := fun _ h => nomatch (h : none = some _)

theorem WordWf.brownOut (journal : Nat) : WordWf.Statement (.brownOut journal) := fun _ h => nomatch (h : none = some _)

theorem WordWf.domainRampDone (d : Fin 8) : WordWf.Statement (.domainRampDone d) := fun _ h => nomatch (h : none = some _)

theorem WordWf.domainDrainDone (d : Fin 8) : WordWf.Statement (.domainDrainDone d) := fun _ h => nomatch (h : none = some _)

theorem WordWf.pwrRequestReady (by_ : Writer) : WordWf.Statement (.pwrRequestReady by_) := fun _ h => nomatch (h : none = some _)

theorem WordWf.pwrRequestLit (by_ : Writer) : WordWf.Statement (.pwrRequestLit by_) := fun _ h => nomatch (h : none = some _)

theorem WordWf.pwrRequestSleep (by_ : Writer) : WordWf.Statement (.pwrRequestSleep by_) := fun _ h => nomatch (h : none = some _)

theorem WordWf.arrayMaskWrite (by_ : Writer) (mask : Byte) : WordWf.Statement (.arrayMaskWrite by_ mask) := fun _ h => nomatch (h : none = some _)

theorem WordWf.wakeRise : WordWf.Statement .wakeRise := fun _ h => nomatch (h : none = some _)

theorem WordWf.wakeOffTimeout : WordWf.Statement .wakeOffTimeout := fun _ h => nomatch (h : none = some _)

theorem WordWf.canWake : WordWf.Statement .canWake := fun _ h => nomatch (h : none = some _)

theorem WordWf.resetNPulse : WordWf.Statement .resetNPulse := fun _ h => nomatch (h : none = some _)

theorem WordWf.fltIn : WordWf.Statement .fltIn := fun _ h => nomatch (h : none = some _)

theorem WordWf.inputStuck (n : Fin 4) : WordWf.Statement (.inputStuck n) := fun _ h => nomatch (h : none = some _)

theorem WordWf.inputPulseIgnored (n : Fin 4) : WordWf.Statement (.inputPulseIgnored n) := fun _ h => nomatch (h : none = some _)

theorem WordWf.loadstepRise : WordWf.Statement .loadstepRise := fun _ h => nomatch (h : none = some _)

theorem WordWf.loadstepFall : WordWf.Statement .loadstepFall := fun _ h => nomatch (h : none = some _)

theorem WordWf.anticipationEnd : WordWf.Statement .anticipationEnd := fun _ h => nomatch (h : none = some _)

theorem WordWf.vcoreAdjust : WordWf.Statement .vcoreAdjust := fun _ h => nomatch (h : none = some _)

theorem WordWf.lanternLoadDone (bad again : List Nat) : WordWf.Statement (.lanternLoadDone bad again) := fun _ h => nomatch (h : none = some _)

theorem WordWf.bootEnd : WordWf.Statement .bootEnd := fun _ h => nomatch (h : none = some _)

theorem WordWf.startBistDone (v : StartBistObs) : WordWf.Statement (.startBistDone v) := fun _ h => nomatch (h : none = some _)

theorem WordWf.shutdownBist : WordWf.Statement .shutdownBist := fun _ h => nomatch (h : none = some _)

theorem WordWf.bistFirmwareWindowEnd : WordWf.Statement .bistFirmwareWindowEnd := fun _ h => nomatch (h : none = some _)

theorem WordWf.bistAbort : WordWf.Statement .bistAbort := fun _ h => nomatch (h : none = some _)

theorem WordWf.hostTimeout : WordWf.Statement .hostTimeout := fun _ h => nomatch (h : none = some _)

theorem WordWf.feedLoss : WordWf.Statement .feedLoss := fun _ h => nomatch (h : none = some _)

theorem WordWf.lanternCommand (by_ : Writer) : WordWf.Statement (.lanternCommand by_) := fun _ h => nomatch (h : none = some _)

theorem WordWf.lanternRelease (by_ : Writer) : WordWf.Statement (.lanternRelease by_) := fun _ h => nomatch (h : none = some _)

theorem WordWf.dumpTrigger (ecc : List EccFinding) : WordWf.Statement (.dumpTrigger ecc) := fun _ h => nomatch (h : none = some _)

theorem WordWf.dumpClose (ecc : List EccFinding) : WordWf.Statement (.dumpClose ecc) := fun _ h => nomatch (h : none = some _)

theorem WordWf.dumpClear (by_ : Writer) : WordWf.Statement (.dumpClear by_) := fun _ h => nomatch (h : none = some _)

theorem WordWf.vsupUvWarnClear (mv : Nat) : WordWf.Statement (.vsupUvWarnClear mv) := fun _ h => nomatch (h : none = some _)

theorem WordWf.rideThroughStart (mv : Nat) : WordWf.Statement (.rideThroughStart mv) := fun _ h => nomatch (h : none = some _)

theorem WordWf.vioLoss : WordWf.Statement .vioLoss := fun _ h => nomatch (h : none = some _)

theorem WordWf.vioRestored : WordWf.Statement .vioRestored := fun _ h => nomatch (h : none = some _)

theorem WordWf.fltInRelease : WordWf.Statement .fltInRelease := fun _ h => nomatch (h : none = some _)

theorem WordWf.wakeFall : WordWf.Statement .wakeFall := fun _ h => nomatch (h : none = some _)

theorem WordWf.tpVoteRelease (n : Fin 4) : WordWf.Statement (.tpVoteRelease n) := fun _ h => nomatch (h : none = some _)

theorem WordWf.ainClamp (pin : Fin 8) (on : Bool) : WordWf.Statement (.ainClamp pin on) := fun _ h => nomatch (h : none = some _)

theorem WordWf.ainClampHoldEnd : WordWf.Statement .ainClampHoldEnd := fun _ h => nomatch (h : none = some _)

theorem WordWf.syncPulseEnd : WordWf.Statement .syncPulseEnd := fun _ h => nomatch (h : none = some _)

theorem WordWf.ewaitTimeout (e : Fin 9) : WordWf.Statement (.ewaitTimeout e) := fun _ h => nomatch (h : none = some _)

theorem WordWf.hallmarkStepDone (v : StepObs) : WordWf.Statement (.hallmarkStepDone v) := fun _ h => nomatch (h : none = some _)

theorem WordWf.engineStart (modules : List ModuleDecl) : WordWf.Statement (.engineStart modules) := fun _ h => nomatch (h : none = some _)

theorem WordWf.dictSaveDone : WordWf.Statement .dictSaveDone := fun _ h => nomatch (h : none = some _)

theorem WordWf.calImportWriteDone : WordWf.Statement .calImportWriteDone := fun _ h => nomatch (h : none = some _)

theorem WordWf.busOff (c : Fin 2) : WordWf.Statement (.busOff c) := fun _ h => nomatch (h : none = some _)

theorem WordWf.busOffRecovery (c : Fin 2) : WordWf.Statement (.busOffRecovery c) := fun _ h => nomatch (h : none = some _)

theorem WordWf.tckEdge (j : JtagObs) : WordWf.Statement (.tckEdge j) := fun _ h => nomatch (h : none = some _)

end Sys2Proof.Laws
end

