-- ==== Sys2Proof/Laws/Store.lean ====
section
/-!
SUPPORT. Byte strings in the pixel store and in a memory: what a string written reads back as, and what it leaves alone.
-/

namespace Sys2Proof.Laws

open Sys2Proof.Machine

/-- Bytes beside a string written are unchanged. -/
theorem loadByte_storeBytes_ne (b : List Byte) : ∀ (s : State) (a j : Nat), (j < a ∨ a + b.length ≤ j) → loadByte (storeBytes s a b) j = loadByte s j := by
  induction b with
  | nil => intros; rfl
  | cons v t ih =>
    intro s a j h
    rw [List.length_cons] at h
    rw [storeBytes, ih _ _ _ (by omega), loadByte_storeByte_ne _ _ _ _ (by omega)]

/-- A string written reads back. -/
theorem loadByte_storeBytes (b : List Byte) : ∀ (s : State) (a i : Nat) (h : i < b.length), loadByte (storeBytes s a b) (a + i) = b[i] := by
  induction b with
  | nil => intro s a i h; simp at h
  | cons v t ih =>
    intro s a i h
    cases i with
    | zero => rw [storeBytes, loadByte_storeBytes_ne _ _ _ _ (by omega), Nat.add_zero, loadByte_storeByte]; rfl
    | succ n =>
      have := ih (storeByte s a v) (a + 1) n (by simpa using h)
      rw [storeBytes, show a + (n + 1) = a + 1 + n by omega, this]; rfl

/-- The bytes of a channel within one page lie one after the other. -/
theorem addr_page (c : Channel) (o i : Nat) (h : o % 4096 + i < 4096) : c.addr (o + i) = c.addr o + i := by
  unfold Channel.addr
  have h1 : (o + i) / 4096 = o / 4096 := by omega
  have h2 : (o + i) % 4096 = o % 4096 + i := by omega
  rw [h1, h2]; omega

/-- A string written into one page of a channel is a string written into the store. -/
theorem chanWrite_page (c : Channel) (b : List Byte) : ∀ (s : State) (o : Nat), o % 4096 + b.length ≤ 4096 → chanWrite s c o b = storeBytes s (c.addr o) b := by
  induction b with
  | nil => intros; rfl
  | cons v t ih =>
    intro s o h
    rw [List.length_cons] at h
    cases t with
    | nil => rfl
    | cons w u =>
      rw [List.length_cons] at h
      rw [chanWrite, storeBytes, ih _ _ (by rw [List.length_cons]; omega), addr_page c o 1 (by omega)]

theorem bytesLE_length (n : Nat) : ∀ v, (bytesLE n v).length = n := by
  induction n with
  | zero => intro v; rfl
  | succ n ih => intro v; rw [bytesLE, List.length_cons, ih]

/-- Byte `i` of a number. -/
theorem bytesLE_get (n : Nat) : ∀ (v i : Nat) (h : i < (bytesLE n v).length), (bytesLE n v)[i] = BitVec.ofNat 8 (v / 256 ^ i % 256) := by
  induction n with
  | zero => intro v i h; simp [bytesLE] at h
  | succ n ih =>
    intro v i h
    cases i with
    | zero => simp [bytesLE]
    | succ j =>
      simp only [bytesLE, List.getElem_cons_succ]
      rw [ih, Nat.pow_succ, Nat.mul_comm, Nat.div_div_eq_div_mul]

theorem memRange_length (m : Memory) (a n : Nat) : (memRange m a n).length = n := by unfold memRange span; simp

theorem memRange_get (m : Memory) (a n i : Nat) (h : i < (memRange m a n).length) : (memRange m a n)[i] = memGet m (a + i) := by
  unfold memRange span; simp

theorem loadBytes_length (s : State) (a n : Nat) : (loadBytes s a n).length = n := by unfold loadBytes span; simp

theorem loadBytes_get (s : State) (a n i : Nat) (h : i < (loadBytes s a n).length) : (loadBytes s a n)[i] = loadByte s (a + i) := by
  unfold loadBytes span; simp

end Sys2Proof.Laws
end

