-- ==== Sys2Proof/Laws/Writes.lean ====
section
/-!
SUPPORT. Requests of a session whose SEQ is the next, and accepted writes of entries by a session and by the stock firmware (R309, R315, R318, R320).
-/

namespace Sys2Proof.Machine

open Sys2Proof.Laws

theorem UpToFrames.refl (s : State) : UpToFrames s s := (UpToEvents.refl s).toUpToFrames

theorem UpToFrames.sized {m t : State} (h : UpToFrames m t) (hm : RingsSized m) : RingsSized t := fun q hq => by
  rw [show qEntries t q = qEntries m q from h.regs _ (queueEntries_not_eventKey q (by omega))]; exact hm q hq

theorem UpToFrames.trans {a b c : State} (h : UpToFrames a b) (k : UpToFrames b c) : UpToFrames a c where
  rest := k.rest.trans h.rest
  regs := fun x hx => (k.regs x hx).trans (h.regs x hx)
  queues := fun q h1 h4 h5 => (k.queues q h1 h4 h5).trans (h.queues q h1 h4 h5)
  pair := ⟨k.pair.1.trans h.pair.1, k.pair.2.1.trans h.pair.2.1, k.pair.2.2.trans h.pair.2.2⟩
  engines := fun n => (k.engines n).trans (h.engines n)
  awake := fun n hn => by
    have h1 := h.awake n hn
    have h2 : (engOf b n).stall = (engOf a n).stall := by have h3 := congrArg Engine.stall h1; exact h3
    exact (k.awake n (by rw [h2]; exact hn)).trans h1
  lanes := k.lanes.trans h.lanes
  settled := fun hm => k.settled (h.settled hm)
  bytes := fun hm x hx => (k.bytes (h.sized hm) x hx).trans (h.bytes hm x hx)

/-- A session replaced. -/
theorem frames_setSess (s : State) (n : Nat) (x : Session) : UpToFrames s (setSess s n x) :=
  { UpToFrames.refl s with rest := rfl, bytes := fun _ _ _ => rfl }

theorem counted_congr {m t u : State} {ns : List Nat} (h : Counted m ns t) (hu : u.regs = t.regs) : Counted m ns u := by
  intro hg n a b c
  rw [reg_congr hu]
  exact h hg n a b c

theorem After.answered {m t : State} {ns : List Nat} (h : After m ns t) : Answered m ns t := ⟨h.1.toUpToFrames, h.2⟩

/-- An answer goes out. -/
theorem Answered.respond {m t : State} {ns : List Nat} (h : Answered m ns t) (n svc seq key status : Nat) (p : List Byte) (keep : Bool) :
    Answered m ns (respond t n svc seq key status p keep) := by
  unfold Machine.respond
  refine ⟨h.1.trans ((frames_setSess t n _).trans (upTo_sendFrame _ _ _).toUpToFrames), counted_congr h.2 ?_⟩
  rw [regs_sendFrame]; rfl

/-- A session replaced. -/
theorem Answered.setSess {m t : State} {ns : List Nat} (h : Answered m ns t) (n : Nat) (x : Session) : Answered m ns (setSess t n x) :=
  ⟨h.1.trans (frames_setSess t n x), counted_congr h.2 rfl⟩

/-- The SEQ of a session is not touched by a frame that goes out. -/
theorem seqLast_sendFrame (s : State) (t n : Nat) (f : List Byte) : (sessOf (sendFrame s t f) n).seqLast = (sessOf s n).seqLast := by
  have h := congrArg Session.seqLast ((upTo_sendFrame s t f).sessions n)
  exact h

theorem seqLast_respond (s : State) (n svc seq key status : Nat) (p : List Byte) (keep : Bool) (hn : 1 ≤ n ∧ n ≤ 8) :
    (sessOf (respond s n svc seq key status p keep) n).seqLast = (sessOf s n).seqLast := by
  unfold respond
  rw [seqLast_sendFrame, sessOf_setSess _ _ _ hn]

theorem served_key {s : State} {n : Nat} (h : s.kdp.keyholder = n) : served s n = hostActive (setSess s n { sessOf s n with lastRequest := s.now }) := by
  unfold served activity
  have : (setSess s n { sessOf s n with lastRequest := s.now }).kdp.keyholder = n := h
  rw [if_pos (Or.inr this)]

/-- R318: the next request of a session is executed. -/
theorem hostRequest_next {h : Hdr} {s : State} (hn : NextRequest h s) (svc key flags : Nat) (p : List Byte) (hp : p.length ≤ frameLimit h.transport) :
    hostRequest (requestOf h svc key flags p) s = execute (served s h.session.toNat) (requestOf h svc key flags p) := by
  obtain ⟨h1, h2, h3, h4, h5, h6, h7, h8, h9⟩ := hn
  have ht : takeFrame s (requestOf h svc key flags p) = (false, s) := by
    have hf : frontFrame s (rxQueue h.transport) = none := by unfold frontFrame; rw [h8]
    unfold takeFrame
    rw [show (requestOf h svc key flags p).transport = (h.transport : Nat) from rfl, hf]
  unfold hostRequest
  have hg : (!serves s (requestOf h svc key flags p).transport || decide (frameLimit (requestOf h svc key flags p).transport < (requestOf h svc key flags p).payload.length)) = false := by
    simp only [requestOf, h1, Bool.not_true, Bool.false_or]; exact decide_eq_false (Nat.not_lt.2 hp)
  have hz : ¬ (h.session.toNat = 0 ∧ svc = 7) := by omega
  have ho : ¬ (h.session.toNat = 0 ∨ 8 < h.session.toNat ∨ (!(sessOf s h.session.toNat).isOpen) = true ∨ (sessOf s h.session.toNat).transport ≠ h.transport) := by
    simp only [h4, h5]; simp; omega
  have hs : ¬ ((sessOf s h.session.toNat).seqLast = BitVec.ofNat 8 h.seq.toNat) := by
    rw [← h6]
    simp
    bv_omega
  have hs2 : ¬ ((sessOf s h.session.toNat).seqLast + 1 ≠ BitVec.ofNat 8 h.seq.toNat) := by rw [h6]; simp
  have hq : ¬ ((qNext s (rxQueue (requestOf h svc key flags p).transport)).isSome = true) := by
    rw [show (requestOf h svc key flags p).transport = (h.transport : Nat) from rfl, h8]; decide
  rw [if_neg (by rw [hg]; decide), if_neg hq, ht]
  unfold handleRequest
  simp only [requestOf, hz, ho, hs, hs2, if_false]
  rfl

theorem sessOf_served {s : State} {n : Nat} (h : 1 ≤ n ∧ n ≤ 8) : sessOf (served s n) n = { sessOf s n with lastRequest := s.now } := by
  have : ∀ st : State, sessOf (activity st n) n = sessOf st n := by intro st; unfold activity; split <;> rfl
  unfold served; rw [this, sessOf_setSess _ _ _ h]

theorem kdp_served (s : State) (n : Nat) : (served s n).kdp.saving = s.kdp.saving ∧ (served s n).kdp.keyholder = s.kdp.keyholder ∧ (served s n).cal = s.cal := by
  unfold served activity; split <;> exact ⟨rfl, rfl, rfl⟩

/-- An accepted WRITE or WRITE_STAGED of the next request: what the write leaves, and the answer. -/
theorem hostWrite_answered {h : Hdr} {s m : State} (hn : NextRequest h s) (staged : Bool) (key : Nat) (b p : List Byte) (hb : b.length ≤ frameLimit h.transport)
    (hw : writeEntry (served s h.session.toNat) h.session.toNat staged key b (requestHeader (requestOf h (if staged then 3 else 2) key 0 b)) = (0, p, m))
    (hs : m.kdp.saving = none) (hi : m.cal.imp.state = s.cal.imp.state) (ho : openFills m ≤ openFills s) :
    hostRequest (requestOf h (if staged then 3 else 2) key 0 b) s =
      respond (setSess m h.session.toNat { sessOf m h.session.toNat with seqLast := h.seq, lastResponse := [] }) h.session.toNat (if staged then 3 else 2) h.seq.toNat key 0 p true := by
  obtain ⟨_, h2, h3, _, _, _, h7, _, h9⟩ := hn
  have hr : (served s h.session.toNat).kdp.saving = none := (kdp_served s _).1.trans h9
  have hx : (sessOf (served s h.session.toNat) h.session.toNat).transfer = none := by rw [sessOf_served ⟨h2, h3⟩]; exact h7
  have ha : abandonTransfer (served s h.session.toNat) h.session.toNat = served s h.session.toNat := by
    unfold abandonTransfer; simp only [hx]
  have hsv : serveWrite (served s h.session.toNat) (requestOf h (if staged then 3 else 2) key 0 b) staged = (0, p, m) := by
    unfold serveWrite
    have hf : bitAt (requestOf h (if staged then 3 else 2) key 0 b).flags 0 = false := by unfold requestOf bitAt; simp
    simp only [hf, Bool.false_eq_true, if_false]
    unfold writeEntry at hw
    have e1 : (requestOf h (if staged then 3 else 2) key 0 b).key = key := rfl
    have e2 : (requestOf h (if staged then 3 else 2) key 0 b).session = h.session.toNat := rfl
    have e3 : (requestOf h (if staged then 3 else 2) key 0 b).payload = b := rfl
    rw [e1, e2, e3]
    cases hrow : rowFor (served s h.session.toNat) key with
    | none => rw [hrow] at hw; simp at hw
    | some r =>
      rw [hrow] at hw
      dsimp only at hw ⊢
      by_cases hg : (writeGate (served s h.session.toNat) h.session.toNat staged r key (some b)).1 ≠ 0
      · rw [if_pos hg] at hw
        have : (writeGate (served s h.session.toNat) h.session.toNat staged r key (some b)).1 = 0 := congrArg Prod.fst hw
        exact absurd this hg
      · rw [if_neg hg, hr]
        simp only [Option.isSome_none, Bool.false_eq_true, if_false]
        unfold writeEntry
        rw [hrow]
        exact hw
  have hserve : serve (served s h.session.toNat) (requestOf h (if staged then 3 else 2) key 0 b) = (0, p, m) := by
    unfold serve
    cases staged <;> simp only [requestOf, Bool.false_eq_true, if_false, if_true] at hsv ⊢ <;> rw [ha] <;> exact hsv
  rw [hostRequest_next ⟨‹_›, h2, h3, ‹_›, ‹_›, ‹_›, h7, ‹_›, h9⟩ _ _ _ _ hb]
  unfold execute
  rw [hserve]
  have hwait : answerWaits (served s h.session.toNat) (setSess m h.session.toNat { sessOf m h.session.toNat with seqLast := h.seq, lastResponse := [] }) = false := by
    unfold answerWaits
    have e1 : (setSess m h.session.toNat { sessOf m h.session.toNat with seqLast := h.seq, lastResponse := [] }).kdp.saving = none := hs
    have e2 : (setSess m h.session.toNat { sessOf m h.session.toNat with seqLast := h.seq, lastResponse := [] }).cal.imp.state = s.cal.imp.state := hi
    have e3 : ¬ openFills (served s h.session.toNat) < openFills (setSess m h.session.toNat { sessOf m h.session.toNat with seqLast := h.seq, lastResponse := [] }) := by
      have e4 : openFills (served s h.session.toNat) = openFills s := by unfold openFills served activity; split <;> rfl
      rw [e4]
      exact Nat.not_lt.2 ho
    rw [e1, e2, (kdp_served s _).2.2, decide_eq_false e3]
    simp
  have h7' : ¬ ((if staged then 3 else 2) = 7 ∧ bitAt 0 4 = true) := by cases staged <;> simp
  simp only [requestOf, BitVec.ofNat_toNat, BitVec.setWidth_eq]
  rw [if_neg (by decide), hwait]
  simp only [Bool.false_eq_true, if_false]
  rw [if_neg h7']

/-- An accepted write by either writer. -/
theorem writeBy_wrote {w : Writer} {service : Bool} {s : State} (hm : MayWrite w service s) (staged : Bool) (key : Nat) (b : List Byte) (f : State → State) (ns : List Nat)
    (hb : b.length ≤ 50)
    (hfw : w = .firmware → ∃ st p m, writeEntry s 0 staged key b [] = (st, p, m) ∧ After (f s) ns m)
    (hhost : ∀ h, w = .host h → NextRequest h s → ∃ p m, writeEntry (served s h.session.toNat) h.session.toNat staged key b (requestHeader (requestOf h (if staged then 3 else 2) key 0 b)) = (0, p, m) ∧
      Answered (f (hostActive s)) ns m ∧ m.kdp.saving = none ∧ m.cal.imp.state = s.cal.imp.state ∧ openFills m ≤ openFills s) :
    Wrote w f ns s (writeBy w staged key b s) := by
  cases w with
  | firmware =>
    obtain ⟨st, p, m, h1, h2⟩ := hfw rfl
    obtain ⟨_, ⟨n, hn, hr⟩, hrec⟩ := hm
    have : [0, 1, 2, 3].any (firmwareRuns s) = true := by
      have : n = 0 ∨ n = 1 ∨ n = 2 ∨ n = 3 := by omega
      rcases this with h | h | h | h <;> subst h <;> simp [hr]
    unfold writeBy firmwareWrite Wrote
    simp only [this, hrec, Bool.not_false, Bool.and_self, if_true, h1]
    exact h2
  | host h =>
    obtain ⟨_, hn, _, _⟩ := hm
    obtain ⟨p, m, h1, h2, h3, h4, h5⟩ := hhost h rfl hn
    have hl : b.length ≤ frameLimit h.transport := by unfold frameLimit; split <;> omega
    have hbnd : 1 ≤ h.session.toNat ∧ h.session.toNat ≤ 8 := ⟨hn.2.1, hn.2.2.1⟩
    unfold writeBy Wrote
    dsimp only
    rw [hostWrite_answered hn staged key b p hl h1 h3 h4 h5]
    refine ⟨(h2.setSess _ _).respond _ _ _ _ _ _ _, ?_⟩
    rw [seqLast_respond _ _ _ _ _ _ _ _ hbnd, sessOf_setSess _ _ _ hbnd]

end Sys2Proof.Machine
end

