-- ==== Sys2Proof/Machine/Pins.lean ====
section
/-!
DEFINITION. The output pins as functions of the state (R84, R86, R348, R387, R477, R481, R515, R518, R534).
-/

namespace Sys2Proof.Machine

/-- What HDRM carries (R477, R515): nothing driven, a DC level in volts, a 100 kHz square wave high for `code`/255 of its period, or low. -/
inductive HdrmOut where
  | undriven
  | volts (v : Rat)
  | pwm (code : Nat)
  | low
  deriving DecidableEq, Repr

/-- R477, R515: HDRM carries V_T from AO on in the mode of `pwr.hdrm_mode`; in OFF only its 1 MΩ to ground stands. -/
def hdrmPin (s : State) : HdrmOut :=
  if s.power.device = 0 then .undriven
  else
    let excess : Rat := (s.power.vT : Rat) / 1000 - 27 / 10
    match s.reg Reg.pwrHdrmMode with
    | 0 => .volts (excess * (12 / 28))
    | 1 => .pwm (clampI 0 255 (roundQ (excess * 255 / (28 / 10)))).toNat
    | _ => .low

/-- R515: what the device itself puts on a VIO-level or FT land, by its place in the order of R515 (log 94): a level, or nothing (high-Z). An
idle CAN transmitter is recessive and SPI_MISO is high-Z, since a frame or a transaction passes within one command. -/
def ownOutput (s : State) (land : Nat) : Option Bool :=
  let low (b : Bool) : Option Bool := if b then some false else none
  match land with
  | 0 | 2 => some true
  | 8 => low (decide (2 ≤ s.power.device) && intLow s)
  | 9 => low (decide (2 ≤ s.power.device) && faultLow s)
  | 12 => if decide (2 ≤ s.power.device) && s.reg Reg.frameSyncMode == 1 then some s.scan.sync.pin else none
  | 13 => some s.scan.teOut
  | 14 => some s.power.loadstep
  | _ => none

/-- R515: the push-pull outputs and SYNC, the lands on which EXTEST and CLAMP put a level of either kind. -/
def drivenLand (land : Nat) : Bool := [0, 2, 6, 12, 13, 14].contains land

/-- R534: the land under the TAP: EXTEST and CLAMP put its boundary cell on every output (an open drain pulls only low), HIGHZ releases
it (log 94). -/
def tapOutput (s : State) (land : Nat) : Option Bool :=
  let cell := s.jtag.boundary.getD land false
  let own := ownOutput s land
  match jtagActive s with
  | 2 | 4 => if land = 8 ∨ land = 9 then (if cell then none else some false) else if drivenLand land then some cell else none
  | 5 => none
  | _ => own

/-- R515: the lands with fixed thresholds, which do not hang on VIO: CANA_RX, INT_N, FAULT_N, WAKE, RESET_N and FLT_IN_N. -/
def fixedLand (land : Nat) : Bool := [1, 8, 9, 10, 11, 15].contains land

/-- R515, R518: the output on a land: high-Z in OFF, and for a VIO-level land while VIO is absent. -/
def landOutput (s : State) (land : Nat) : Option Bool :=
  if s.power.device = 0 then none
  else if !s.power.vio && !fixedLand land then none
  else tapOutput s land

end Sys2Proof.Machine
end

