-- ==== Sys2Proof/Tests/Slice0.lean ====
section
/-!
SUPPORT. Tests of the model on small states: ill-formed commands that the check refuses, words of instructions, and for every statement with hypotheses
a state and operands that meet them, clause by clause. Expected values come from the rules of spec/ that the statements cite.
-/

namespace Sys2Proof.Tests

open Sys2Proof Sys2Proof.Machine

set_option maxRecDepth 20000
set_option exponentiation.threshold 5000
set_option Elab.async false

/-! ### States -/

/-- LIT with every domain ON and the sequencer in its first scan. -/
def on : State := { State.reset with
  now := 5000000
  power := { State.reset.power with device := 4, domains := Vector.replicate 8 ⟨2, true, false⟩, darkBack := 0, darkFront := 0, light := 2 }
  scan := { State.reset.scan with running := true, scanInFrame := 1, scanCount := 1, scanStart := 5000000, frameStart := 5000000 }
  therm := { State.reset.therm with seen := BitVec.allOnes 32, banded := BitVec.allOnes 32 }
  tolls := { State.reset.tolls with left := Vector.replicate 8 10000 } }

/-- The device state of `on` replaced. -/
def dev (d : Nat) : State := { on with power := { on.power with device := d } }

/-- An engine with registers set. -/
def withRegs (x : Engine) (l : List (Nat × Word)) : Engine := { x with g := l.foldl (fun v p => vset v p.1 p.2) x.g }

/-- The stock engines and WJ as a start leaves them. -/
def fw : State := [0, 1, 2, 3].foldl (fun s e => setEng s e { State.engineReset e with run := .running, tvec := 0x100 })
  (setEng on 8 { State.engineReset 8 with run := .standby })

/-- Engine 0 of `fw` changed. -/
def eng0 (f : Engine → Engine) : State := setEng fw 0 (f (engOf fw 0))

/-- Engine 0 with registers. -/
def run0 (l : List (Nat × Word)) : State := eng0 (fun x => withRegs x l)

/-- A state with an entry set. -/
def set (k v : Nat) (s : State) : State := s.setReg k v

/-- SPI session 1 open with the writing key and the service level. -/
def host : State := setSess { fw with kdp := { fw.kdp with keyholder := 1 } } 1
  { State.sessionReset with isOpen := true, transport := 2, service := true, seqLast := 4 }

/-- The header of its next request. -/
def hdr : Hdr := ⟨2, 1, 5, []⟩

theorem hostNext : NextRequest hdr host := by unfold NextRequest; decide

theorem hostKey : HoldsKey hdr host := by unfold HoldsKey; decide

theorem hostBooted : bootedSlot host ≠ none := by decide

/-- A token of C7 is left for an engine without a cap. -/
theorem token {s : State} (h : 1 ≤ tokensLeft s 7) (hp : s.tolls.part = []) (hc : s.reg (Reg.engC7Cap 0) = 0) : HasToken s 0 :=
  ⟨h, (by rw [hp]; intro p hm; cases hm), Or.inl hc⟩

theorem hostMayWrite : MayWrite (.host hdr) true host := ⟨hostBooted, hostNext, hostKey, fun _ => by decide⟩

theorem hostMayWrite0 : MayWrite (.host hdr) false host := ⟨hostBooted, hostNext, hostKey, fun h => by cases h⟩

theorem firmwareMayWrite (b : Bool) : MayWrite .firmware b fw := ⟨by decide, ⟨0, by decide⟩, by decide⟩

/-! ### Ill-formed commands -/

theorem test_wf_slack : (Instr.scanBoundary ⟨257, [], []⟩).wf = false ∧ (Instr.scanBoundary ⟨0, [], [4096]⟩).wf = false ∧ (Instr.clusterSwap 0 [4096] []).wf = false := by decide
theorem test_wf_ecc_scan : (Instr.scanBoundary ⟨0, [⟨50331648, false⟩], []⟩).wf = false ∧ (Instr.faultNotice [⟨50331648, false⟩]).wf = false ∧
  (Instr.rectValueCheck 0 [⟨50331648, false⟩]).wf = false ∧ (Instr.readbackReq [] ⟨[⟨50331648, false⟩], []⟩).wf = false := by decide
theorem test_wf_slot : (Instr.phaseSlot ⟨0, [⟨1048576, 0⟩], 0, [], [], [], []⟩).wf = false ∧ (Instr.phaseSlot ⟨0, [], 0, [⟨1048576, 0⟩], [], [], []⟩).wf = false ∧
  (Instr.phaseSlot ⟨0, [], 0, [], [⟨1048576, 0, 0⟩], [], []⟩).wf = false ∧ (Instr.phaseSlot ⟨0, [], 0, [], [], [⟨1048576, 0⟩], []⟩).wf = false ∧
  (Instr.phaseSlot ⟨0, [], 0, [], [], [], [1048576]⟩).wf = false := by decide
theorem test_wf_ecc_tiles : (Instr.composeTileDone 0 ⟨[⟨50331648, true⟩], []⟩).wf = false ∧ (Instr.driveTileDone 0 ⟨[⟨50331648, true⟩], []⟩).wf = false ∧
  (Instr.writebackDone ⟨[⟨50331648, true⟩], []⟩).wf = false ∧ (Instr.regionLanded ⟨[⟨50331648, true⟩], []⟩).wf = false ∧
  (Instr.moveComplete 0 ⟨[⟨50331648, true⟩], []⟩ .sound).wf = false ∧ (Instr.latchLoadTileDone 0 ⟨[⟨50331648, true⟩], []⟩ []).wf = false := by decide
theorem test_wf_echo : (Instr.latchLoadTileDone 0 ⟨[], []⟩ [⟨1048576, true, true⟩]).wf = false := by decide
theorem test_wf_row : (Instr.rowRepairDone 24576).wf = false := by decide
theorem test_wf_mirror : (Instr.mirrorBuildDone ⟨[4096], false, false, [], [], []⟩).wf = false ∧ (Instr.mirrorBuildDone ⟨[], false, false, [1048576], [], []⟩).wf = false ∧
  (Instr.mirrorBuildDone ⟨[], false, false, [], [65536], []⟩).wf = false ∧ (Instr.mirrorBuildDone ⟨[], false, false, [], [], [4096]⟩).wf = false := by decide
theorem test_wf_lantern : (Instr.lanternLoadDone [4096] []).wf = false ∧ (Instr.lanternLoadDone [] [4096]).wf = false := by decide
theorem test_wf_raw : (Instr.adcConversionDone 0 65536 0).wf = false ∧ (Instr.adcConversionDone 0 0 (-32769)).wf = false := by decide
theorem test_wf_good : (Instr.scanBoundary ⟨256, [⟨50331647, true⟩], [4095]⟩).wf = true ∧ (Instr.adcConversionDone 3 4095 0).wf = true := by decide

/-! ### Words (R352, R353): bit by bit from the formats and the opcode table -/

theorem test_word_add : decodeEngine 0 0b000000_00001_00010_00011_00000000000#32 = .add 0 1 2 3 := by decide
theorem test_word_clz : decodeEngine 0 0b000000_00100_00101_00000_00000010000#32 = .clz 0 4 5 := by decide
theorem test_word_lui : decodeEngine 0 0b000110_00111_00000_0001001000110100#32 = .lui 0 7 0x1234#16 := by decide
theorem test_word_sw : decodeEngine 2 0b001111_01000_01001_1111111111111100#32 = .sw 2 8 9 0xFFFC#16 .sound := by decide
theorem test_word_jr : decodeEngine 1 0b010010_00000_11111_0000000000000000#32 = .jr 1 0 31 0#16 := by decide
theorem test_word_encode : encodeEngine (.sub 3 3 1 2) = some 0b000000_00011_00001_00010_00000000001#32 := by decide
theorem test_table_word : decodeTableWord 8 0x12 = none := rfl

/-! ### What the statements about engines assume -/

/-- Registers g1 to g3 of engine 0. -/
def ops (a b : Word) : State := run0 [(1, a), (2, b), (3, 0x1000FFE0)]

theorem opsExecutes (a b : Word) : Executes (ops a b) 0 := ⟨rfl, (by decide : (0 : Word).toNat < 65536)⟩
theorem opsRegs (a b : Word) : (engOf (ops a b) 0).get 1 = a ∧ (engOf (ops a b) 0).get 2 = b := ⟨rfl, rfl⟩
theorem opsAlone (a b : Word) : ExecutesAlone (ops a b) 0 := ⟨opsExecutes a b, rfl⟩

theorem witness_CarryAndBorrow : Executes (ops 0xFFFFFFFF 1) 0 := opsExecutes _ _

theorem witness_LogicKeepsCarry : Executes (ops 5 33) 0 ∧ (31#16).toNat / 32 % 4 = 0 ∧ (32#16).toNat / 32 % 4 = 1 ∧ (95#16).toNat / 32 % 4 = 2 :=
  ⟨opsExecutes _ _, by decide⟩

theorem witness_MultiplyDivide : Executes (ops 0x80000000 2) 0 ∧ (engOf (ops 0x80000000 2) 0).get 2 ≠ 0 ∧ (engOf (ops 0x80000000 2) 0).get 1 = 0x80000000#32 :=
  ⟨opsExecutes _ _, by decide⟩

theorem witness_DivisionCorners : Executes (ops 7 0) 0 ∧ (engOf (ops 7 0) 0).get 2 = 0 ∧
    Executes (ops 0x80000000 0xFFFFFFFF) 0 ∧ (engOf (ops 0x80000000 0xFFFFFFFF) 0).get 1 = 0x80000000#32 ∧ (engOf (ops 0x80000000 0xFFFFFFFF) 0).get 2 = 0xFFFFFFFF#32 :=
  ⟨opsExecutes _ _, by decide, opsExecutes _ _, by decide⟩

theorem witness_BranchesAndJumps : Executes (ops 0 0) 0 := opsExecutes _ _

theorem witness_TrapSaves : Executes (ops 1 0) 0 ∧ (engOf (ops 1 0) 0).inTrap = false ∧ (engOf (ops 1 0) 0).tvec ≠ 0 ∧ ((engOf (ops 1 0) 0).get 1).toNat % 2 = 1 ∧
    ((engOf (ops 2 0) 0).get 1).toNat % 4 ≠ 0 ∧ ((engOf (ops 0xFFFC 0) 0).get 1).toNat < 0x10000 ∧ (127#16).toNat / 32 % 4 = 3 :=
  ⟨opsExecutes _ _, by decide⟩

theorem witness_TrapSaves_bounds :
    [0x10000, 0x0FFFFFFC, 0x10010000, 0x1FFFFFFC, 0x20000100, 0x3FFFFFFC, 0x44000000, 0xFFFFFFFC].all (fun a => a % 4 == 0) = true := by decide

/-- An engine in its handler, and WJ gone. -/
def trapped : State := setEng (eng0 (fun x => { x with inTrap := true })) 8 { State.engineReset 8 with run := .failed }

/-- W4 running with no handler. -/
def noHandler : State := setEng trapped 4 { State.engineReset 4 with run := .running }

theorem witness_TrapInHandlerFails : ExecutesAlone trapped 0 ∧ (engOf trapped 0).inTrap = true ∧ (engOf trapped 8).run ≠ .standby ∧
    ExecutesAlone noHandler 4 ∧ (engOf noHandler 4).tvec = 0 ∧ 4 ≤ (engOf noHandler 4).runsAs ∧ (engOf noHandler 4).runsAs < 8 :=
  ⟨⟨⟨rfl, by decide⟩, rfl⟩, rfl, by decide, ⟨⟨rfl, by decide⟩, rfl⟩, by decide⟩

/-- Engine 0 at the last word of its data RAM, and WJ gone. -/
def localFatal : State := setEng (ops 0x1000FFFC 0) 8 { State.engineReset 8 with run := .failed }

theorem witness_LocalLoads : Executes (ops 0xFFFC 0) 0 ∧ MemObs.corrected ≠ .fatal ∧ ((engOf (ops 0xFFFC 0) 0).get 1).toNat = 0xFFFC ∧
    ((engOf (ops 0x1000FFFF 0) 0).get 1 + (0#16).signExtend 32).toNat = 0x1000FFFF ∧
    ExecutesAlone trapped 0 ∧ (engOf trapped 8).run ≠ .standby ∧ ((engOf trapped 0).get 0 + (0#16).signExtend 32).toNat % 4 = 0 ∧
    Executes localFatal 0 ∧ inPair localFatal 0 = false ∧ (engOf localFatal 8).run ≠ .standby ∧ ((engOf localFatal 0).get 1 + (0#16).signExtend 32).toNat = 0x1000FFFC :=
  ⟨opsExecutes _ _, by decide, by decide, by decide, ⟨⟨rfl, by decide⟩, rfl⟩, by decide, by decide, ⟨rfl, by decide⟩, rfl, by decide, by decide⟩

theorem witness_LocalStores : Executes (ops 0x10000000 0) 0 ∧ ((engOf (ops 0x10000000 0) 0).get 1 + (0xFFFC#16).signExtend 32 + 4).toNat = 0x10000000 ∧
    ((engOf (ops 0x1000FFFE 0) 0).get 1).toNat % 2 = 0 ∧ MemObs.corrected ≠ .fatal :=
  ⟨opsExecutes _ _, by decide⟩

/-- Engine 0 of a state with registers, and window 0 on a channel. -/
def window (h : Nat) (l : List (Nat × Word)) (s : State) : State :=
  setEng s 0 { withRegs (engOf s 0) l with winHandle := vset (engOf s 0).winHandle 0 (BitVec.ofNat 32 h) }

/-- A channel of a descriptor in the first slot. -/
def placed (d : List Byte) : Nat × State := match placeChannel fw d 0 none with
  | (_, some c, s) => (c.handle, s)
  | (_, none, s) => (0, s)

/-- The descriptor of an M1 surface of 64 by 32 pixels, and one of a width that is no multiple of 16. -/
def surfaceOf (width : Nat) : List Byte := bytesLE 1 1 ++ bytesLE 1 4 ++ bytesLE 2 0 ++ bytesLE 2 width ++ bytesLE 2 32 ++ bytesLE 4 0

/-- A BLOB of 4,096 bytes, and an M1 surface, mapped by window 0 of engine 0. -/
def blobOf : Nat × State := placed (bytesLE 1 4 ++ bytesLE 7 0 ++ bytesLE 4 4096)
def blob : State := window blobOf.1 [(1, 0x40000FFC), (2, 5)] blobOf.2
def mapped : State := window (placed (surfaceOf 64)).1 [(1, 0x40000000)] (placed (surfaceOf 64)).2

/-- The last word of the BLOB poisoned. -/
def poisonedBlob : State := { blob with store := { blob.store with poison := match blob.chans.live with | [c] => [c.addr 4088] | _ => [] } }

/-- What an engine with a token meets at the place its register 1 names in window 0. -/
def windowed (s : State) (test : Channel → Bool) : Bool := match areaOf s (engOf s 0).winHandle[0].toNat with
  | some (.chan c) => test c
  | _ => false

theorem blobRuns : ExecutesAlone blob 0 ∧ domainOn blob 3 = true ∧ HasToken blob 0 := ⟨⟨⟨rfl, by decide⟩, rfl⟩, by decide, token (by decide) rfl (by decide)⟩

theorem witness_WindowAccesses : (ExecutesAlone blob 0 ∧ domainOn blob 3 = true ∧ HasToken blob 0) ∧ ((engOf blob 0).get 1).toNat = 0x40000FFC ∧
    windowed blob (fun c => c.type == 4 && decide (4092 + 4 ≤ c.bytes) && (List.range 4).all (fun j => !areaPoisoned blob (.chan c) (4092 + j))) = true ∧ (engOf blob 0).runsAs < 4 ∧
    (ExecutesAlone poisonedBlob 0 ∧ domainOn poisonedBlob 3 = true ∧ HasToken poisonedBlob 0) ∧ windowed poisonedBlob (fun c => areaPoisoned poisonedBlob (.chan c) 4092) = true ∧
    (engOf poisonedBlob 0).inTrap = false ∧ (engOf poisonedBlob 0).tvec ≠ 0 ∧
    (ExecutesAlone mapped 0 ∧ domainOn mapped 3 = true ∧ HasToken mapped 0) ∧ windowed mapped (fun c => c.type == 1) = true ∧ ((engOf mapped 0).get 1).toNat = 0x40000000 ∧
    (engOf mapped 0).inTrap = false ∧ (engOf mapped 0).tvec ≠ 0 ∧
    (ExecutesAlone (window 0x01000007 [(1, 0x40FFFFFC)] fw) 0 ∧ domainOn (window 0x01000007 [(1, 0x40FFFFFC)] fw) 3 = true ∧ HasToken (window 0x01000007 [(1, 0x40FFFFFC)] fw) 0) ∧
    areaOf (window 0x01000007 [(1, 0x40FFFFFC)] fw) 0x01000007 = none :=
  ⟨blobRuns, by decide, by decide, by decide, ⟨⟨⟨rfl, by decide⟩, rfl⟩, by decide, token (by decide) rfl (by decide)⟩, by decide, by decide, by decide,
    ⟨⟨⟨rfl, by decide⟩, rfl⟩, by decide, token (by decide) rfl (by decide)⟩, by decide, by decide, by decide, by decide,
    ⟨⟨⟨rfl, by decide⟩, rfl⟩, by decide, token (by decide) rfl (by decide)⟩, by decide⟩

theorem witness_PortAccesses : ExecutesAlone (ops 0x20000000 0) 0 ∧ ((engOf (ops 0x20000000 0) 0).get 1 + (0xB0#16).signExtend 32).toNat = 0x200000B0 ∧
    ((engOf (ops 0x20000000 0) 0).get 1 + (4#16).signExtend 32).toNat = 0x20000004 ∧ ((engOf (ops 0x20000000 0) 0).get 1 + (0x78#16).signExtend 32).toNat = 0x20000060 + 8 * 3 ∧
    ((engOf (ops 0x20000000 0) 0).get 1 + (0x3C#16).signExtend 32).toNat = 0x20000030 + 4 * 3 ∧ ((engOf (ops 0x20000000 0) 0).get 1 + (0x50#16).signExtend 32).toNat = 0x20000050 ∧
    (engOf (ops 0x20000000 0) 0).inTrap = false ∧ (engOf (ops 0x20000000 0) 0).tvec ≠ 0 := ⟨opsAlone _ _, by decide⟩

/-- Queue 10 with a control. -/
def queue10 (c : QueueCtl) : State := { ops 0x1000FFE0 0 with queues := vset fw.queues 10 c }

theorem witness_QueuePush : ExecutesAlone (ops 0x1000FFE0 0) 0 ∧ domainOn (ops 0x1000FFE0 0) 3 = true ∧ ((engOf (ops 0x1000FFE0 0) 0).get 1).toNat + 32 = 0x10010000 ∧
    qFull (ops 0x1000FFE0 0) 10 = false ∧ qFull (queue10 { State.queueReset with tail := BitVec.ofNat 16 (qEntries fw 10) }) 10 = true ∧ (10#16).toNat % 16 = 10 ∧ HasToken (ops 0x1000FFE0 0) 0 :=
  ⟨opsAlone _ _, by decide, by decide, by decide, by decide, by decide, token (by decide) rfl (by decide)⟩

/-- Queue 10 with one entry that no engine has popped, and with one that engine 0 holds. -/
def fresh : State := queue10 { State.queueReset with tail := 1 }
def leased : State := queue10 { State.queueReset with tail := 1, lease := 1, lessees := [(0, 0)] }

theorem witness_QueuePopAndAcknowledge : ExecutesAlone fresh 0 ∧ (qCtl fresh 10).returned = [] ∧ (qCtl fresh 10).lease ≠ (qCtl fresh 10).tail ∧
    (qCtl (ops 0x10000000 0) 10).lease = (qCtl (ops 0x10000000 0) 10).tail ∧
    HasToken fresh 0 ∧ ExecutesAlone leased 0 ∧ (engOf leased 0).ckptLen = 0 ∧ ((engOf leased 0).get 2).setWidth 16 = (qCtl leased 10).head ∧
    (qCtl leased 10).lessees.any (fun l => l.1 == (0 : BitVec 16)) = true ∧ (qCtl leased 10).acked = [] ∧
    (engOf (eng0 (fun x => { x with ckptLen := 16 })) 0).ckptLen ≠ 0 :=
  ⟨⟨⟨rfl, by decide⟩, rfl⟩, by decide, by decide, by decide, token (by decide) rfl (by decide), ⟨⟨rfl, by decide⟩, rfl⟩, by decide⟩

/-- Engine 0 with event 3 pending and unmasked, and one that waits for an event. -/
def pendingEvent : State := eng0 (fun x => { withRegs x [(1, 10)] with evmask := 8, pendingEvents := [⟨3, 7, 9⟩] })
def waiting : State := eng0 (fun x => { x with stall := .event 4 (some 9000000) })

theorem witness_EventInstructions : ExecutesAlone pendingEvent 0 ∧ nextEvent pendingEvent (engOf pendingEvent 0) = some ⟨3, 7, 9⟩ ∧
    MemObs.corrected ≠ .fatal ∧ nextEvent (ops 0 0) (engOf (ops 0 0) 0) = none ∧ (engOf (ops 0 0) 0).get 1 = 0 ∧ nextEvent (ops 0xFFFFFFFF 0) (engOf (ops 0xFFFFFFFF 0) 0) = none ∧
    (engOf waiting 0).run = .running ∧ (engOf waiting 0).stall = .event 4 (some 9000000) ∧ inPair waiting 0 = false ∧
    ((engOf (ops 0x1000FFF8 0) 0).get 1).toNat + 8 = 0x10010000 ∧ (105#16).toNat % 128 = 105 ∧ (111#16).toNat % 128 = 111 :=
  ⟨⟨⟨rfl, by decide⟩, rfl⟩, by decide⟩

/-- The descriptor of a move, and engine 0 of a state with it under way. -/
def descriptor (src so dst d n mode : Nat) : List Byte := bytesLE 4 src ++ bytesLE 4 so ++ bytesLE 4 dst ++ bytesLE 4 d ++ bytesLE 4 n ++ bytesLE 1 mode ++ bytesLE 11 0
def underMove (refused : Nat) (d : List Byte) (s : State) : State := setEng s 0 { engOf s 0 with moves := [⟨5, d, refused, 0, none⟩] }

/-- A move of 32 bytes of the data RAM, from 0 to 64, under way and done. -/
def moving : State := underMove 0 (descriptor 0 0 0 64 32 0) (eng0 (fun x => { withRegs x [(1, 0x10000000)] with doneMoves := [(0x10000000, 3)] }))

theorem movingOf {s : State} (h : (!inPair s 0 && (engOf s 0).run == .running && (engOf s 0).stall == .none && s.reg (Reg.engC7Cap 0) == 0 &&
    (List.range 8).all (fun k => bits (s.reg (Reg.assayConfig k)) 15 8 != 4)) = true) : Moving s 0 := by
  simp only [Bool.and_eq_true, Bool.not_eq_true', beq_iff_eq, List.all_eq_true, List.mem_range, bne_iff_ne, ne_eq] at h
  exact ⟨h.1.1.1.1, h.1.1.1.2, h.1.1.2, h.1.2, h.2⟩

/-- The last 32 bytes of the data RAM into the BLOB, and back. -/
def intoBlob : State := underMove 0 (descriptor 0 65504 blobOf.1 0 32 0) blobOf.2
def fromBlob : State := underMove 0 (descriptor blobOf.1 0 0 65504 32 0) blobOf.2

/-- The area that a handle names for a move is a channel that passes a test. -/
def movesChannel (s : State) (h : Nat) (test : Channel → Bool) : Bool := match movingArea s h with
  | some (.chan c) => test c
  | _ => false

theorem witness_BlockMoves : ExecutesAlone moving 0 ∧ (engOf moving 0).moves.length < 4 ∧ ((engOf moving 0).get 1).toNat + 32 ≤ 0x10010000 ∧
    (areaOf moving (field (memRange (engOf moving 0).dram 0 32) 0 4)).isSome = true ∧ (areaOf moving (field (memRange (engOf moving 0).dram 0 32) 8 4)).isSome = true ∧
    (engOf moving 0).doneMoves.lookup ((engOf moving 0).get 1) = some 3 ∧ Moving moving 0 ∧ field (descriptor 0 0 0 64 32 0) 20 1 = 0 ∧ field (descriptor 0 0 0 64 32 0) 12 4 = 64 :=
  ⟨⟨⟨rfl, by decide⟩, rfl⟩, by decide, by decide, by decide, by decide, by decide, movingOf (by decide), by decide⟩

theorem witness_BlockMoves_blob : Moving intoBlob 0 ∧ Moving fromBlob 0 ∧ domainOn intoBlob 3 = true ∧ ceilDiv 32 64 ≤ tokensLeft intoBlob 7 ∧ ceilDiv 32 64 ≤ tokensLeft fromBlob 7 ∧
    movesChannel intoBlob blobOf.1 (fun c => c.type == 4 && (List.range 32).all (fun i => decide (c.addr i = c.addr 0 + i))) = true ∧
    movesChannel fromBlob blobOf.1 (fun c => c.type == 4 && (List.range 32).all (fun i => !areaPoisoned fromBlob (.chan c) i)) = true :=
  ⟨movingOf (by decide), movingOf (by decide), by decide⟩

/-- The front drive tile 4095 into a Lantern frame, with VERIFY or without, its check word sound or not; a refused move. -/
def spoiled : State := storeBytes fw (driveFront fw 4095).base [1]
def savingTile (mode : Nat) (s : State) : State := underMove 0 (descriptor 0xFF000002 4095 0xFE000005 0 1 mode) s
def refusedMove : State := underMove 2 (descriptor 7 0 0 0 1 0) fw

theorem witness_TileMoves : Moving (savingTile 2 fw) 0 ∧ (savingTile 2 fw).store.poison = [] ∧ domainOn (savingTile 2 fw) 3 = true ∧ 9 ≤ tokensLeft (savingTile 2 fw) 7 ∧
    (let d := descriptor 0xFF000002 4095 0xFE000005 0 1 6; field d 0 4 = 0xFF000002 ∧ field d 8 4 = 0xFE000005 ∧ field d 4 4 = 4095 ∧ field d 12 4 = 0 ∧ field d 16 4 = 1 ∧ field d 20 1 = 6) ∧
    Moving (savingTile 6 fw) 0 ∧ Moving refusedMove 0 ∧ (engOf refusedMove 0).moves = [⟨5, descriptor 7 0 0 0 1 0, 2, 0, none⟩] :=
  ⟨movingOf (by decide), rfl, by decide, by decide, by decide, movingOf (by decide), movingOf (by decide), by decide⟩

theorem witness_TileMoves_sound : tileSound (savingTile 6 fw) (driveFront (savingTile 6 fw) 4095) = true := by decide +kernel

theorem witness_TileMoves_unsound : tileSound (savingTile 6 spoiled) (driveFront (savingTile 6 spoiled) 4095) = false ∧ Moving (savingTile 6 spoiled) 0 :=
  ⟨by decide +kernel, movingOf (by decide)⟩

/-- The last 32 bytes of the data RAM into the last tile of a surface. -/
def intoSurface : State := underMove 0 (descriptor 0 2047 (placed (surfaceOf 64)).1 7 1 2) (placed (surfaceOf 64)).2

theorem witness_TileMoves_surface : Moving intoSurface 0 ∧ intoSurface.store.poison = [] ∧ domainOn intoSurface 3 = true ∧ 2047 * 32 + 32 ≤ 65536 ∧ ceilDiv 32 64 + 1 ≤ tokensLeft intoSurface 7 ∧
    movesChannel intoSurface (placed (surfaceOf 64)).1 (fun c => c.type == 1 && c.format == 4 && decide (formatBytes 4 = 32) && !tileWaits intoSurface c 7 && !bitAt (sideState intoSurface (.surface c 7 0)) 3 && !c.destroyed &&
      decide (sideState intoSurface (.surface c 7 0) % 2 = 0) && decide ((c.slot, 7) ∉ intoSurface.chans.loose) &&
      decide ((TileRef.surface c 7 0).base + 32 ≤ (TileRef.surface c 7 1).base) && decide ((TileRef.surface c 7 1).base + 32 ≤ (TileRef.surface c 7 1).side)) = true :=
  ⟨movingOf (by decide), rfl, by decide⟩

/-- Checkpointing on; Assayer 4 runs. -/
def checkpointing : State := set (Reg.assayConfig 4) 2 (eng0 (fun x => { withRegs x [(1, 0x1000FFFC), (2, 4), (3, 4)] with ckptLen := 8 }))

theorem witness_TollCheckpointAssay : ExecutesAlone checkpointing 0 ∧ (engOf checkpointing 0).moves = [] ∧ (engOf checkpointing 0).heldAcks = [] ∧ (engOf checkpointing 0).ckptLen ≠ 0 ∧
    domainOn checkpointing 3 = true ∧ ((engOf checkpointing 0).get 3).toNat % 8 = 4 ∧ ((engOf checkpointing 0).get 1).toNat + ((engOf checkpointing 0).get 2).toNat = 0x10010000 ∧
    bitAt (checkpointing.reg (Reg.assayConfig 4)) 1 = true :=
  ⟨⟨⟨rfl, by decide⟩, rfl⟩, by decide⟩

/-- The dictionary port of engine 0 on an entry, with a length. -/
def port (entry len : Word) : State := eng0 (fun x => { x with dictEntry := entry, dictLen := len })

theorem witness_DictionaryPort : ExecutesAlone (port 0x7F0000 1) 0 ∧ dictWaits (port 0x7F0000 1) 0 = false ∧ rowFor (port 0x7F0000 1) 0x7F0000 = none ∧
    (∃ r b, rowFor (port 0x230002 1) 0x230002 = some r ∧ readEntry (port 0x230002 1) 0 false r 0x230002 = (0, b, port 0x230002 1) ∧ b.length = 1) ∧
    (∃ st m, writeEntry (port 0x230006 1) 0 false 0x230006 (memRange (engOf (port 0x230006 1) 0).dram 0 1) [] = (st, [], m) ∧ engOf m 0 = engOf (port 0x230006 1) 0 ∧ m.pair = fw.pair) ∧
    (engOf (port 0x230006 1) 0).runsAs < 4 :=
  ⟨⟨⟨rfl, by decide⟩, rfl⟩, by decide, by decide, ⟨_, _, rfl, rfl, rfl⟩, ⟨_, _, rfl, rfl, rfl⟩, by decide⟩

/-- Engines with their watchdogs on: W0 of slot 0 with WJ standing by, W0 and W4 with no spare. -/
def watched (e : Nat) (wj : RunState) : State :=
  setEng (setEng fw e { State.engineReset e with run := .running, image := 0, wdogEn := true }) 8 { State.engineReset 8 with run := wj }
def pairOf (p : Pair) : State := { setEng (eng0 (fun x => { x with image := 0 })) 1 { State.engineReset 1 with run := .running, image := 0 } with pair := p }

/-- An image with one segment of 4 bytes of code for each stock engine, whose SEG_HASH is sound. -/
def segment : List Byte := bytesLE 4 640 ++ bytesLE 4 4 ++ bytesLE 4 640 ++ bytesLE 4 0 ++ bytesLE 16 0 ++ sha256 (bytesLE 4 0)
def image : List Byte := List.replicate 12 0 ++ bytesLE 4 644 ++ List.replicate 112 0 ++ segment ++ List.replicate 448 0 ++ bytesLE 4 0

/-- W0 failed, to be replaced by WJ from a checkpoint, with an image in its slot; outside the pair and in it. -/
def takeover (p : Bool) (img : List Byte) : State :=
  { setEng (pairOf ⟨p, none, [], p⟩) 0 { State.engineReset 0 with run := .failed, image := 0, ckpts := [⟨Vector.replicate 32 7, ⟨true, false, true, false, true⟩, 0x40, 0, []⟩] } with
    takeover := some (0, 2), mram := { fw.mram with images := vset fw.mram.images 0 img } }

theorem witness_EngineSupervision :
    (∀ x ∈ ([(0, .standby), (0, .failed), (4, .failed)] : List (Nat × RunState)),
      (engOf (watched x.1 x.2) x.1).run = .running ∧ (engOf (watched x.1 x.2) x.1).wdogEn = true ∧ inPair (watched x.1 x.2) x.1 = false ∧ (engOf (watched x.1 x.2) 8).run = x.2 ∧
      (engOf (watched x.1 x.2) x.1).runsAs = x.1 ∧ (engOf (watched x.1 x.2) x.1).image < 3 ∧ (watched x.1 x.2).takeover = none ∧ (watched x.1 x.2).dump.due = none) ∧
    (∀ p, (takeover p image).takeover = some (0, 2) ∧ (engOf (takeover p image) 0).runsAs < 4 ∧ inPair (takeover p image) 0 = p ∧ (takeover p image).dump.due = none ∧
      runsAs (takeover p image) 1 = [1] ∧ (engOf (takeover p image) 0).ckpts.length = 1) ∧
    segUsed (imageOf (takeover false []) 0) 0 = false ∧
    (engOf fw 8).run = .standby ∧ fw.takeover = none ∧
    (pairOf ⟨true, some (0, .signal 105 0, 0, 5), [], false⟩).pair.active = true ∧ (pairOf ⟨true, none, [], true⟩).pair.checking = true ∧
    runsAs (pairOf ⟨true, none, [], true⟩) 0 = [0] ∧ runsAs (pairOf ⟨true, none, [], true⟩) 1 = [1] ∧
    (engOf (pairOf ⟨true, none, [], true⟩) 8).run = .standby ∧ (engOf (pairOf ⟨true, none, [], true⟩) 0).image < 3 ∧ (engOf (pairOf ⟨true, none, [], true⟩) 1).image < 3 := by
  refine ⟨by decide, fun p => by cases p <;> decide, by decide⟩

theorem witness_EngineSupervision_image : segUsed image 0 = true ∧ segFits image 0 = true ∧ segHashOk image 0 = true ∧ imageOf (takeover true image) 0 = image := by decide

/-! ### What the statements about writes assume -/

theorem valid_of {s : State} {key v : Nat} (h : (match rowFor s key with | some r => r.inRange key v | none => false) = true) (hm : s.modules = []) : Valid s key v := by
  refine ⟨?_, by rw [hm]; intro m hx; cases hx⟩
  split at h
  · exact ⟨_, ‹_›, h⟩
  · cases h

theorem witness_WritesOfUnitRegisters : MayWrite .firmware false fw ∧ MayWrite (.host hdr) false host ∧
    Valid fw (Reg.assayConfig 7) 3 ∧ bitAt (fw.reg (Reg.assayConfig 7)) 1 = false ∧
    Valid fw (Reg.queueEntries 15) 2048 ∧ 2048 = 32 * 2 ^ 6 ∧ qCount fw 15 = 0 ∧ (qCtl fw 15).lessees = [] ∧ fw.dump.writing = false ∧
    Valid fw (Reg.canMode 1) 2 ∧ fw.reg (Reg.canNomKbps 1) ≤ fw.reg (Reg.canDataKbps 1) :=
  ⟨firmwareMayWrite _, hostMayWrite0, valid_of (by decide) rfl, by decide, valid_of (by decide) rfl, by decide, by decide, by decide, by decide,
    valid_of (by decide) rfl, by decide⟩

/-- The north half off and its bit of `pwr.array_mask` clear. -/
def northOff : State := setDomain (set Reg.pwrArrayMask 2 fw) 5 ⟨0, false, false⟩

theorem witness_WritesOfPower : MayWrite .firmware false fw ∧ fw.power.device = 4 ∧ fw.reg Reg.bistLockout = 0 ∧
    Valid fw Reg.pwrArrayMask 2 ∧ bitAt 2 1 = bitAt (fw.reg Reg.pwrArrayMask) 1 ∧ AllOn fw ∧ bitAt 2 0 = false ∧ bitAt (fw.reg Reg.pwrArrayMask) 0 = true ∧ bitAt fw.power.darkFront 0 = false ∧
    MayWrite .firmware false northOff ∧ Valid northOff Reg.pwrArrayMask 3 ∧ bitAt 3 1 = bitAt (northOff.reg Reg.pwrArrayMask) 1 ∧
    (∀ d, 1 ≤ d → d ≤ 7 → d ≠ 5 → domainOf northOff d = ⟨2, true, false⟩) ∧ domainOf northOff 5 = ⟨0, false, false⟩ ∧
    bitAt 3 0 = true ∧ bitAt (northOff.reg Reg.pwrArrayMask) 0 = false ∧ northOff.therm.shutdown = false := by
  refine ⟨firmwareMayWrite _, rfl, rfl, valid_of (by decide) rfl, by decide, ?_, by decide, by decide, by decide,
    ⟨by decide, ⟨0, by decide⟩, by decide⟩, valid_of (by decide) rfl, by decide, ?_, by decide, by decide, by decide, rfl⟩
  · intro d h1 h2
    have : d = 1 ∨ d = 2 ∨ d = 3 ∨ d = 4 ∨ d = 5 ∨ d = 6 ∨ d = 7 := by omega
    rcases this with rfl | rfl | rfl | rfl | rfl | rfl | rfl <;> rfl
  · intro d h1 h2 h3
    have : d = 1 ∨ d = 2 ∨ d = 3 ∨ d = 4 ∨ d = 6 ∨ d = 7 := by omega
    rcases this with rfl | rfl | rfl | rfl | rfl | rfl <;> rfl

/-- The Lantern beam lit. -/
def beamLit : State := { fw with lantern := { fw.lantern with state := 2 } }

theorem witness_WritesOfLantern : MayWrite .firmware false fw ∧ fw.lantern.state = 0 ∧ fw.therm.shutdown = false ∧ fw.reg Reg.bistLockout = 0 ∧
    MayWrite .firmware false beamLit ∧ beamLit.lantern.state = 2 ∧ feedValid beamLit = true ∧ lanternStale beamLit = false ∧ beamLit.reg Reg.bistLockout = 0 :=
  ⟨firmwareMayWrite _, rfl, rfl, rfl, ⟨by decide, ⟨0, by decide⟩, by decide⟩, rfl, by decide, by decide, rfl⟩

/-- A stock image whose segments are all empty. -/
def bare : List Byte := bytesLE 4 imageMagic ++ bytesLE 8 1 ++ bytesLE 4 640 ++ List.replicate 112 0 ++ (List.replicate 8 (List.replicate 32 (0 : Byte) ++ sha256 [])).flatten
def withImage : State := { fw with mram := { fw.mram with images := vset fw.mram.images 1 bare } }

theorem witness_WritesAtServiceLevel : MayWrite .firmware true fw ∧ MayWrite (.host hdr) true host ∧ (1048575#32).toNat < 1048576 ∧ Valid fw Reg.diagClear 1048575 ∧
    clearRefused fw 1048575 = false ∧ fw.kdp.saving = none ∧ targetSlot fw < 2 :=
  ⟨firmwareMayWrite _, hostMayWrite, by decide, valid_of (by decide) rfl, by decide, rfl, by decide⟩

/-- The DIAG maps in place. -/
def maps : State := createMaps fw

theorem witness_WritesAtServiceLevel_maps : MayWrite .firmware true maps ∧ Valid maps Reg.diagClear 1048575 ∧ clearRefused maps 1048575 = false ∧ maps.store.poison = [] ∧
    (match maps.channel (maps.reg Reg.diagMapHandle), maps.channel (maps.reg Reg.diagEvidenceHandle) with
      | some c, some d =>
        let a := c.addr (pixelTile 1048575 * 128 + pixelPlace 1048575 / 2)
        let e := d.addr 2097150
        decide (a ≠ e) && decide (a ≠ d.addr 2097151) && decide (e ≠ d.addr 2097151)
      | _, _ => false) = true :=
  ⟨⟨by decide, ⟨0, by decide⟩, by decide⟩, valid_of (by decide) rfl, by decide, by decide, by decide⟩

/-- Every check of R366 but the signature, which no rule lets be computed here. -/
theorem witness_WritesAtServiceLevel_image : targetSlot withImage = 1 ∧ imageValid withImage 1 = Config.stockSignatureOk (imageDigest bare) (slice bare 64 64) := by
  refine ⟨by decide, ?_⟩
  have h : field bare 0 4 = imageMagic ∧ field bare 12 4 = 640 ∧ bare.length = 640 ∧ field bare 16 1 = 0 ∧ field bare 8 4 = 0 := by decide +kernel
  have hs : (List.range 8).all (fun e => (!segUsed bare e || segFits bare e) && segHashOk bare e) = true := by decide +kernel
  have hi : imageOf withImage 1 = bare := rfl
  have hr : withImage.reg Reg.engRollbackMin = 0 := by decide
  unfold imageValid
  simp only [hi, hr, h.1, h.2.1, h.2.2.1, h.2.2.2.1, h.2.2.2.2, hs]
  simp

/-- Group 4 triggered by software: disabled, enabled, and enabled with a round under way. -/
def group (on : Nat) : State := set (Reg.adcgChannels 4) 0x0C0B (set (Reg.adcgTrigger 4) 4 (set (Reg.adcgEnable 4) on fw))
def roundLeft : State := setAdcGroup (group 1) 4 { adcGroup (group 1) 4 with left := 1 }
/-- LNK off. -/
def linkOff : State := setDomain fw 2 ⟨0, false, false⟩

theorem witness_WritesOfAdcAndLanes : MayWrite .firmware false (group 0) ∧ (group 0).reg (Reg.adcgEnable 4) = 0 ∧ enableRefused (group 0) 4 = false ∧
    MayWrite .firmware false (group 1) ∧ (group 1).reg (Reg.adcgEnable 4) = 1 ∧
    domainOn (group 1) 7 = true ∧ (adcGroup (group 1) 4).left = 0 ∧ (∀ j, j < 4 → (convOf (group 1) j).slice ≠ none) ∧
    MayWrite .firmware false roundLeft ∧ domainOn roundLeft 7 = true ∧ roundLeft.reg (Reg.adcgTrigger 4) = 4 ∧ (adcGroup roundLeft 4).left ≠ 0 ∧
    fw.adc.injState = 0 ∧ Valid fw Reg.laneEnableMask 15 ∧ domainOn linkOff 2 = false ∧ MayWrite .firmware false linkOff ∧
    domainOn fw 2 = true ∧ (∀ j, j < 4 → inStripe (laneOf fw.lanes j) = false) ∧ bitAt (fw.reg Reg.laneEnableMask) 3 ≠ bitAt 7 3 ∧ Valid fw Reg.laneEnableMask 7 :=
  ⟨⟨by decide, ⟨0, by decide⟩, by decide⟩, by decide, by decide, ⟨by decide, ⟨0, by decide⟩, by decide⟩, by decide, by decide, by decide, by decide,
    ⟨by decide, ⟨0, by decide⟩, by decide⟩, by decide, by decide, by decide, rfl, valid_of (by decide) rfl, by decide, ⟨by decide, ⟨0, by decide⟩, by decide⟩, by decide,
    by decide, by decide, valid_of (by decide) rfl⟩

/-- A surface in the first slot, bound to layer 0. -/
def bound : State :=
  let r := placeChannel fw (bytesLE 1 4 ++ bytesLE 7 0 ++ bytesLE 4 4096) 0 none
  match r with
  | (_, some c, s) => s.setReg (Reg.layerHandle 0) c.handle
  | (_, none, s) => s

/-- The surface bound to no layer; no slot left; no page left; no token left. -/
def unbound : State := set (Reg.layerHandle 0) 0 bound
def noSlots : State := { fw with chans := { fw.chans with slots := [] } }
def noPages : State := { fw with chans := { fw.chans with free := [] } }
def noTokens : State := { fw with tolls := { fw.tolls with left := Vector.replicate 8 0 } }

theorem witness_WritesOfChannels_more : MayWrite .firmware false noSlots ∧ noSlots.chans.slots = [] ∧ MayWrite .firmware false noPages ∧ noPages.chans.slots = 0 :: noPages.chans.slots.tail ∧
    freePages noPages < (⟨0, 1, 1, 4, 64, 32, 0, [], false, false, 0, none⟩ : Channel).pages ∧
    MayWrite .firmware false noTokens ∧ tokensLeft noTokens 7 = 0 ∧ 0 < ceilDiv (⟨0, 1, 1, 4, 64, 32, 0, [], false, false, 0, none⟩ : Channel).bytes 64 ∧
    ceilDiv (⟨0, 1, 1, 4, 64, 32, 0, [], false, false, 0, none⟩ : Channel).bytes 64 ≤ tokensLeft fw 7 ∧
    (match unbound.chans.live with
      | [c] => decide (unbound.channel c.handle = some c) && !c.destroyed && decide (c.handle ≠ unbound.reg Reg.diagMapHandle) && decide (c.handle ≠ unbound.reg Reg.diagEvidenceHandle) && !referenced unbound c.handle && !landing unbound c.handle &&
          (match rowFor unbound Reg.chanDestroy with | some r => r.inRange Reg.chanDestroy c.handle | none => false)
      | _ => false) = true :=
  ⟨⟨by decide, ⟨0, by decide⟩, by decide⟩, rfl, ⟨by decide, ⟨0, by decide⟩, by decide⟩, by decide, by decide, ⟨by decide, ⟨0, by decide⟩, by decide⟩, by decide⟩

theorem witness_WritesOfChannels : MayWrite .firmware false fw ∧ (surfaceOf 65).length = 12 ∧ descriptorOk (surfaceOf 65) = false ∧ descriptorOk (surfaceOf 64) = true ∧
    (match fw.chans.slots with
      | slot :: _ => decide ((⟨slot, 1, field (surfaceOf 64) 0 1, field (surfaceOf 64) 1 1, field (surfaceOf 64) 4 2, field (surfaceOf 64) 6 2, field (surfaceOf 64) 8 4, [], false, false, 0, none⟩ : Channel).pages ≤ freePages fw)
      | [] => false) = true ∧
    MayWrite .firmware false bound ∧
    (match bound.chans.live with
      | [c] => decide (bound.channel c.handle = some c) && !c.destroyed && decide (c.handle ≠ bound.reg Reg.diagMapHandle) && decide (c.handle ≠ bound.reg Reg.diagEvidenceHandle) && referenced bound c.handle &&
          (match rowFor bound Reg.chanDestroy with | some r => r.inRange Reg.chanDestroy c.handle | none => false)
      | _ => false) = true :=
  ⟨firmwareMayWrite _, by decide, by decide, by decide, by decide, ⟨by decide, ⟨0, by decide⟩, by decide⟩, by decide⟩

theorem witness_WritesOfEntries :
    MayWrite .firmware false fw ∧ MayWrite (.host hdr) false host ∧
    (match rowFor fw 0x240002, dictRow 0x240002, rowFor fw 0x230006, dictRow 0x230006 with
      | some a, some b, some c, some d =>
        decide (a = b) && decide (a.size = 2) && decide (a.type ≠ .variable) && decide (a.access = .rc) && decide (fw.reg Reg.beamMode ≠ 1) && !needsService fw 0x240002 (some [0, 64]) &&
        decide (c = d) && decide (c.size = 1) && decide (c.type ≠ .variable) && decide (c.type ≠ .handle) && decide (c.access = .rw) && c.inRange 0x230006 1 && crossRange fw 0x230006 1 &&
        !needsService fw 0x230006 (some [1]) && !writeRefused fw 0 c 0x230006 1 && !writeRefused host 1 c 0x230006 1
      | _, _, _, _ => false) = true ∧ HeldOnly 0x230006 := ⟨firmwareMayWrite _, hostMayWrite0, by decide, by unfold HeldOnly; decide⟩

/-! ### What the statements about scans, frames and tiles assume -/

/-- A follower whose SYNC is in a state, with edges within the window and edges ignored, at a distance from its boundary. -/
def follower (state inBand ignored late : Nat) : State :=
  let s := set Reg.frameSyncMode 2 on
  { s with now := 5000000 + late, scan := { s.scan with sync := { s.scan.sync with state := state, inBand := inBand, ignored := ignored } } }

/-- A follower at an edge 8 ms after the leader's last one. -/
def led (state inBand late : Nat) : State :=
  let s := follower state inBand 0 late
  { s with now := s.now + 8000000, scan := { s.scan with sync := { s.scan.sync with leaderEdge := some s.now } } }

theorem witness_TimebaseAndSync_led : (led 2 3 500).scan.running = true ∧ (led 2 3 500).reg Reg.frameSyncMode = 2 ∧ (led 2 3 500).power.vio = true ∧ (led 2 3 500).scan.sync.state = 2 ∧
    3 ≤ (led 2 3 500).scan.sync.inBand ∧ (phaseError (setInput (led 2 3 500) 3 { inputOf (led 2 3 500) 3 with stuck := false })).natAbs ≤ 500 ∧
    (led 2 3 500).scan.sync.leaderEdge = some 5000500 ∧
    (((led 2 3 500).reg Reg.scanScansPerFrame * (led 2 3 500).reg Reg.scanPeriodUs * 1000 : Nat) - (((led 2 3 500).now - 5000500 : Nat) : Int)).natAbs * 50 ≤ (led 2 3 500).now - 5000500 := by decide

theorem witness_TimebaseAndSync : on.power.device ≠ 0 ∧ on.power.fallback = false ∧
    { on with scan := { on.scan with sync := { on.scan.sync with pin := true } } }.scan.sync.pin = true ∧
    (follower 3 0 0 0).scan.running = true ∧ (follower 3 0 0 0).scan.sync.state = 3 ∧ (follower 2 3 0 500).scan.sync.state = 2 ∧
    (follower 2 3 0 500).reg Reg.frameSyncMode = 2 ∧ (follower 2 3 0 500).power.vio = true ∧ 3 ≤ (follower 2 3 0 500).scan.sync.inBand ∧
    (phaseError (setInput (follower 2 3 0 500) 3 { inputOf (follower 2 3 0 500) 3 with stuck := false })) = -500 ∧
    frameNs (follower 3 4 1 900000) < 10 * (phaseError (setInput (follower 3 4 1 900000) 3 { inputOf (follower 3 4 1 900000) 3 with stuck := false })).natAbs ∧
    (follower 3 4 1 900000).scan.sync.ignored < 2 ∧ 2 ≤ (follower 3 4 2 900000).scan.sync.ignored ∧
    -20000 ≤ on.scan.sync.trimPpm ∧ on.scan.sync.trimPpm ≤ 20000 := by decide

/-- The last scan of the frame still to come, and a group that waits for its swap. -/
def lastScan : State := { on with scan := { on.scan with scanInFrame := 31, scansThisFrame := 32, slot := 15, groups := vset on.scan.groups 15 { grpOf on 15 with swapPending := true } } }

theorem witness_ScansAndSlots : lastScan.scan.running = true ∧ lastScan.scan.scanInFrame < lastScan.scan.scansThisFrame ∧ lastScan.scan.slot < 16 ∧ 0 < lastScan.scan.scanInFrame ∧
    (grpOf lastScan 15).swapPending = true := by decide

/-- A state at a command that gathers its raises. -/
def gathering (s : State) : State := { s with events := { s.events with gathering := some [] } }

/-- A frame whose tiles are complete, with a commit of one value pending; and the same with a tile still to drive. -/
def ready : State := { on with commits := { on.commits with pending := some ⟨7, [(0x240002, 5)], [], [], false⟩ } }
def notReady : State := { ready with pipe := { ready.pipe with driveDirty := 1 } }

theorem witness_FrameBoundary : ready.scan.running = true ∧ ready.pipe.clears = [] ∧ (∀ n, n < 8 → vget ready.commits.held none n = none) ∧ ready.chans.sets = [] ∧
    swapReady (atBoundary (gathering ready)) = true ∧ swapReady (atBoundary (gathering notReady)) = false ∧ (atBoundary (gathering ready)).lantern.state = 0 ∧ notReady.commits.pending ≠ none ∧ notReady.scan.running = true ∧ notReady.pipe.clears = [] ∧
    ready.lantern.state = 0 ∧ ready.power.device = 4 ∧ ready.commits.late = none ∧ ready.commits.pending = some ⟨7, [(0x240002, 5)], [], [], false⟩ ∧
    (∀ n, n < 8 → vget ready.commits.updates none n = none) ∧ ready.modules = [] ∧
    { on with scan := { on.scan with swapped := true } }.scan.swapped = true ∧ on.scan.teOut = false ∧ on.scan.windowClosed = false ∧ on.scan.admissionPassed = false := by decide +kernel

/-- A state in a scan: `maps` is used in the last scan of a lit round and of a listening round; a notice of a pixel fault on Q6. -/
def atScan (n : Nat) (s : State) : State := { s with scan := { s.scan with scanCount := n + 1 } }
def covered (n : Nat) : State := { atScan 63 maps with lamp := { maps.lamp with covDone := n } }
def notice : List Byte := bytesLE 2 0x0601 ++ bytesLE 6 0 ++ bytesLE 3 77 ++ bytesLE 1 15 ++ bytesLE 20 0
def noticed : State := qPut maps 6 notice

theorem witness_LampRounds : { on with lamp := { on.lamp with disarmed := 1 } }.lamp.disarmed = 1 ∧ probeP maps = 16 ∧
    scanN (atScan 1023 maps) % (64 * 16) = 64 * 16 - 1 ∧ maps.scan.running = true ∧ maps.lamp.enabled = true ∧ scanN (atScan 63 maps) % (4 * 16) = 4 * 16 - 1 ∧
    (faultMap (atScan 63 maps)).isSome = true ∧ maps.store.poison = [] ∧
    (atScan 0 maps).lamp.covDone ≤ Nat.min 8192 ((scanN (atScan 0 maps) % 64 + 1) * 128) ∧ 2 * Nat.min 8192 ((scanN (atScan 0 maps) % 64 + 1) * 128) ≤ tokensLeft maps 5 ∧
    (covered 8064).lamp.covDone < 8192 ∧ Nat.min 8192 ((scanN (covered 8064) % 64 + 1) * 128) = 8192 ∧ 2 * (8192 - 8064) ≤ tokensLeft (covered 8064) 5 ∧
    firmwareRuns noticed 3 = true ∧ (qTake noticed 6).1 = some notice ∧ noticed.lamp.noticeBuf = [] ∧ field notice 0 2 = 0x0601 ∧ field notice 11 1 < 16 ∧
    noticed.reg Reg.diagNoticeLost = noticed.lamp.lostSeen ∧ noticed.mram.ledger.faults.lookup 0 = none := by decide

theorem witness_LampRounds_map : ∀ c, faultMap (atScan 63 maps) = some c → ∀ a b, a < 524288 → b < 524288 → c.addr a = c.addr b → a = b := by
  intro c hc a b ha hb h
  have hr : (faultMap (atScan 63 maps)).map Channel.runs = some [(4288, 128)] := by decide
  rw [hc] at hr
  have hr : c.runs = [(4288, 128)] := by simpa using hr
  unfold Channel.addr at h
  rw [hr] at h
  simp only [runPage] at h
  rw [if_pos (by omega), if_pos (by omega)] at h
  omega

/-- The evidence word of a pixel or sink set. -/
def suspect (sink : Bool) (u w : Nat) : State := match evidenceMap maps with
  | some c => storeBytes maps (c.addr (evOffset sink u)) (bytesLE 2 w)
  | none => maps

/-- A first failure, a passing fourth result, the third failure of a pixel and the second of a sink; the default counts of R148. -/
theorem witness_LampRounds_samples : SampleCounts maps ⟨false, 1048575, [8, 9], 8, 2⟩ 8 1 1 false ∧ SampleCounts (suspect false 7 0x8130) ⟨false, 7, [8, 9], 0, 2⟩ 8 1 4 false ∧
    SampleCounts (suspect false 7 0x8220) ⟨false, 7, [8, 9], 8, 2⟩ 8 3 3 false ∧ SampleCounts (suspect true 65535 0xD110) ⟨true, 65535, [13], 13, 2⟩ 13 2 2 false ∧
    maps.reg (Reg.diagConfirm (confirmIndex 8 false)) = 3 * 16 + 4 ∧ maps.reg (Reg.diagConfirm (confirmIndex 13 false)) = 2 * 16 + 2 ∧ 2 ≤ tokensLeft maps 5 ∧
    (suspect false 7 0x8220).store.poison = [] ∧ 2 ≤ tokensLeft (suspect false 7 0x8220) 5 ∧ (evidenceMap (suspect false 7 0x8220)).isSome = true ∧ (faultMap (suspect false 7 0x8220)).isSome = true := by
  refine ⟨.inl ?_, .inr (.inl ?_), .inr (.inl ?_), .inr (.inl ?_), ?_⟩ <;> decide

theorem witness_LampRounds_apart : ∀ c e, faultMap maps = some c → evidenceMap maps = some e → MapsApart maps c e := by
  intro c e hc he
  have h1 : (faultMap maps).map Channel.runs = some [(4288, 128)] := by decide
  have h2 : (evidenceMap maps).map Channel.runs = some [(4416, 544)] := by decide
  rw [hc] at h1
  rw [he] at h2
  have h1 : c.runs = [(4288, 128)] := by simpa using h1
  have h2 : e.runs = [(4416, 544)] := by simpa using h2
  have hq : ∀ q, q < 16 → 0 < qEntries maps q ∧ qEntries maps q ≤ 2048 := by decide
  have hb : queueBase = 15466496 := rfl
  have a1 : ∀ a, a < 524288 → c.addr a = 4288 * 4096 + a := by
    intro a h
    unfold Channel.addr
    rw [h1]
    simp only [runPage]
    rw [if_pos (by omega)]
    omega
  have a2 : ∀ a, a < 2228224 → e.addr a = 4416 * 4096 + a := by
    intro a h
    unfold Channel.addr
    rw [h2]
    simp only [runPage]
    rw [if_pos (by omega)]
    omega
  refine ⟨fun a b ha hb' h => ?_, fun a b ha hb' => ?_, fun a ha => ?_, fun a ha => ?_, hq⟩
  · rw [a1 a ha, a1 b hb'] at h; omega
  · rw [a1 a ha, a2 b hb']; omega
  · rw [a1 a ha, hb]; omega
  · rw [a2 a ha, hb]; omega

/-- Tile 0 to compose; its composed tile and its mirror tile sound, to drive; its drive tile sound, to load; a writeback to a BLOB. -/
def composing : State := { fw with pipe := { fw.pipe with composeDirty := 1 } }
def checked (s : State) (r : TileRef) : State := storeBytes s (r.side + 4 * r.slot) (bytesLE 4 (crc32c (tileData s r)))
def driving : State := let s := checked (checked fw (.composed 0 0)) (.mirror 0); { s with cal := { s.cal with mirrorReady := true }, pipe := { s.pipe with driveDirty := 1 } }
def loading : State := let s := checked fw (.drive 0 0); { s with pipe := { s.pipe with loadDirty := 1 } }
def writing : State := match placeChannel fw (bytesLE 1 2 ++ bytesLE 7 0 ++ bytesLE 4 4096) 0 none with
  | (_, some c, s) => { s with pipe := { s.pipe with writeback := some (c.handle, 0, 9), wbPaid := 60000 } }
  | (_, none, s) => s

theorem witness_PipelineTiles_compose : domainOn composing 3 = true ∧ composing.pipe.composeDirty.getLsbD 0 = true ∧ drawn composing (frameCfg composing) = [] ∧
    glazeSpan composing (frameCfg composing) = 0 ∧ composing.tolls.part = [] ∧ 8 ≤ tokensLeft composing 1 := by decide

/-- The surface drawn by layer 0, its first tile sound, and tile 0 to compose. -/
def layered : State :=
  let p := placed (surfaceOf 64)
  let s := set (Reg.layerVisible 0) 1 (set (Reg.layerHandle 0) p.1 p.2)
  let t := match s.channel p.1 with | some c => checked s (.surface c 0 0) | none => s
  { t with pipe := { t.pipe with composeDirty := 1 } }

theorem witness_PipelineTiles_layers : domainOn layered 3 = true ∧ layered.tolls.part = [] ∧ layered.pipe.composeDirty.getLsbD 0 = true ∧ glazeSpan layered (frameCfg layered) = 0 ∧
    (drawn layered (frameCfg layered)).length = 1 ∧ (sourceTiles layered (layered.reg Reg.compOrientation) (drawn layered (frameCfg layered)) 0).length = 1 ∧
    sourceTokens (sourceTiles layered (layered.reg Reg.compOrientation) (drawn layered (frameCfg layered)) 0) + 8 ≤ tokensLeft layered 1 := by decide +kernel

theorem witness_PipelineTiles_sources : (sourceTiles layered (layered.reg Reg.compOrientation) (drawn layered (frameCfg layered)) 0).all
    (fun q => tileSound layered (.surface q.2.1 q.2.2 (shownSlot layered q.2.1 q.2.2))) = true := by decide +kernel

/-- The residuals of a reset are 1, and no sink is twinned. -/
theorem witness_PipelineTiles_words : twinSinks driving = [] ∧ (1 / 2 : Rat) ≤ nearest 15 (vget driving.refs.rhoNext 1 31) ∧ nearest 15 (vget driving.refs.rhoNext 1 31) ≤ 3 / 2 := by decide +kernel

theorem witness_PipelineTiles_drive : driving.tolls.part = [] ∧ loading.tolls.part = [] ∧ domainOn driving 3 = true ∧ domainOn driving 4 = true ∧ driving.cal.mirrorReady = true ∧ driving.pipe.driveDirty.getLsbD 0 = true ∧
    driving.pipe.composeDirty.getLsbD 0 = false ∧ 34 ≤ tokensLeft driving 3 ∧ driving.store.poison = [] ∧ 0 < qEntries driving 5 ∧ qEntries driving 5 ≤ 2048 := by decide

theorem witness_PipelineTiles_load : domainOn loading 3 = true ∧ domainOn loading 4 = true ∧ loadableTile loading 0 = true ∧ allSwapped loading = true ∧ loading.pipe.loadDirty.getLsbD 0 = true ∧
    loading.pipe.driveDirty.getLsbD 0 = false ∧ loading.pipe.composeDirty.getLsbD 0 = false ∧ loading.lantern.state = 0 ∧ 8 ≤ tokensLeft loading 4 := by decide

theorem witness_PipelineTiles_writeback : domainOn writing 3 = true ∧
    (match writing.pipe.writeback with | some (h, _, _) => (writing.channel h).isSome | none => false) = true ∧
    65536 ≤ writing.pipe.wbPaid + tokensLeft writing 7 := by decide

theorem witness_PipelineTiles_sound : tileSound driving (composedNow driving 0) = true := by decide +kernel

theorem witness_PipelineTiles_loaded : tileSound loading (driveNow loading 0) = true := by decide +kernel

theorem witness_PipelineTiles_mirror : tileSound driving (.mirror 0) = true := by decide +kernel

theorem witness_PipelineTiles_ring : ringTiles driving 0 = [] := by decide +kernel

/-! ### What the statements about commits, lanes, channels and services assume -/

/-- Staged values: a good one, and a probe interval that no rule admits; within the window and after it. -/
def staging (key v : Nat) : State := { fw with kdp := { fw.kdp with staged := [⟨key, v, 0⟩] } }
def lateStaging : State := { staging 0x240002 5 with scan := { fw.scan with windowClosed := true } }

theorem witness_CommitRequests : (requestCommit (staging 0x230002 5) 7 []).1.reason ≠ 0 ∧
    (requestCommit (staging 0x240002 5) 7 []).1.reason = 0 ∧ isLate (staging 0x240002 5) = false ∧
    (requestCommit lateStaging 7 []).1.reason = 0 ∧ isLate lateStaging = true := by decide

theorem witness_CommitRequests_host : NextRequest hdr host ∧ HoldsKey hdr host ∧ bootedSlot host ≠ none ∧ MayWrite .firmware false fw :=
  ⟨hostNext, hostKey, hostBooted, firmwareMayWrite _⟩

/-- Lane 3 in a state, and a link in a state. -/
def lane3 (f : Lane → Lane) (s : State) : State := setLane s 3 (f State.laneReset)
def link (f : Lanes → Lanes) : State := { fw with lanes := f fw.lanes }

/-- A sound TS-B of link 4. -/
def tsB : TrainSeq := let t : TrainSeq := ⟨true, 3, 4, 0, 3, 60, 0, 0, 0, 0, false⟩; { t with tchk := crc8 (trainBody t) }
/-- A link whose first lane has identity for link `n`. -/
def identified (n : Nat) : State := link (fun l => { l with firstIdentity := some 9, linkId := n })

theorem witness_LaneTraining :
    (laneAt (lane3 (fun x => { x with state := 1 }) fw) 3).state = 1 ∧ (laneAt (lane3 (fun x => { x with state := 1 }) fw) 3).bitLock = false ∧ bits fw.cal.termDropped 7 6 ≠ 3 ∧
    tsB.rung = State.laneReset.rung ∧ crc8 (trainBody tsB) = tsB.tchk ∧ (bitAt tsB.flags 0 && bitAt tsB.flags 1) = true ∧ tsB.b = true ∧ tsB.inverted = State.laneReset.inverted ∧
    3 ≤ (laneAt (lane3 (fun x => { x with state := 1, bitLock := true, tsSeen := 3 }) fw) 3).tsSeen ∧
    (laneAt (lane3 (fun x => { x with state := 3, tsSeen := 7, tsbSent := 15 }) (identified 4)) 3).tsbSent = 15 ∧ tsB.link = (identified 4).lanes.linkId ∧ tsB.link ≠ (identified 5).lanes.linkId ∧
    (identified 4).lanes.firstIdentity = some 9 ∧ State.laneReset.emiMin ≤ Nat.min (Nat.min 48 60) 255 ∧ fw.lanes.linkState ≠ 2 ∧ fw.lanes.waited = false ∧ fw.lanes.rate = 0xFF ∧
    fw.lanes.minLanes ≤ ((List.range 4).filter (fun j => (laneAt (lane3 (fun x => { x with state := 4 }) fw) j).state == 4 || (laneAt (lane3 (fun x => { x with state := 4 }) fw) j).state == 5)).length ∧
    domainOn fw 2 = true ∧ fw.lanes.absent = false ∧ fw.lanes.locked = false := by decide

/-- A link packet of 4 bytes in order, and control packets. -/
def packet (lseq sseq : Nat) : List Byte :=
  let b := bytesLE 2 lseq ++ bytesLE 2 sseq ++ bytesLE 2 4 ++ bytesLE 2 0 ++ bytesLE 4 0xABCD
  b ++ bytesLE 4 (crc32c b)
/-- The link up on lane 3 with one unacknowledged packet. -/
def linkUp : State := lane3 (fun x => { x with state := 5, commaLock := true, lcntRx := some 255, rxLseq := 4095, retry := [⟨17, packet 17 3, 3, 100⟩], emiLow := some 5 })
  (setLane (link (fun l => { l with linkState := 2, rxSseq := 65535 })) 0 { State.laneReset with state := 5 })
/-- Lane 3 rejoining with enough TS-B, its transmitter in the stripe or not. -/
def rejoining (sent : Bool) : State := lane3 (fun x => { x with state := 4, commaLock := true, rejoining := true, tsSeen := 8, tsbSent := 16, txJoined := sent }) linkUp

theorem witness_LaneTraffic :
    (List.range 4).filter (fun j => (laneAt linkUp j).commaLock) = [3] ∧ (∀ j, j < 4 → joins linkUp j = false) ∧ (laneAt linkUp 3).lcntRx = some 255 ∧ 256 % 256 = (255 + 1) % 256 ∧ 7 % 256 ≠ (255 + 1) % 256 ∧
    (0 : Int) < (laneAt linkUp 3).elastic + 7 ∧ ((laneAt linkUp 3).elastic : Int) + 7 < 16 ∧ (laneAt linkUp 3).errAt.length < 8 ∧ (laneAt linkUp 3).state = 5 ∧ linkUp.lanes.linkState = 2 ∧
    packetSound linkUp (packet 4095 65535) = true ∧ field (packet 4095 65535) 0 2 % 4096 = (laneAt linkUp 3).rxLseq ∧ field (packet 4095 65535) 2 2 = linkUp.lanes.rxSseq ∧
    linkUp.lanes.ahead = [] ∧ linkUp.lanes.delivered = [] ∧ field (packet 4095 65535) 6 1 % 8 = 0 ∧ packetSound linkUp (packet 4095 511) = false ∧ (laneAt linkUp 3).nakSent = false ∧
    linkUp.lanes.txWait = [] ∧ linkUp.lanes.resend = [] ∧ (transOf linkUp 3).txHeld = [] ∧ controlOk 1 (controlPacket 1 0 3 17) = true ∧ controlOk 2 (controlPacket 2 0 3 17) = true ∧
    field (controlPacket 1 0 3 17) 1 1 % 4 = 3 ∧ (laneAt linkUp 3).retry.findIdx? (fun r => r.lseq == field (controlPacket 1 0 3 17) 2 2 % 4096) = some 0 ∧
    controlOk 3 (controlPacket 3 1 0 65535) = true ∧ (laneAt linkUp 3).retry.all (fun r => decide (r.resent < 4)) = true ∧
    (laneAt (lane3 (fun x => { x with state := 5, retry := [⟨17, packet 17 3, 4, 100⟩] }) linkUp) 3).retry.any (fun r => decide (4 ≤ r.resent)) = true ∧
    (laneAt linkUp 3).emiLow ≠ none ∧ controlOk 4 (controlPacket 4 0 0 9) = true ∧ field (controlPacket 4 0 0 9) 1 1 % 4 = 0 ∧ (laneAt linkUp 0).state = 5 ∧
    (∀ b, (laneAt (rejoining b) 3).commaLock = true ∧ (laneAt (rejoining b) 3).state = 4 ∧ (laneAt (rejoining b) 3).rejoining = true ∧ (laneAt (rejoining b) 3).txJoined = b ∧
      (laneAt (rejoining b) 3).rxJoined = false ∧ 8 ≤ (laneAt (rejoining b) 3).tsSeen ∧ 16 ≤ (laneAt (rejoining b) 3).tsbSent ∧ (rejoining b).lanes.linkState = 2) := by decide

/-- An M1 surface of 64 by 32 pixels in the first slot with the link up, and a region of 8 by 1 pixels for it. -/
def surface : State := match placeChannel linkUp (surfaceOf 64) 0 none with
  | (_, _, s) => s
def handleOf (s : State) : Nat := match s.chans.live with | c :: _ => c.handle | [] => 0
def regionOf (x : Nat) : List Byte :=
  transaction 1 1 49 (bytesLE 4 (handleOf surface) ++ bytesLE 2 x ++ bytesLE 2 31 ++ bytesLE 2 8 ++ bytesLE 2 1 ++ bytesLE 4 0 ++ bytesLE 4 255)
def closing : List Byte := transaction 2 0 50 (bytesLE 4 (handleOf surface) ++ bytesLE 1 255 ++ bytesLE 1 0 ++ bytesLE 2 65535)
def committing : List Byte := transaction 3 0 51 (bytesLE 4 (handleOf surface) ++ bytesLE 1 255 ++ bytesLE 1 9 ++ bytesLE 2 0)
def readback : List Byte := transaction 5 0 52 (bytesLE 4 (handleOf surface) ++ bytesLE 4 7 ++ bytesLE 4 1)
def staged : State := { surface with chans := { surface.chans with staging := [⟨regionOf 56, 1, 0, none⟩] } }
/-- A packet that has its turn; a BLOB of 4,096 bytes with the link up and a readback of it. -/
def turn (ctl : Bool) (p : List Byte) (s : State) : State := { s with lanes := { s.lanes with delivered := [⟨ctl, 1, p, none⟩] } }
def blobUp : State := match placeChannel linkUp (bytesLE 1 4 ++ bytesLE 7 0 ++ bytesLE 4 4096) 0 none with
  | (_, _, s) => s
def blobRead : List Byte := transaction 5 0 52 (bytesLE 4 (handleOf blobUp) ++ bytesLE 4 4092 ++ bytesLE 4 4)

theorem witness_LanePackets_turn : linkServes (turn false (regionOf 56) surface) = true ∧ (turn false (regionOf 56) surface).lanes.delivered = [⟨false, 1, regionOf 56, none⟩] ∧
    (turn false (regionOf 56) surface).chans.staging = [] ∧ surface.lanes.delivered = [] ∧ surface.lanes.readJob = none ∧
    [regionOf 56, closing, committing, readback, blobRead].all (fun p => !packetUnknown false p && tcrcOk p) = true ∧ tcrcOk ((regionOf 56).set 20 1) = false ∧ field ((regionOf 56).set 20 1) 0 1 = 1 := by decide +kernel

/-- Packets whose handle names no channel, a commit alone, and a region for the BLOB. -/
def stale (type : Nat) : List Byte := transaction type 0 54 (bytesLE 4 0x01000007 ++ List.replicate 1 1 ++ List.replicate (if type = 1 then 15 else if type = 5 then 7 else 3) 0)
def commitAlone : List Byte := transaction 3 0 55 (bytesLE 4 0x01000007 ++ bytesLE 1 0 ++ bytesLE 1 9 ++ bytesLE 2 0)
def blobRegion : List Byte := transaction 1 0 56 (bytesLE 4 (handleOf blobUp) ++ bytesLE 8 0x0001000800000000 ++ bytesLE 4 0 ++ bytesLE 4 255)

theorem witness_LanePackets_refused : (turn false (stale 5) surface).usable (field (stale 5) 8 4) = none ∧ linkServes (turn false (stale 5) surface) = true ∧ (turn false (stale 5) surface).lanes.delivered = [⟨false, 1, stale 5, none⟩] ∧
    ([1, 2, 3, 5].all (fun n => !packetUnknown false (stale n) && tcrcOk (stale n) && field (stale n) 0 1 == n)) = true ∧ field (stale 3) 12 1 ≠ 0 ∧
    packetUnknown false commitAlone = false ∧ tcrcOk commitAlone = true ∧ field commitAlone 0 1 = 3 ∧ field commitAlone 12 1 = 0 ∧
    packetUnknown false blobRegion = false ∧ tcrcOk blobRegion = true ∧ field blobRegion 0 1 = 1 ∧ linkServes (turn false blobRegion blobUp) = true ∧
    (match (turn false blobRegion blobUp).usable (field blobRegion 8 4) with | some c => decide (c.type ≠ 1) | none => false) = true := by decide +kernel

theorem witness_LanePackets :
    (match (turn false (regionOf 56) surface).usable (field (regionOf 56) 8 4) with
      | some c => decide (regionRefusal surface c (regionOf 56) = none) && decide (regionRefusal surface c (regionOf 64) = some (6, 0)) && decide (c.type = 1) && (openSet surface c.slot 255).isNone && !ninthSet surface c.slot 255 &&
          decide (readbackRefusal c (field readback 12 4) (field readback 16 4) = none) && (readTiles c [] (span 7 1) [] (spend surface 0 2)).1.isNone && decide (1 * (ceilDiv c.tileBytes 64 + 1) ≤ tokensLeft surface 0) &&
          !c.destroyed && (regionTiles c (regionFields (regionOf 56))).all (fun i => !tileWaits staged c i) && decide (regionTokens c (regionFields (regionOf 56)) - 0 ≤ tokensLeft staged 0)
      | none => false) = true ∧
    field closing 8 4 = handleOf surface ∧ field closing 12 1 = 255 ∧ field closing 14 2 = 65535 ∧ bitAt (field closing 1 1) 0 = false ∧
    field committing 8 4 = handleOf surface ∧ field committing 12 1 = 255 ∧ domainOn surface 3 = true ∧
    (match blobUp.usable (field blobRead 8 4) with
      | some c => decide (c.type = 4) && decide (readbackRefusal c 4092 4 = none) && decide (ceilDiv 4 64 ≤ tokensLeft blobUp 0)
      | none => false) = true ∧ blobUp.store.poison = [] ∧
    staged.lanes.delivered = [] ∧ staged.chans.staging = [⟨regionOf 56, 1, 0, none⟩] ∧ (staged.channel (regionFields (regionOf 56)).handle).isSome = true ∧ qFull staged 9 = false ∧ qCount staged 9 < 2048 := by decide +kernel

/-- A KDP packet that holds a HEARTBEAT request. -/
def kdpRequest : List Byte := transaction 4 0 53 (hostFrame surface ⟨3, 0, 7, 7, 0, 0, [], []⟩)

theorem witness_LanePackets_kdp : (transOf surface 2).rxHeld = [] ∧ linkServes (turn true kdpRequest surface) = true ∧ (turn true kdpRequest surface).lanes.delivered = [⟨true, 1, kdpRequest, none⟩] ∧ packetUnknown true kdpRequest = false ∧
    field kdpRequest 0 1 = 4 ∧ tcrcOk kdpRequest = true ∧ qFull surface 0 = false ∧ freeBuffer surface 3 = some 0 := by decide +kernel

/-- A channel that waits to be freed; a row under repair; a rectangle of one tile whose check word is to be compared, as expected and not; a light check. -/
def freeing : State := { surface with chans := { surface.chans with live := surface.chans.live.map (fun c => { c with destroyed := true, waiting := true }) } }
def repairing : State := { fw with store := { fw.store with repairing := [24575] } }
def rectangle (expected : Nat) : State :=
  let s := set (Reg.rectTilesW 15) 1 (set (Reg.rectTilesH 15) 1 (set (Reg.rectExpected 15) expected fw))
  { s with lamp := { s.lamp with rectDue := 32768 } }
def light (bad : List Nat) : State := { fw with lamp := { fw.lamp with lightDue := [(15, [0])], conducted := bad, lightGroups := 0 } }

theorem witness_StoreUpkeep : (match freeing.chans.live.find? (fun c => c.slot == 0) with | some c => c.waiting && !referenced freeing c.handle && !landing freeing c.handle | none => false) = true ∧
    repairing.store.repairing.contains 24575 = true ∧ repairing.tolls.part = [] ∧ domainOn (rectangle 0) 3 = true ∧ (rectangle 0).tolls.part = [] ∧ domainOn repairing 3 = true ∧ sparesUsed repairing (rowBank 24575) < 32 ∧ 64 ≤ tokensLeft repairing 6 ∧
    bitAt (rectangle 0).lamp.rectDue 15 = true ∧ ceilDiv ((rectangle 0).reg (Reg.rectTilesW 15) * (rectangle 0).reg (Reg.rectTilesH 15)) 4 ≤ tokensLeft (rectangle 0) 6 ∧ (rectangle 0).lamp.learn = [] ∧
    rectValue (rectangle (rectValue (rectangle 0) 15)) 15 = (rectangle (rectValue (rectangle 0) 15)).reg (Reg.rectExpected 15) ∧ rectValue (rectangle 1) 15 ≠ (rectangle 1).reg (Reg.rectExpected 15) ∧
    (light []).lamp.lightDue.lookup 15 = some [0] ∧ lightSampled (light []) = true ∧ (light []).lamp.lightBad = false ∧
    (light []).lamp.conducted.filter (fun p => [0].contains (pixelTile p)) = [] ∧ (light [0]).lamp.conducted.filter (fun p => [0].contains (pixelTile p)) ≠ [] := by decide

/-- The host's session with a transfer under way, and with another state of its own. -/
def inTransfer (x : Transfer) : State := setSess host 1 { sessOf host 1 with transfer := some x }
def reading : Transfer := ⟨false, false, 0x103001, 8, [1, 2, 3, 4, 5, 6, 7, 8], 4, some 0⟩
def segment8 : Transfer := ⟨true, false, 0x240002, 8, [1, 2, 3, 4], 4, none⟩

theorem nextIn (x : Transfer) : NextSegment hdr x (inTransfer x) := ⟨rfl, by unfold NextRequest; exact ⟨by rfl, by decide, by decide, rfl, rfl, by rfl, rfl, by rfl, rfl⟩⟩

theorem witness_ReadServices : NextRequest hdr host ∧ (∃ r, rowFor host (entryKey ⟨0x2400, 2⟩) = some r ∧ r.access = .rc ∧ (entryValue (served host 1) 1 r 0x240002).length ≤ frameLimit 2 ∧ r.size ≤ frameLimit 2) ∧
    entryKey ⟨0x2400, 2⟩ = 0x240002 ∧ 0x240002 ≠ Reg.unlockChallenge ∧ 0x240002 ≠ Reg.adcInjState ∧ entryKey ⟨0, 0⟩ = 0 ∧
    stagedValue host 0x240002 = none ∧ stagedValue { host with kdp := { host.kdp with staged := [⟨0x240002, 9, 1⟩] } } 0x240002 = some 9 ∧
    NextSegment hdr reading (inTransfer reading) ∧ reading.write = false ∧ reading.next = 4 ∧ reading.prev = some 0 :=
  ⟨hostNext, ⟨_, rfl, rfl, by decide, by decide⟩, by decide, by decide, by decide, by decide, by decide, by decide, nextIn _, rfl, rfl, rfl⟩

theorem witness_WriteServices : NextRequest hdr host ∧ HoldsKey hdr host ∧ bootedSlot host ≠ none ∧
    (match rowFor host 0x240002, dictRow 0x240002, rowFor host 0x230006, dictRow 0x230006 with
      | some a, some b, some c, some d =>
        decide (a = b) && decide (a.size = 2) && decide (a.type ≠ .variable) && decide (a.access = .rc) && !needsService host 0x240002 (some [0, 64]) && !needsService host 0x240002 none &&
        decide (c = d) && decide (c.size = 1) && decide (c.type ≠ .variable) && decide (c.type ≠ .handle) && decide (c.access = .rw) && c.inRange 0x230006 1 && crossRange host 0x230006 1 &&
        !needsService host 0x230006 (some [1]) && !needsService host 0x230006 none && !writeRefused host 1 c 0x230006 1
      | _, _, _, _ => false) = true ∧ HeldOnly 0x230006 ∧ host.reg Reg.beamMode ≠ 1 ∧ host.modules = [] ∧
    NextSegment hdr segment8 (inTransfer segment8) ∧ segment8.write = true ∧ segment8.key ≠ Reg.calImport ∧ segment8.next = 4 ∧ 4 + 4 ≤ frameLimit 2 ∧ segment8.next + 4 = segment8.total ∧
    segment8.key ≠ Reg.engImageWrite :=
  ⟨hostNext, hostKey, hostBooted, by decide, by unfold HeldOnly; decide, by decide, rfl, nextIn _, by decide⟩

/-- The last segment of a staged write of a 2-byte entry is taken. -/
theorem witness_WriteServices_last : let h : Hdr := hdr; let x : Transfer := ⟨true, true, 0x240002, 2, [1], 1, none⟩; let s := inTransfer x
    NextSegment h x s ∧ ∃ m, writeEntry (inSession h (fun y => { y with transfer := none }) (served s 1)) 1 x.staged x.key (x.data ++ [2]) (bytesLE 1 5 ++ bytesLE 1 h.seq.toNat ++ bytesLE 3 0 ++ bytesLE 1 h.transport ++ bytesLE 1 1 ++ bytesLE 4 2) = (0, [], m) ∧
      m.kdp.saving = none ∧ m.cal.imp.state = s.cal.imp.state ∧ openFills m ≤ openFills s :=
  ⟨nextIn _, _, rfl, rfl, rfl, by decide⟩

/-- Session 1 closed; the key free, held by session 8. -/
def noSession : State := { fw with kdp := { fw.kdp with keyholder := 0 } }
def keyOf (n : Nat) : State := { host with kdp := { host.kdp with keyholder := n } }

theorem nextKey (n : Nat) : NextRequest hdr (keyOf n) := by unfold NextRequest; exact ⟨by rfl, by decide, by decide, rfl, rfl, by rfl, rfl, by rfl, rfl⟩

theorem witness_SessionsAndKey : serves noSession 2 = true ∧ qNext noSession (rxQueue 2) = none ∧ noSession.kdp.saving = none ∧ (sessOf noSession 1).isOpen = false ∧ (∀ j, j < 0 → (sessOf noSession (j + 1)).isOpen = true) ∧
    (0 : Byte).toNat % 64 = 0 ∧ (64 : Byte).toNat % 64 = 0 ∧ NextRequest hdr (keyOf 0) ∧ NextRequest hdr (keyOf 8) ∧ ((keyOf 8).kdp.keyholder ≠ 0 ∧ (keyOf 8).kdp.keyholder ≠ hdr.session.toNat) ∧
    (sessOf (keyOf 8) 1).service = true ∧ (keyOf 1).kdp.keyholder = hdr.session.toNat ∧ (sessOf host 1).isOpen = true ∧ serves host (sessOf host 1).transport = true :=
  ⟨by decide, by decide, rfl, rfl, fun j h => by omega, by decide, by decide, nextKey 0, nextKey 8, by decide, rfl, by decide, rfl, by decide⟩

/-- A service key stands, and the session has read a challenge; failures so far. -/
def challenged (fails : Nat) : State :=
  let s := set Reg.unlockFailCount fails (setSess host 1 { sessOf host 1 with challenge := some ([1, 2], 5000000) })
  { s with mram := { s.mram with serviceKey := some (List.replicate 32 7) } }

theorem nextChallenged (n : Nat) : NextRequest hdr (challenged n) := by unfold NextRequest; exact ⟨by rfl, by decide, by decide, rfl, rfl, by rfl, rfl, by rfl, rfl⟩

theorem witness_UnlockAndSave : NextRequest hdr (challenged 2) ∧ unlockState (challenged 2) = 1 ∧ HoldsKey hdr (challenged 2) ∧ bootedSlot (challenged 2) ≠ none ∧ (challenged 2).kdp.blocked = false ∧
    (sessOf (challenged 2) 1).challenge = some ([1, 2], 5000000) ∧ (challenged 2).mram.serviceKey = some (List.replicate 32 7) ∧ (challenged 2).now ≤ 5000000 + 10000000000 ∧
    (hmacSha256 (List.replicate 32 7) (unlockMessage (challenged 1) 1 [1, 2])).length = 32 ∧ hmacSha256 (List.replicate 32 7) (unlockMessage (challenged 1) 1 [1, 2]) ≠ List.replicate 32 0 ∧
    (challenged 2).reg Reg.unlockFailCount = 2 ∧ (challenged 1).reg Reg.unlockFailCount < 2 ∧ host.mram.serviceKey = none ∧ (sessOf host 1).service = true ∧
    { host with kdp := { host.kdp with blocked := true } }.kdp.blocked = true ∧ MayWrite .firmware false fw ∧ fw.kdp.saving = none ∧
    { fw with kdp := { fw.kdp with saving := some (0, [], [(5, 6)]) } }.kdp.saving = some (0, [], [(5, 6)]) :=
  ⟨nextChallenged 2, by decide, by unfold HoldsKey; decide, by decide, rfl, rfl, rfl, by decide, by decide +kernel, by decide +kernel, by decide, by decide, rfl, rfl, rfl, firmwareMayWrite _, rfl, rfl⟩

/-- A heartbeat request as a transport carries it. -/
def beat (t : Nat) : List Byte := hostFrame fw ⟨t, 0, 7, 7, 0, 0, [], []⟩
def canUp (k : CanCtl → CanCtl) : State := setCan fw 1 (k (canOf fw 1))

theorem witness_Transports : domainOn fw 1 = true ∧ fw.power.vio = true ∧ (canOf fw 1).mode ≠ 2 ∧ (canOf fw 1).busOff = false ∧ (canOf fw 1).ext = false ∧ (canOf fw 1).reqId = 0x5A4 ∧
    freeBuffer fw 1 = some 0 ∧ (beat 2).length ≤ 2048 ∧ freeBuffer fw 2 = some 0 ∧ (transOf fw 2).txHeld = [] ∧
    (transOf (setTrans fw 2 { transOf fw 2 with tx := [[1, 2, 3]] }) 2).tx = [[1, 2, 3]] ∧ 3 + 2 ≤ 5 ∧ ¬ 3 + 2 ≤ 4 ∧
    (canOf (canUp (fun k => { k with changePending := true })) 1).changePending = true ∧ (canOf fw 1).mode = 0 ∧
    (canOf (canUp (fun k => { k with busOff := true })) 1).busOff = true ∧ fw.reg (Reg.canBusoffHold 1) = 0 ∧ (transOf fw 1).tx = [] ∧ (transOf fw 1).txHeld = [] := by decide

/-- BOOT with CTL ON, every engine idle and no pair asked for. -/
def booting : State := set Reg.engPairMode 0 (dev 2)

theorem witness_EngineStart : NextRequest hdr host ∧ HoldsKey hdr host ∧ (sessOf host 1).service = true ∧ bootedSlot host ≠ none ∧
    booting.power.device = 2 ∧ domainOn booting 1 = true ∧ (domainOf booting 1).queued = false ∧ (∀ e, e < 9 → (engOf booting e).run = .idle) ∧ booting.reg Reg.engPairMode = 0 ∧ bootSlot booting = none :=
  ⟨hostNext, hostKey, rfl, hostBooted, rfl, by decide, by decide, by decide, by decide, by decide⟩

/-! ### What the statements about temperatures, converters and calibration assume -/

/-- Every sensor at 25 °C in band 1, sensor 31 with readings that deviated so far. -/
def warm (count : Nat) : State := { on with therm := { on.therm with deviating := vset on.therm.deviating 31 count } }

theorem witness_FieldTemperatures : domainOn (warm 7) 7 = true ∧ (warm 7).scan.running = true ∧ (warm 7).therm.seen = BitVec.allOnes 32 ∧ (warm 7).therm.banded = BitVec.allOnes 32 ∧
    (warm 7).therm.votedOut = 0 ∧ (warm 7).events.gathering = none ∧ (224 - 200 : Int).natAbs ≤ 24 ∧ elementDropped (warm 7) 31 0 = false ∧ elementDropped (warm 7) 31 1 = false ∧ (warm 7).therm.picked.getLsbD 31 = false ∧
    nextBand (bandOf (warm 0) 31) (200 / 8) = bandOf (warm 0) 31 ∧ deviates (warm 0) (200 / 8) (meanField (warm 0) 31) = false ∧
    nextBand (bandOf (warm 0) 31) (1600 / 8) ≠ bandOf (warm 0) 31 ∧ deviates (warm 7) (1600 / 8) (meanField (warm 7) 31) = true ∧ vget (warm 7).therm.deviating 0 31 + 1 = 8 ∧
    (warm 7).therm.holdEnd = none ∧ { on with therm := { on.therm with holdEnd := some 9 } }.therm.holdEnd = some 9 := by decide +kernel

/-- Protection sensor 3 with one vote held beside it, differences counted so far. -/
def protected3 (pair field : Nat) : State := setProt (setProt on 0 { protOf on 0 with vote := true }) 3 { protOf on 3 with pairDiffers := pair, fieldDiffers := field }

theorem witness_ProtectionVotes : domainOn on 7 = true ∧ voteCount (setProt on 3 { protOf on 3 with vote := true }) < 2 ∧ on.therm.shutdown = false ∧
    2 ≤ voteCount (setProt (protected3 0 0) 3 { protOf (protected3 0 0) 3 with vote := true }) ∧ (protOf on 3).failed = false ∧
    (80 < (200 - 119 : Int).natAbs) ∧ (protOf (protected3 0 0) 3).failed = false ∧ { on with therm := { on.therm with votedOut := BitVec.allOnes 32 } }.therm.votedOut = BitVec.allOnes 32 ∧ (protOf (protected3 4 99) 3).pairDiffers + 1 = 5 ∧ (protOf (protected3 4 99) 3).fieldDiffers + 1 = 100 ∧
    (25 : Rat) < (1600 : Int) / 8 - tempOf on (protField 3) ∧ ¬ (25 : Rat) < (400 : Int) / 8 - tempOf on (protField 3) ∧ ¬ (400 : Rat) / 8 - tempOf on (protField 3) < -25 := by decide +kernel

/-- Group 7 of the user on a timer with one channel of AD2: enabled, with a round under way, with a conversion waiting and running. -/
def timed : State := let s := set (Reg.adcgConverters 7) 4 (set (Reg.adcgTrigger 7) 1 (set (Reg.adcgEnable 7) 1 on)); setAdcGroup s 7 { adcGroup s 7 with due := [5000100] }
def underWay : State := setAdcGroup timed 7 { adcGroup timed 7 with left := 1 }
def pend : Pend := ⟨2, 0, 5, 2⟩
def waitingConv : State := setConv on 3 { convOf on 3 with queue := [pend] }
def runningConv (x : Running) : State := setConv on 3 { convOf on 3 with running := some x, seq := 15 }

/-- A PAIR group on converters 2 and 3, which moves the grid points of AD3. -/
def paired : State := set (Reg.adcgMode 7) 1 (set (Reg.adcgConverters 7) 12 (set (Reg.adcgEnable 7) 1 waitingConv))

theorem witness_Conversions : domainOn timed 7 = true ∧ groupOn timed 7 = true ∧ timed.reg (Reg.adcgTrigger 7) = 1 ∧ (adcGroup timed 7).due = [5000100] ∧ (adcGroup timed 7).left = 0 ∧ (adcGroup underWay 7).left ≠ 0 ∧
    groupOn on 2 = true ∧ (adcGroup on 2).left = 0 ∧ (∀ j, j < 4 → (convOf timed j).slice ≠ none) ∧ (∀ j, j < 4 → (convOf on j).slice ≠ none) ∧
    bitAt ((set Reg.adcInjConfig 7 on).reg Reg.adcInjConfig) 2 = true ∧ (set Reg.adcInjConfig 7 on).adc.injState = 0 ∧ on.adc.handover = false ∧
    waitingConv.adc.lastGrid = none ∧ waitingConv.now = 5000000 ∧ pairEnabled waitingConv = false ∧ pairEnabled paired = true ∧ choosePend paired 3 5000050 = some pend ∧
    (convOf waitingConv 3).running = none ∧ (convOf waitingConv 3).slice.any (fun n => !sliceBusy waitingConv n 5000000) = true ∧ choosePend waitingConv 3 5000000 = some pend ∧ choosePend on 3 5000000 = none ∧
    (convOf (runningConv ⟨8, 23, 3, 3, false, false, 5, none⟩) 3).running = some ⟨8, 23, 3, 3, false, false, 5, none⟩ ∧ (convOf (runningConv ⟨7, 0, 0, 3, false, false, 5, none⟩) 3).running = some ⟨7, 0, 0, 3, false, false, 5, none⟩ ∧
    on.adc.extFault = false ∧ (convOf on 3).invalid = false ∧ { on with adc := { on.adc with injLeft := 1 } }.adc.injLeft = 1 := by decide +kernel

/-- The spare ready, in its shadow with pairs, a sum and a strike so far; its handover with an injected conversion waiting or none; a shadowed conversion. -/
def spareReady : State := { on with adc := { on.adc with spareReady := true, calBegan := none } }
def shadow (pairs : Nat) (sum : Int) (strikes : Nat) : State :=
  setSlice { on with adc := { on.adc with rotating := true, spareReady := true, calBegan := none, pairs := pairs, pairSum := sum, pairWorst := 4, points := 4096 } } 4 { sliceOf on 4 with strikes := strikes }
def handing (queue : List Pend) : State := let s := { shadow 64 64 0 with adc := { (shadow 64 64 0).adc with handover := true } }; setConv s 0 { convOf s 0 with queue := queue }
def shadowed : State := let s := shadow 63 0 0; setConv s 0 { convOf s 0 with running := some ⟨4, 23, 0, 0, false, false, 4999900, some (4, false)⟩ }

theorem witness_SpareSlice : on.adc.spare = some 4 ∧ domainOn on 7 = true ∧ on.events.gathering = none ∧ on.adc.rotating = false ∧ on.adc.spareReady = false ∧ (256 : Int).natAbs ≤ 256 ∧ (sliceOf on 4).halfDropped = 0 ∧
    (∀ k, k < 4 → (convOf on k).invalid = false ∧ (convOf on k).running = none) ∧ (20000 : Int).natAbs ≤ 20000 ∧ 20000 < (-20001 : Int).natAbs ∧
    spareReady.adc.rotating = false ∧ spareReady.adc.spareReady = true ∧ spareReady.adc.calBegan = none ∧ spareReady.adc.spare = some 4 ∧
    (shadow 64 64 0).adc.rotating = true ∧ (shadow 64 64 0).adc.handover = false ∧ ((shadow 64 64 0).adc.pairSum.natAbs ≤ 64 ∧ (shadow 64 64 0).adc.pairWorst ≤ 4) ∧ ¬ (shadow 64 (-65) 0).adc.pairSum.natAbs ≤ 64 ∧
    (sliceOf (shadow 64 (-65) 0) 4).strikes = 0 ∧ (sliceOf (shadow 64 (-65) 1) 4).strikes = 1 ∧ (shadow 63 0 1).adc.pairs < 64 ∧ 4096 ≤ (shadow 63 0 1).adc.points ∧
    (∀ q ∈ ([[], [⟨0, 8, 1, 0⟩]] : List (List Pend)), (handing q).adc.handover = true ∧ (handing q).adc.target = 0 ∧ gridOf (handing q) (handing q).adc.target (nextGrid (handing q)) = true) ∧
    injecting (handing [⟨0, 8, 1, 0⟩]) 0 = true ∧ injecting (handing []) 0 = false ∧ (convOf shadowed 0).running = some ⟨4, 23, 0, 0, false, false, 4999900, some (4, false)⟩ ∧
    (convOf shadowed 0).invalid = false ∧ shadowed.adc.extFault = false ∧ shadowed.adc.pairs < 64 ∧ { on with adc := { on.adc with clampFlag := true } }.adc.clampFlag = true ∧ on.adc.clampPins = 0 := by decide +kernel

/-- A sink of field 31 flagged; a trim code at its bound after a LOW pass; the reference trim at field 31. -/
def flagged : State := { on with lamp := { on.lamp with flagged := [(fieldSink 31 0, 2)] } }
def low (code : Nat) : State := { on with cal := { on.cal with lastResult := [(fieldSink 31 0, 3)], trimNext := [(fieldSink 31 0, code)] } }
def frefTurn (code : Nat) : State := { on with cal := { on.cal with frefNext := 31 }, refs := { on.refs with code := vset on.refs.code 31 code } }
def ageNotice : List Byte := bytesLE 2 0x0701 ++ bytesLE 6 0 ++ bytesLE 3 5 ++ bytesLE 1 0 ++ bytesLE 2 3300 ++ bytesLE 2 200 ++ bytesLE 1 1 ++ List.replicate 15 0
def aged : State := qPut fw 7 ageNotice

theorem witness_BackgroundTrim : on.scan.running = true ∧ fieldPowered on 31 = true ∧ measureBad on 31 = false ∧ measureBad { on with power := { on.power with loadstep := true } } 31 = true ∧
    flagged.lamp.flagged.find? (fun q => sinkField q.1 == 31) = some (fieldSink 31 0, 2) ∧ on.lamp.flagged.find? (fun q => sinkField q.1 == 31) = none ∧
    vget on.cal.cursor 0 31 = 0 ∧ sinkResult on 996 = 3 ∧ sinkResult on 1004 = 5 ∧ mapGet (fun _ => 0) (low 30).cal.lastResult (fieldSink 31 0) = sinkResult (low 30) 996 ∧
    trimCode (low 30).cal.trimNext (fieldSink 31 0) < 31 ∧ trimCode (low 31).cal.trimNext (fieldSink 31 0) = 31 ∧ sinkResult on 1003 = 4 ∧
    (frefTurn 146).cal.frefNext = 31 ∧ vget (frefTurn 145).refs.code 0 31 < 146 ∧ ¬ vget (frefTurn 146).refs.code 0 31 < 146 ∧ fieldPowered (frefTurn 146) 31 = true ∧ measureBad (frefTurn 146) 31 = false ∧
    100 * (Nat.max 1000 980 - Nat.min 1000 980) ≤ 2 * Nat.max 1000 980 ∧
    firmwareRuns aged 3 = true ∧ (qTake aged 7).1 = some ageNotice ∧ field ageNotice 0 2 = 0x0701 ∧ (qTake aged 7).2.flag Reg.calAgingEnable = true ∧
    mirrorAge (qTake aged 7).2 5 < ageTarget (qTake aged 7).2 5 (field ageNotice 11 1) (toInt 16 (field ageNotice 12 2)) (toInt 16 (field ageNotice 14 2)) (field ageNotice 16 1) ∧ (qTake (set Reg.calAgingEnable 0 aged) 7).2.flag Reg.calAgingEnable = false ∧ { fw with cal := { fw.cal with trimChanged := true } }.cal.trimChanged = true ∧ fw.power.device = 4 ∧
    domainOn fw 3 = true ∧ fw.cal.mirrorReady = false ∧ badWords fw.mram.aging = [] ∧ badWords fw.mram.trim = [] ∧ badTiles fw ⟨[], false, false, [], [], []⟩ = [] ∧ fw.cal.fallback = 0 := by decide +kernel

/-- The seals that R441 gives the words as shipped, and the check words of records and a tile as shipped. -/
theorem witness_BackgroundTrim_records : recordSound fw 0 = true ∧ recordSound fw 1 = true := by decide +kernel

theorem witness_BackgroundTrim_mirror : tileCheck (qTake aged 7).2 (.mirror (pixelTile 5)) = crc32c (tileData (qTake aged 7).2 (.mirror (pixelTile 5))) := by decide +kernel

theorem test_seals : agingWord = sealWord 0 ∧ trimWord = sealWord 0x10101010101010 ∧ binSound fw 4095 = true := by decide +kernel

/-- A file of one binning tile without records, with its checks. -/
def file : List Byte :=
  let t := List.replicate 1024 0
  let b := bytesLE 4 0x4347594B ++ bytesLE 2 0x0100 ++ bytesLE 2 1 ++ bytesLE 8 (host.reg Reg.idSerial) ++ bytesLE 2 4095 ++ bytesLE 2 1 ++ List.replicate 44 0 ++ t ++ bytesLE 4 (crc32c t)
  b ++ bytesLE 4 (crc32c b)

theorem witness_CalibrationImport : NextRequest hdr host ∧ HoldsKey hdr host ∧ (sessOf host 1).service = true ∧ bootedSlot host ≠ none ∧ host.cal.imp.state ≠ 2 ∧ file.length ≤ 4211268 ∧
    (createChannel (served host 1) (bytesLE 1 4 ++ bytesLE 7 0 ++ bytesLE 4 (importBlob file.length)) 0 none).1 = 0 ∧ importBeyond file = false ∧ importOk host (file.set 30 1) = false ∧
    { host with cal := { host.cal with imp := ⟨2, 0, file, none, 0⟩ } }.cal.imp.state = 2 :=
  ⟨hostNext, hostKey, rfl, hostBooted, by decide, by decide, by decide +kernel, by decide, by decide +kernel, rfl⟩

theorem witness_CalibrationImport_ok : importOk host file = true := by decide +kernel

/-! ### What the statements about power, the Lantern beam and self-test assume -/

/-- Domain `d` of `on` with another state. -/
def domain (d : Nat) (x : Domain) : State := setDomain on d x
def powered (f : Power → Power) : State := { on with power := f on.power }

theorem witness_SupplyAndDomains : State.reset.power.device = 0 ∧ State.reset.mram.journal.isOpen = false ∧ bootCopy State.reset = none ∧ on.power.device ≠ 0 ∧ on.power.uvWarn = false ∧
    (powered (fun p => { p with uvWarn := true })).power.uvWarn = true ∧ on.power.ride = none ∧ on.cal.imp.state ≠ 2 ∧ on.kdp.saving = none ∧
    (powered (fun p => { p with ride := some (5, 2400) })).power.ride = some (5, 2400) ∧ (∀ e, e < 9 → (engOf on e).moves = []) ∧
    (domainOf (domain 7 ⟨1, true, false⟩) 7).state = 1 ∧ (domainOf (domain 7 ⟨1, true, false⟩) 7).want = true ∧ (domainOf (domain 7 ⟨1, true, false⟩) 7).queued = false ∧
    domainOf (domain 7 ⟨3, false, false⟩) 7 = ⟨3, false, false⟩ ∧ domainOf (domain 1 ⟨3, true, true⟩) 1 = ⟨3, true, true⟩ ∧
    16 ≤ (powered (fun p => { p with tollPeriods := 16 })).power.tollPeriods := by decide

/-- Input 0 with pulses ignored so far at this instant. -/
def ignoredPulses (n : Nat) (last : Option Nat) : State := setInput on 0 { inputOf on 0 with recent := List.replicate n 5000000, lastChatter := last }
def recentOf (s : State) : List Nat := (inputOf s 0).recent.filter (fun t => decide (s.now < t + 10000000)) ++ [s.now]

theorem witness_InputsAndWakes : (dev 1).power.device = 1 ∧ (dev 1).power.testEn = false ∧ (dev 1).flag Reg.pwrCanWake = true ∧ (dev 3).power.device = 3 ∧
    (powered (fun p => { p with wakeLow := some 3 })).power.wakeLow = some 3 ∧ (set Reg.pwrStartMode 1 on).reg Reg.pwrStartMode = 1 ∧ (dev 5).power.device = 5 ∧ (dev 5).power.testEn = false ∧
    2 ≤ (dev 2).power.device ∧ (dev 4).power.device ≤ 4 ∧ (inputOf on 3).stuck = false ∧ 16 < (recentOf (ignoredPulses 16 none)).length ∧ (recentOf (ignoredPulses 15 none)).length ≤ 16 ∧
    (inputOf (ignoredPulses 16 (some 0)) 0).lastChatter = some 0 ∧ ¬ 0 + 100000000 ≤ (ignoredPulses 16 (some 0)).now ∧ on.power.fltIn = false ∧
    on.scan.running = true ∧ on.power.loadstep = false ∧ loadstepDue { on with lantern := { on.lantern with state := 1 } } = true ∧
    (powered (fun p => { p with loadstep := true, loadSwapped := true })).power.loadSwapped = true ∧
    (powered (fun p => { p with vbatGood := some 3, anticipating := true })).power.vbatGood = some 3 ∧
    (powered (fun p => { p with vbatGood := some 3, anticipating := true })).power.anticipating = true := by decide +kernel

/-- A Lantern beam that waits for its load, with a sound tile of zeros in MRAM. -/
def lanternWaits : State := { on with lantern := { on.lantern with state := 1 }, mram := { on.mram with lantern := vset on.mram.lantern 0 (memWrite [] 2097152 (bytesLE 4 (crc32c (List.replicate 512 0)))) } }
def silent (down : Bool) : State := { fw with host := { fw.host with since := some 0 }, therm := { fw.therm with shutdown := down } }

theorem witness_LanternBeam : lanternWaits.lantern.state = 1 ∧ lanternWaits.lantern.loaded = false ∧ domainOn lanternWaits 4 = true ∧ domainOn lanternWaits 7 = true ∧ allSwapped lanternWaits = true ∧
    lanternTileOk lanternWaits lanternWaits.lantern.frame 0 = true ∧ loadableTile lanternWaits 0 = true ∧ (silent true).power.device = 4 ∧ firmwareRuns (silent true) 0 = true ∧ firmwareRuns (silent false) 0 = true ∧ (silent true).host.since = some 0 ∧ (silent true).host.raised = false ∧
    (silent true).therm.shutdown = true ∧ (silent false).therm.shutdown = false ∧ (silent false).flag Reg.bistLockout = false ∧ (silent false).lantern.state = 0 ∧
    feedValid { on with host := { on.host with feedBad := true } } = false := by decide +kernel

/-- The shutdown BIST before a step, after the firmware window or aborted. -/
def bistAt (k : Nat) : State := { dev 5 with bist := { on.bist with running := true, step := k } }

theorem witness_SelfTests : (dev 2).power.device = 2 ∧ (dev 2).bist.startBlocks = [] ∧ { dev 2 with bist := { on.bist with startBlocks := [11] } }.bist.startBlocks ≠ [] ∧
    (dev 5).power.device = 5 ∧ (dev 5).bist.window = false ∧ (dev 5).bist.running = false ∧ { dev 5 with bist := { on.bist with window := true } }.bist.window = true ∧
    { dev 5 with bist := { on.bist with aborted := true } }.bist.aborted = true ∧ (bistAt 0).bist.running = true ∧ (bistAt 0).bist.aborted = false ∧ stepBlock ((bistAt 0).bist.step + 1) = 0 ∧
    (bistAt 685).bist.step + 1 = 686 ∧ stepBlock ((bistAt 16).bist.step + 1) = 1 ∧ stepBlock 686 ≠ 1 ∧ stepBlock 686 ≠ 2 ∧ stepBlock 34 = 2 ∧ stepBlock 85 = 3 ∧ stepBlock 120 = 5 ∧ stepBlock 121 = 6 ∧ stepBlock 164 = 8 ∧ stepBlock 165 = 9 ∧ stepBlock 685 = 10 := by decide

/-- A dump that is due; one under way, with an entry of Q14. -/
def dumpDue (seq : Nat) (busy : Bool) : State := { set Reg.dumpSeq seq fw with dump := { fw.dump with due := some (2, 0, 4), writing := busy } }
def dumping : State := let s := qPut fw 14 (bytesLE 2 0x01FF ++ List.replicate 30 0); { s with dump := { s.dump with writing := true, hardware := List.replicate 64 0 } }

theorem witness_DumpAndTap : domainOn fw 3 = true ∧ (dumpDue 0 false).dump.due = some (2, 0, 4) ∧ (dumpDue 0 false).reg Reg.dumpSeq = 0 ∧ (dumpDue 0 false).dump.writing = false ∧
    (dumpDue 3 false).reg Reg.dumpSeq ≠ 0 ∧ (dumpDue 0 true).dump.writing = true ∧ dumping.dump.due = none ∧ dumping.dump.writing = true ∧
    (qTake dumping 14).1 = some (bytesLE 2 0x01FF ++ List.replicate 30 0) ∧ 64 ≤ dumping.dump.hardware.length ∧ fw.power.device ≠ 0 ∧ fw.power.vio = true ∧
    { fw with jtag := { fw.jtag with tap := 3, ir := 3 } }.jtag.ir = 3 ∧ { fw with jtag := { fw.jtag with tap := 15 } }.jtag.tap = 15 := by decide

/-- Bytes in the store, an entry off its default, and a command that waits. -/
def stepping : State := set 0x230006 1 { on with store := { on.store with mem := [(0, 1), (9, 255)] }, pending := [.vioLoss] }

theorem witness_StoreStaysCanonical : StoreCanonical stepping ∧ ∃ t, step stepping = .next t := ⟨by unfold StoreCanonical; decide, _, rfl⟩

theorem witness_RegsStayCanonical : RegsCanonical stepping ∧ ∃ t, step stepping = .next t := ⟨by unfold RegsCanonical; decide, _, rfl⟩

/-- Engine 0 alone running, with ADDI g1, g0, 5 at address 0 of its instruction RAM. -/
def program : State := setEng on 0 { State.engineReset 0 with run := .running, iram := [(0, 5), (2, 0x20), (3, 4)] }

theorem witness_IdleRunsEngines : State.reset.pending = [] ∧ State.reset.power.device = 0 ∧ on.pending = [] ∧ on.power.device ≠ 0 ∧
    (∀ k : Fin 9, fetches on k = false) ∧ program.pending = [] ∧ fetches program 0 = true ∧ (∀ k : Fin 9, k < 0 → fetches program k = false) ∧
    ∃ t, exec (decodeEngine 0 (fetchWord program 0)) { program with now := program.now + 1 } = .next t ∧ ∀ k : Fin 9, 0 < k → fetches t k = false := by
  refine ⟨rfl, rfl, rfl, by decide, by decide, rfl, by decide, by decide, _, rfl, by decide⟩

theorem test_program : (engOf (idle program) 0).get 1 = 5 ∧ (engOf (idle program) 0).pc = 4 := by decide

/-! ### Numbers that the specification works out -/

/-- The check column of R281 over "123456789". -/
def digits : List Byte := (List.range 9).map (fun i => BitVec.ofNat 8 (0x31 + i))
theorem test_crc_columns : crc32c digits = 0xE3069283 ∧ crc16 digits = 0x29B1 ∧ crc8 digits = 0xDF := by decide +kernel

/-- Chapter 02, worked example: pixel (1,000, 211). -/
theorem test_geometry : tileOf 1000 211 = 1726 ∧ sinkOf 1000 211 = 26874 ∧ phaseOf 1000 211 = 12 ∧ groupOf 1000 211 = 2 ∧ fieldOf 1000 211 = 11 ∧ pixelOf 999 211 = 433127 := by decide

/-- Chapter 14, worked example: binning word and AGE 10 to calibration word. -/
theorem test_calibration_word : calFromBin 0x898673A0 10 = 0x8980A670 := by decide

/-- Chapter 04, worked example, steps 7 and 8: the word of the demand 0.169793 in the Mild band. -/
theorem test_drive_word : driveWord dictDefault 1 11 (169793 / 1000000) = (0xACCF, false) := by decide +kernel

/-- Chapter 06, worked example: source positions 51.75 and 29.75, the OVER of the arrow and the MULTIPLY of the mask. -/
theorem test_scaler : scalePos 0 256 512 104 = (51, 192) ∧ scalePos 0 64 128 60 = (29, 192) := by decide +kernel
theorem test_blend : blend 1 4096 65535 65536 5120 = 8192 ∧ blend 2 32768 65535 65536 8192 = 8192 := by decide

/-- Chapter 08, worked example: pages of an LA88 surface of 3,072 by 512 in L16, of an M1 mask and of a CAPTURE channel; the handle of a surface in slot 7, generation 5. -/
def channelOf (type format width height size : Nat) : Channel := ⟨7, 5, type, format, width, height, size, [], false, false, 0, none⟩
theorem test_pages : (channelOf 1 2 3072 512 0).pages = 1560 ∧ (channelOf 1 4 2048 512 0).pages = 80 ∧ (channelOf 1 3 256 64 0).pages = 17 ∧ (channelOf 2 0 0 0 4096).pages = 528 ∧
    (channelOf 1 3 256 64 0).handle = 0x01000507 := by decide

/-- Chapter 03, worked examples: the duty at 4 kHz, the change to 10 kHz in one step at 25 % and in two at 5 %, and the least frame of 42 scans. -/
theorem test_duty : duty 250000 600 = 3001 / 3125 ∧ spreadPlan (fun p => ((1000 * p : Nat) : Rat)) 250 600 100 600 25 = [100] ∧ spreadPlan (fun p => ((1000 * p : Nat) : Rat)) 250 600 100 600 5 = [176, 100] := by decide +kernel
def change (scans : Nat) : State := { fw with kdp := { fw.kdp with staged := [⟨Reg.scanPeriodUs, 100, 0⟩, ⟨Reg.scanScansPerFrame, scans, 0⟩] } }
theorem test_commit_period : (requestCommit (change 42) 1 []).1.reason = 0 ∧ (requestCommit (change 41) 1 []).1.reason = 3 := by decide +kernel

/-- Chapter 10, worked example: the WRITE_STAGED of `scan.scans_per_frame`. -/
theorem test_kdp_frame : (hostFrame fw ⟨0, 3, 0x42, 3, 0x210002, 0, [0x28, 0], []⟩).take 14 = [3, 0x42, 3, 0, 0, 0x21, 2, 0, 2, 0, 0, 0, 0x28, 0] ∧ dataId fw 0 false = 0x4B00 ∧ dataId fw 0 true = 0x4B20 := by decide

/-- Chapter 13, worked example: the injected VLED result and the AIN2 result. -/
theorem test_result_word : resultWord true false true false true 4 1 5 0x672 = 0xAC085672 ∧ resultWord true false true false false 4 18 6 0x9A5 = 0xA49069A5 := by decide

/-! ### Single steps of an engine (R351, R354) -/

/-- Register 3 and the flags Z, N, C, V of engine 0 after one instruction. -/
def after (i : Instr) (s : State) : Option (Word × Bool × Bool × Bool × Bool) := match exec i s with
  | .next t => let x := engOf t 0; some (x.get 3, x.flags.z, x.flags.n, x.flags.c, x.flags.v)
  | _ => none
theorem test_add_wraps : after (.add 0 3 1 2) (ops 0xFFFFFFFF 1) = some (0, true, false, true, false) := by decide
theorem test_sub_borrows : after (.sub 0 3 1 2) (ops 0x80000000 1) = some (0x7FFFFFFF, false, false, true, true) := by decide
theorem test_divu_by_zero : (after (.divu 0 3 1 2) (ops 7 0)).map (·.1) = some 0xFFFFFFFF := by decide
theorem test_sra_sign : (after (.sra 0 3 1 2) (ops 0x80000000 31)).map (·.1) = some 0xFFFFFFFF := by decide

/-! ### Output pins (R477, R515, R518) -/

/-- A device in READY whose V_T is 3,600 mV, with VIO or without it. -/
def pins (vio : Bool) : State := { State.reset with power := { State.reset.power with device := 3, vT := 3600, vio := vio } }

/-- Expected: (3.600 − 2.700) × 1.2 / 2.800 V, from R477. -/
theorem test_hdrm_analog : hdrmPin (pins true) = .volts (27 / 70) ∧ hdrmPin State.reset = .undriven := by decide +kernel

/-- TE_OUT is low while VIO stands, and high-Z without it. -/
theorem test_te_out_follows_vio : landOutput (pins false) 13 = none ∧ ownOutput (pins true) 13 = some false := by decide +kernel


end Sys2Proof.Tests
end

section
/-!
SUPPORT. A whole value written by a session or by the stock firmware (R304 to R309): which writes of plain entries pass the checks, and what they leave.
-/

namespace Sys2Proof.Machine

open Sys2Proof.Laws

/-! ### Keys and checks -/

/-- The keys of the actions that the checks of a write name are not those of an entry that can be read. -/
theorem ne_key_of_wo {key k : Nat} {row : Row} (h : dictRow key = some row) (hw : row.access ≠ .wo) (hk : (dictRow k).map Row.access = some .wo) : key ≠ k := by
  rintro rfl
  rw [h] at hk
  exact hw (by simpa using hk)

/-- R331, R540: the checks up to BUSY pass for a plain entry written by the service that its access class asks for. -/
theorem writeGate_passes {s : State} {sess key : Nat} {staged : Bool} {row : Row} {b : Option (List Byte)} (hdict : dictRow key = some row)
    (hacc : row.access = if staged then .rc else .rw) (hkey : sess = 0 ∨ s.kdp.keyholder = sess) (hlevel : needsService s key b = false) :
    writeGate s sess staged row key b = (0, []) := by
  have hw : row.access ≠ .wo := by rw [hacc]; cases staged <;> decide
  have hsave := ne_key_of_wo hdict hw (k := Reg.dictSave) (by decide)
  have hrestore := ne_key_of_wo hdict hw (k := Reg.dictRestore) (by decide)
  have hunlock := ne_key_of_wo hdict hw (k := Reg.unlockResponse) (by decide)
  have hclass : (if staged then row.access != .rc else row.access != .rw && row.access != .wo) = false := by rw [hacc]; cases staged <;> decide
  have hholder : ¬ (sess ≠ 0 ∧ s.kdp.keyholder ≠ sess ∧ !(!staged && sess != 0 && key == Reg.sessionNotifyMask (sess - 1))) := by
    rintro ⟨h1, h2, _⟩; exact hkey.elim h1 h2
  unfold writeGate
  simp only [hclass, hholder, hlevel, hsave, hrestore, beq_eq_false_iff_ne.2 hunlock, Bool.false_and, Bool.or_self, Bool.false_eq_true, and_false, false_and, or_self,
    if_false]

/-- R7, R309: a value of its exact size written to an RC entry is staged, its reserved bits 0. -/
theorem writeEntry_stages {s : State} {sess key : Nat} {row : Row} {b header : List Byte} (hrow : rowFor s key = some row) (hlen : b.length = row.size)
    (hvar : row.type ≠ .variable) (hgate : writeGate s sess true row key (some b) = (0, [])) (hmode : s.reg Reg.beamMode ≠ 1) :
    writeEntry s sess true key b header = (0, [], stage s sess key (heldBits key (natLE b))) := by
  have hown : stockOwned s key = false := by unfold stockOwned; simp [hmode]
  unfold writeEntry
  simp [hrow, hgate, hvar, hlen, hown, ok]

/-- R7, R305, R306: a value in range, of its exact size and refused by no rule, takes effect in an RW entry, its reserved bits 0. -/
theorem writeEntry_sets {s : State} {sess key : Nat} {row : Row} {b header : List Byte} (hrow : rowFor s key = some row) (hlen : b.length = row.size)
    (hvar : row.type ≠ .variable) (hgate : writeGate s sess false row key (some b) = (0, [])) (hrw : row.access = .rw) (hhandle : row.type ≠ .handle)
    (hrange : row.inRange key (heldBits key (natLE b)) = true) (hcross : crossRange s key (heldBits key (natLE b)) = true)
    (hrefused : writeRefused s sess row key (heldBits key (natLE b)) = false) :
    writeEntry s sess false key b header = (0, [], setEntry s sess key (heldBits key (natLE b))) := by
  unfold writeEntry
  simp [hrow, hgate, hvar, hlen, hrw, hhandle, hrange, hcross, hrefused, ok]

/-- R304: an entry that is only held and that no extension module declares takes its value, and nothing else happens. -/
theorem setEntry_heldOnly {s : State} {key : Nat} (sess v : Nat) (h : HeldOnly key) (hm : ∀ m ∈ s.modules, rowIn m.rows key = none) :
    setEntry s sess key v = s.setReg key v := by
  obtain ⟨hlist, hsession, hassay, hgroup, hkeys, hprofile⟩ := h
  simp only [List.mem_cons, List.not_mem_nil, or_false, not_or] at hlist hkeys
  obtain ⟨hcanA, hcanB, hevents⟩ := hlist
  obtain ⟨hrelax, hlanes, harray, hbist⟩ := hkeys
  have hcopies : hasCopies s key = false := by
    unfold hasCopies
    rw [List.findSome?_eq_none_iff.2 hm]
  have hnotice : moduleNotice .rw (s.setReg key v) key = s.setReg key v := by
    unfold moduleNotice
    rw [List.find?_eq_none.2 (fun m hmem => by rw [hm m hmem]; decide)]
  have hsession' : ¬ (0x1041 ≤ key / 256 ∧ key / 256 ≤ 0x1048) := by omega
  have hassay' (p : Prop) : ¬ (0x2720 ≤ key / 256 ∧ key / 256 ≤ 0x2727 ∧ p) := by rintro ⟨h1, h2, _⟩; omega
  have hgroup' (p : Prop) : ¬ (0x2A34 ≤ key / 256 ∧ key / 256 ≤ 0x2A37 ∧ p) := by rintro ⟨h1, h2, _⟩; omega
  unfold setEntry
  simp only [hcanA, hcanB, hsession', hevents, hassay', hgroup', hrelax, hlanes, harray, hbist, hprofile, hcopies, hnotice, or_self, Bool.false_eq_true, if_false, ite_self]

/-! ### The state that a writer's write works on -/

/-- The state on which a writer's write works: a session's request has been counted as host activity. -/
def writerState (w : Writer) (s : State) : State := match w with
  | .host h => served s h.session.toNat
  | .firmware => s

/-- What does not look at the sessions and the host supervision is the same for the state that a write works on. -/
theorem writerState_congr {α : Type} (g : State → α) (hs : ∀ st n x, g (setSess st n x) = g st) (ha : ∀ st, g (hostActive st) = g st) (w : Writer) (s : State) :
    g (writerState w s) = g s := by
  cases w with
  | firmware => rfl
  | host h =>
    unfold writerState served activity
    dsimp only
    split
    · rw [ha, hs]
    · exact hs _ _ _

section
variable (w : Writer) (s : State)

@[simp] theorem writerState_reg (k : Nat) : (writerState w s).reg k = s.reg k := writerState_congr (State.reg · k) (fun _ _ _ => rfl) (fun _ => rfl) w s
@[simp] theorem writerState_modules : (writerState w s).modules = s.modules := writerState_congr State.modules (fun _ _ _ => rfl) (fun _ => rfl) w s
@[simp] theorem writerState_rowFor (k : Nat) : rowFor (writerState w s) k = rowFor s k := writerState_congr (rowFor · k) (fun _ _ _ => rfl) (fun _ => rfl) w s
@[simp] theorem writerState_needsService (k : Nat) (b : Option (List Byte)) : needsService (writerState w s) k b = needsService s k b :=
  writerState_congr (needsService · k b) (fun _ _ _ => rfl) (fun _ => rfl) w s
@[simp] theorem writerState_crossRange (k v : Nat) : crossRange (writerState w s) k v = crossRange s k v :=
  writerState_congr (crossRange · k v) (fun _ _ _ => rfl) (fun _ => rfl) w s
@[simp] theorem writerState_writeRefused (n : Nat) (r : Row) (k v : Nat) : writeRefused (writerState w s) n r k v = writeRefused s n r k v :=
  writerState_congr (writeRefused · n r k v) (fun _ _ _ => rfl) (fun _ => rfl) w s

end

/-- A writer that may write an entry is the stock firmware, or the session with the key. -/
theorem writerState_holds {w : Writer} {service : Bool} {s : State} (hm : MayWrite w service s) :
    writerSession w = 0 ∨ (writerState w s).kdp.keyholder = writerSession w := by
  cases w with
  | firmware => exact .inl rfl
  | host h => obtain ⟨_, _, hkey, _⟩ := hm; exact .inr ((kdp_served s _).2.1.trans hkey)

/-! ### Writes of plain entries by either writer -/

/-- The effect of a write that leaves alone what the service of requests looks at: it does not depend on a session's own state, begins no save and no import,
and owes no fill. -/
structure PlainEffect (f : State → State) : Prop where
  sessions : ∀ s n x, f (setSess s n x) = setSess (f s) n x
  saving : ∀ s, (f s).kdp.saving = s.kdp.saving
  cal : ∀ s, (f s).cal = s.cal
  tolls : ∀ s, (f s).tolls = s.tolls

theorem stage_plain (sess key v : Nat) : PlainEffect (stage · sess key v) := ⟨fun _ _ _ => rfl, fun _ => rfl, fun _ => rfl, fun _ => rfl⟩

theorem setReg_plain (key v : Nat) : PlainEffect (State.setReg · key v) := ⟨fun _ _ _ => rfl, fun _ => rfl, fun _ => rfl, fun _ => rfl⟩

theorem tolls_served (s : State) (n : Nat) : (served s n).tolls = s.tolls := by unfold served activity; split <;> rfl

theorem PlainEffect.openFills_served {f : State → State} (hf : PlainEffect f) (s : State) (n : Nat) : openFills (f (served s n)) = openFills s := by
  unfold openFills; rw [hf.tolls, tolls_served]

theorem NextRequest.saving {h : Hdr} {s : State} (hn : NextRequest h s) : s.kdp.saving = none := by
  obtain ⟨_, _, _, _, _, _, _, _, hsaving⟩ := hn
  exact hsaving

/-- A write with a plain effect by a session or by the stock firmware leaves that effect. -/
theorem writeBy_plain {w : Writer} {service : Bool} {s : State} {f : State → State} (hm : MayWrite w service s) (hf : PlainEffect f) {staged : Bool} {key : Nat}
    {b : List Byte} (hb : b.length ≤ 50)
    (hw : ∀ header, writeEntry (writerState w s) (writerSession w) staged key b header = (0, [], f (writerState w s))) :
    Wrote w f [] s (writeBy w staged key b s) := by
  refine writeBy_wrote hm staged key b f [] hb ?_ ?_
  · rintro rfl
    exact ⟨_, _, _, hw [], After.refl _⟩
  · rintro h rfl hn
    obtain ⟨_, _, hkey, _⟩ := hm
    have heffect : f (served s h.session.toNat) = setSess (f (hostActive s)) h.session.toNat { sessOf s h.session.toNat with lastRequest := s.now } := by
      rw [served_key hkey, ← hf.sessions]; rfl
    refine ⟨_, _, hw _, ?_, ?_, ?_, Nat.le_of_eq (hf.openFills_served s _)⟩
    · change Answered _ [] (f (served s h.session.toNat))
      rw [heffect]
      exact (After.refl _).answered.setSess _ _
    · exact (hf.saving _).trans ((kdp_served s _).1.trans hn.saving)
    · exact congrArg (fun c => c.imp.state) ((hf.cal _).trans (kdp_served s _).2.2)

/-- A WRITE or WRITE_STAGED with a plain effect, the next request of its session, is answered with OK. -/
theorem hostWrite_plain {h : Hdr} {s : State} {f : State → State} (hn : NextRequest h s) (hf : PlainEffect f) {staged : Bool} {key : Nat} {b : List Byte}
    (hb : b.length ≤ 50) (hw : ∀ header, writeEntry (served s h.session.toNat) h.session.toNat staged key b header = (0, [], f (served s h.session.toNat))) :
    hostRequest (requestOf h (if staged then 3 else 2) key 0 b) s = answerTo h (if staged then 3 else 2) key 0 [] (f (served s h.session.toNat)) := by
  refine hostWrite_answered hn staged key b [] ?_ (hw _) ((hf.saving _).trans ((kdp_served s _).1.trans hn.saving))
    (congrArg (fun c => c.imp.state) ((hf.cal _).trans (kdp_served s _).2.2)) (Nat.le_of_eq (hf.openFills_served s _))
  unfold frameLimit; split <;> omega

section
variable {w : Writer} {service : Bool} {s : State} {key : Nat} {b : List Byte} {row : Row}
variable (hm : MayWrite w service s) (hrow : rowFor s key = some row) (hdict : dictRow key = some row) (hlen : b.length = row.size) (hvar : row.type ≠ .variable)
  (hlevel : needsService s key (some b) = false)
include hm hrow hdict hlen hvar hlevel

/-- An RC entry written by either writer: its value is staged. -/
theorem writerState_stages (hrc : row.access = .rc) (hmode : s.reg Reg.beamMode ≠ 1) (header : List Byte) :
    writeEntry (writerState w s) (writerSession w) true key b header = (0, [], stage (writerState w s) (writerSession w) key (heldBits key (natLE b))) :=
  writeEntry_stages (by simpa using hrow) hlen hvar (writeGate_passes hdict hrc (writerState_holds hm) (by simpa using hlevel)) (by simpa using hmode)

/-- An RW entry that is only held, written by either writer: it takes its value. -/
theorem writerState_sets (hrw : row.access = .rw) (hhandle : row.type ≠ .handle) (hrange : row.inRange key (heldBits key (natLE b)) = true)
    (hcross : crossRange s key (heldBits key (natLE b)) = true) (hrefused : writeRefused s (writerSession w) row key (heldBits key (natLE b)) = false)
    (hheld : HeldOnly key) (hmodules : ∀ m ∈ s.modules, rowIn m.rows key = none) (header : List Byte) :
    writeEntry (writerState w s) (writerSession w) false key b header = (0, [], (writerState w s).setReg key (heldBits key (natLE b))) := by
  have hgate := writeGate_passes (s := writerState w s) (b := some b) hdict (staged := false) hrw (writerState_holds hm) (by simpa using hlevel)
  rw [writeEntry_sets (by simpa using hrow) hlen hvar hgate hrw hhandle hrange (by simpa using hcross) (by simpa using hrefused),
    setEntry_heldOnly _ _ hheld (by simpa using hmodules)]

end

/-- R304: a listed entry is written by WRITE_STAGED where it is an RC entry. -/
theorem stagedEntry_of_row {s : State} {key : Nat} {row : Row} (h : dictRow key = some row) : stagedEntry s key = (row.access == .rc) := by
  unfold stagedEntry rowOf; rw [h]

theorem exec_registerWrite (w : Writer) (entry : EntryRef) (b : List Byte) (s : State) :
    exec (.registerWrite w entry b) s = .next (writeBy w (stagedEntry s (entryKey entry)) (entryKey entry) b s) := rfl

/-- Settles O29: each write passes the checks and has a plain effect, which a session's write and the firmware's write leave alike. -/
theorem writesOfEntries : Obligations.WritesOfEntries := by
  unfold Obligations.WritesOfEntries
  intro w entry b row s hm key hrow hdict hlen hb hvar
  constructor
  · intro hrc hmode hlevel
    have hstaged : stagedEntry s key = true := by rw [stagedEntry_of_row hdict, hrc]; rfl
    refine ⟨_, exec_registerWrite w entry b s, ?_⟩
    rw [hstaged]
    exact writeBy_plain hm (stage_plain (writerSession w) key _) hb (writerState_stages hm hrow hdict hlen hvar hlevel hrc hmode)
  · intro v hrw hhandle hrange hcross hrefused hheld hlevel hmodules
    have hstaged : stagedEntry s key = false := by rw [stagedEntry_of_row hdict, hrw]; rfl
    refine ⟨_, exec_registerWrite w entry b s, ?_⟩
    rw [hstaged]
    exact writeBy_plain hm (setReg_plain key v) hb (writerState_sets hm hrow hdict hlen hvar hlevel hrw hhandle hrange hcross hrefused hheld hmodules)

end Sys2Proof.Machine
end

section
/-!
SUPPORT. Requests that are executed in their turn (R318), the start and the SEGMENTs of a segmented write (R324), and answers that come later (R262, R322).
-/

namespace Sys2Proof.Machine

open Sys2Proof.Laws

/-! ### Numbers in byte strings -/

theorem natLE_bytesLE (n : Nat) : ∀ v, v < 256 ^ n → natLE (bytesLE n v) = v := by
  induction n with
  | zero => intro v hv; rw [Nat.lt_one_iff.1 hv]; rfl
  | succ n ih =>
    intro v hv
    have hq : v / 256 < 256 ^ n := Nat.div_lt_of_lt_mul (by rwa [Nat.pow_succ, Nat.mul_comm] at hv)
    rw [bytesLE, natLE, ih _ hq, BitVec.toNat_ofNat]
    omega

/-- A number at the head of a byte string reads back. -/
theorem field_head (n v : Nat) (b : List Byte) (h : v < 256 ^ n) : field (bytesLE n v ++ b) 0 n = v := by
  have hslice : slice (bytesLE n v ++ b) 0 n = bytesLE n v := by
    unfold slice
    simp [bytesLE_length]
  unfold field
  rw [hslice, natLE_bytesLE n v h]

/-! ### Requests in their turn (R318) -/

/-- A request with this header is the next of its open session, the dictionary is served, and no frame waits in the transport's queue: what `NextRequest` and
`NextSegment` share. -/
structure InTurn (h : Hdr) (s : State) : Prop where
  served : serves s h.transport = true
  first : 1 ≤ h.session.toNat
  last : h.session.toNat ≤ 8
  isOpen : (sessOf s h.session.toNat).isOpen = true
  transport : (sessOf s h.session.toNat).transport = h.transport
  seq : (sessOf s h.session.toNat).seqLast + 1 = h.seq
  idle : qNext s (rxQueue h.transport) = none

theorem NextRequest.inTurn {h : Hdr} {s : State} (hn : NextRequest h s) : InTurn h s := by
  obtain ⟨h1, h2, h3, h4, h5, h6, _, h8, _⟩ := hn
  exact ⟨h1, h2, h3, h4, h5, h6, h8⟩

/-- The transfer of a session does not bear on the turn of its request. -/
theorem NextSegment.inTurn {h : Hdr} {x : Transfer} {s : State} (hn : NextSegment h x s) : InTurn h s := by
  obtain ⟨_, h1, h2, h3, h4, h5, h6, _, h8, _⟩ := hn
  rw [sessOf_setSess _ _ _ ⟨h2, h3⟩] at h4 h5 h6
  exact ⟨h1, h2, h3, h4, h5, h6, h8⟩

theorem NextRequest.transfer_served {h : Hdr} {s : State} (hn : NextRequest h s) : (sessOf (served s h.session.toNat) h.session.toNat).transfer = none := by
  obtain ⟨_, h2, h3, _, _, _, htransfer, _⟩ := hn
  rw [sessOf_served ⟨h2, h3⟩]
  exact htransfer

theorem NextSegment.saving {h : Hdr} {x : Transfer} {s : State} (hn : NextSegment h x s) : s.kdp.saving = none := by
  obtain ⟨_, hnext⟩ := hn
  exact hnext.saving

theorem NextSegment.transfer_served {h : Hdr} {x : Transfer} {s : State} (hn : NextSegment h x s) :
    (sessOf (served s h.session.toNat) h.session.toNat).transfer = some x := by
  obtain ⟨hx, _⟩ := id hn
  rw [sessOf_served ⟨hn.inTurn.first, hn.inTurn.last⟩]
  exact hx

/-- With no frame on the queue of its transport, a request stands for its own arrival. -/
theorem hostRequest_idle {s : State} {q : Request} (hserves : serves s q.transport = true) (hfit : q.payload.length ≤ frameLimit q.transport)
    (hidle : qNext s (rxQueue q.transport) = none) : hostRequest q s = handleRequest q s := by
  have htake : takeFrame s q = (false, s) := by unfold takeFrame frontFrame; rw [hidle]
  unfold hostRequest
  rw [if_neg (by simp [hserves, hfit]), hidle, if_neg (by decide), htake]

/-- R318: a request in its turn is executed, a SEGMENT of a transfer under way too. -/
theorem hostRequest_inTurn {h : Hdr} {s : State} (ht : InTurn h s) (svc key flags : Nat) {p : List Byte} (hfit : p.length ≤ frameLimit h.transport) :
    hostRequest (requestOf h svc key flags p) s = execute (served s h.session.toNat) (requestOf h svc key flags p) := by
  have hfirst := ht.first
  have hlast := ht.last
  have hopening : ¬ (h.session.toNat = 0 ∧ svc = 7) := by omega
  have hsession : ¬ (h.session.toNat = 0 ∨ 8 < h.session.toNat ∨ (!(sessOf s h.session.toNat).isOpen) = true ∨ (sessOf s h.session.toNat).transport ≠ h.transport) := by
    rw [ht.isOpen, ht.transport]; simp; omega
  have hseq : (sessOf s h.session.toNat).seqLast + 1 = BitVec.ofNat 8 h.seq.toNat := by rw [ht.seq]; simp
  have hfresh : (sessOf s h.session.toNat).seqLast ≠ BitVec.ofNat 8 h.seq.toNat := by rw [← hseq]; bv_omega
  rw [hostRequest_idle ht.served hfit ht.idle]
  unfold handleRequest
  simp only [requestOf, hopening, hsession, hfresh, hseq, ne_eq, not_true_eq_false, if_false]
  rfl

/-- R318, R320: a request that is executed and whose answer does not wait is answered. -/
theorem execute_answers {h : Hdr} {u m : State} {svc key flags status : Nat} {p out : List Byte} (hserve : serve u (requestOf h svc key flags p) = (status, out, m))
    (hbusy : status ≠ 0xA) (hsvc : svc ≠ 7) (hwait : answerWaits u m = false) :
    execute u (requestOf h svc key flags p) = answerTo h svc key status out m := by
  have hwait' (x : Session) : answerWaits u (setSess m h.session.toNat x) = false := hwait
  unfold execute
  rw [hserve]
  simp only [requestOf, hbusy, hwait', hsvc, false_and, Bool.false_eq_true, if_false, BitVec.ofNat_toNat, BitVec.setWidth_eq]
  rfl

/-- R322: no answer waits where a request began no save, no import's writes and no fill. -/
theorem answerWaits_served {s m : State} (n : Nat) (hsaving : m.kdp.saving = none) (himport : m.cal.imp.state = s.cal.imp.state) (hfills : openFills m ≤ openFills s) :
    answerWaits (served s n) m = false := by
  have hopen : openFills (served s n) = openFills s := by unfold openFills; rw [tolls_served]
  unfold answerWaits
  rw [hsaving, himport, (kdp_served s n).2.2, hopen, decide_eq_false (Nat.not_lt.2 hfills)]
  simp

/-- A request in its turn that is executed, with nothing left to wait for, is answered. -/
theorem hostRequest_answers {h : Hdr} {s m : State} (ht : InTurn h s) {svc key flags : Nat} {p out : List Byte} (hfit : p.length ≤ frameLimit h.transport) (hsvc : svc ≠ 7)
    (hserve : serve (served s h.session.toNat) (requestOf h svc key flags p) = (0, out, m)) (hsaving : m.kdp.saving = none)
    (himport : m.cal.imp.state = s.cal.imp.state) (hfills : openFills m ≤ openFills s) :
    hostRequest (requestOf h svc key flags p) s = answerTo h svc key 0 out m := by
  rw [hostRequest_inTurn ht _ _ _ hfit]
  exact execute_answers hserve (by decide) hsvc (answerWaits_served _ hsaving himport hfills)

/-! ### The start of a segmented write (R324) -/

/-- R324: a segmented write that passes the checks, of a size that the entry takes, opens a transfer. -/
theorem startTransfer_opens {u : State} {h : Hdr} {staged : Bool} {key total : Nat} {row : Row} (hrow : rowFor u key = some row)
    (hgate : writeGate u h.session.toNat staged row key none = (0, [])) (hsaving : u.kdp.saving = none) (hcal : key ≠ Reg.calImport) (htotal : total < 4294967296)
    (hsize : if row.type = .variable then total ≤ row.size else total = row.size) :
    startTransfer u (requestOf h (if staged then 3 else 2) key 1 (bytesLE 4 total)) staged =
      (0, [], inSession h (fun x => { x with transfer := some ⟨true, staged, key, total, [], 0, none⟩ }) u) := by
  have hread : natLE (bytesLE 4 total) = total := natLE_bytesLE 4 total htotal
  have hlength : ¬ ((bytesLE 4 total).length ≠ 4 ∨ (if row.type = .variable then row.size < total else total ≠ row.size)) := by
    rw [bytesLE_length]
    split at hsize <;> simp_all
  unfold startTransfer
  simp only [requestOf, hrow, hgate, hsaving, hread, hlength, hcal, Option.isSome_none, Bool.false_eq_true, ne_eq, not_true_eq_false, if_false]
  rfl

theorem serve_startTransfer {u : State} {h : Hdr} {staged : Bool} {key : Nat} {p : List Byte} (hx : (sessOf u h.session.toNat).transfer = none) :
    serve u (requestOf h (if staged then 3 else 2) key 1 p) = startTransfer u (requestOf h (if staged then 3 else 2) key 1 p) staged := by
  have habandon : abandonTransfer u h.session.toNat = u := by unfold abandonTransfer; simp only [hx]
  have hflag : bitAt 1 0 = true := by decide
  cases staged <;> simp [serve, serveWrite, requestOf, habandon, hflag]

/-! ### SEGMENTs of a write (R324) -/

section
variable {u : State} {h : Hdr} {x : Transfer} {b : List Byte}
variable (hx : (sessOf u h.session.toNat).transfer = some x) (hwrite : x.write = true) (hholder : u.kdp.keyholder = h.session.toNat) (hsaving : u.kdp.saving = none)
  (hcal : x.key ≠ Reg.calImport) (hnext : x.next < 4294967296)
include hx hwrite hholder hsaving hcal hnext

/-- R324: a SEGMENT at the next offset adds its bytes to the transfer. -/
theorem serveSegment_adds (hfit : x.next + b.length ≤ x.total) :
    serveSegment u (requestOf h 5 0 0 (bytesLE 4 x.next ++ b)) = (0, bytesLE 4 (x.next + b.length),
      inSession h (fun y => { y with transfer := some { x with data := x.data ++ b, next := x.next + b.length } }) u) := by
  have hoff : field (bytesLE 4 x.next ++ b) 0 4 = x.next := field_head 4 _ b hnext
  have hdata : (bytesLE 4 x.next ++ b).drop 4 = b := List.drop_left' (bytesLE_length 4 _)
  have hlast : bitAt 0 1 = false := by decide
  unfold serveSegment
  simp [requestOf, hx, hwrite, hholder, hsaving, hcal, hoff, hdata, hlast, bytesLE_length, Nat.not_lt.2 hfit, inSession]

/-- R324: the last SEGMENT completes the value, whose write takes effect. -/
theorem serveSegment_finishes {m : State} {out : List Byte} (hfit : x.next + b.length = x.total)
    (hfinish : finishTransfer (inSession h (fun y => { y with transfer := none }) u) (requestOf h 5 0 2 (bytesLE 4 x.next ++ b)) x (x.data ++ b) = (0, out, m)) :
    serveSegment u (requestOf h 5 0 2 (bytesLE 4 x.next ++ b)) = (0, bytesLE 4 (x.next + b.length), m) := by
  have hoff : field (bytesLE 4 x.next ++ b) 0 4 = x.next := field_head 4 _ b hnext
  have hdata : (bytesLE 4 x.next ++ b).drop 4 = b := List.drop_left' (bytesLE_length 4 _)
  have hlast : bitAt 2 1 = true := by decide
  unfold inSession requestOf at hfinish
  unfold serveSegment
  simp [requestOf, hx, hwrite, hholder, hsaving, hcal, hoff, hdata, hlast, hfinish, bytesLE_length, hfit]

end

/-! ### Answers that come later (R262, R322) -/

theorem owed_pay (s : State) (c n : Nat) : (pay s c n).2.tolls.owed = s.tolls.owed := by
  unfold pay stallClass
  dsimp only
  split
  · split
    · rfl
    · rw [raise_tolls]; rfl
  · rfl

/-- R262: a fill beyond the tokens of the period is owed, and its answer waits. -/
theorem openFills_owe {s : State} {c n : Nat} (r : FillReport) (h : tokensLeft s c < n) : openFills (owe c n (some r) s) = openFills s + 1 := by
  have hshort : Nat.min n (tokensLeft s c) < n := Nat.lt_of_le_of_lt (Nat.min_le_right _ _) h
  have hpaid : (pay s c n).1 < n := hshort
  unfold owe openFills
  simp only [hpaid, if_true, owed_pay, List.countP_append]
  rfl

theorem tolls_placeChannel (s : State) (d : List Byte) (fill : Byte) (owner : Option Nat) : (placeChannel s d fill owner).2.2.tolls = s.tolls := by
  unfold placeChannel
  dsimp only
  split
  · rfl
  · split
    · rfl
    · split <;> rfl

/-- R262: a create after which no more fills are open has not kept its request. -/
theorem createFor_header {s : State} {sess : Nat} {d header header' : List Byte} (h : openFills (createFor s sess d header) ≤ openFills s) :
    createFor s sess d header' = createFor s sess d header := by
  have htolls := tolls_placeChannel s d 0 none
  unfold createFor at h ⊢
  generalize placeChannel s d 0 none = p at h htolls ⊢
  obtain ⟨code, c, s1⟩ := p
  cases c with
  | none => rfl
  | some c =>
    dsimp only at h htolls ⊢
    by_cases hleft : ceilDiv c.bytes 64 ≤ tokensLeft s1 7
    · rw [if_pos hleft, if_pos hleft]
    · rw [if_neg hleft, openFills_owe _ (by omega)] at h
      unfold openFills at h
      rw [htolls] at h
      omega

theorem actEntry_chanCreate (s : State) (sess v : Nat) (b header : List Byte) : actEntry s sess Reg.chanCreate v b header = (0, [], createFor s sess b header) := rfl

theorem actEntry_dictSave (s : State) (sess v : Nat) (b header : List Byte) : actEntry s sess Reg.dictSave v b header = (0, [], beginSave s sess header) := rfl

/-- R322: an action after which no save runs and no more fills are open has not kept its request. -/
theorem actEntry_header {s m : State} {sess key v st : Nat} {b p header : List Byte} (header' : List Byte) (hkey : key ≠ Reg.calImport)
    (h : actEntry s sess key v b header = (st, p, m)) (hsaving : m.kdp.saving = none) (hfills : openFills m ≤ openFills s) :
    actEntry s sess key v b header' = (st, p, m) := by
  by_cases hcreate : key = Reg.chanCreate
  · subst hcreate
    rw [actEntry_chanCreate] at h ⊢
    obtain ⟨rfl, rfl, rfl⟩ : 0 = st ∧ [] = p ∧ createFor s sess b header = m := by simpa using h
    rw [createFor_header hfills]
  by_cases hsave : key = Reg.dictSave
  · subst hsave
    rw [actEntry_dictSave] at h
    obtain ⟨rfl, rfl, rfl⟩ : 0 = st ∧ [] = p ∧ beginSave s sess header = m := by simpa using h
    exact absurd hsaving (by unfold beginSave; simp)
  unfold actEntry at h ⊢
  simp only [hkey, hcreate, hsave, if_false] at h ⊢
  exact h

/-- What a write keeps of its request it keeps in its action. -/
theorem writeEntry_cases (s : State) (sess : Nat) (staged : Bool) (key : Nat) (b : List Byte) :
    (∀ header, writeEntry s sess staged key b header = actEntry s sess key (heldBits key (natLE b)) b header) ∨
    (∀ header header', writeEntry s sess staged key b header = writeEntry s sess staged key b header') := by
  unfold writeEntry
  cases rowFor s key with
  | none => exact .inr fun _ _ => rfl
  | some r =>
    dsimp only
    generalize (if r.type = .variable then decide (r.size < b.length) else b.length != r.size) = wrongSize
    split -- the gate
    · exact .inr fun _ _ => rfl
    split -- the size
    · exact .inr fun _ _ => rfl
    split -- a staged write
    · exact .inr fun _ _ => rfl
    split -- the range
    · exact .inr fun _ _ => rfl
    split -- a stale handle
    · exact .inr fun _ _ => rfl
    split -- a rule of the present state
    · exact .inr fun _ _ => rfl
    split -- the action of a WO entry, or the value of an RW entry
    · exact .inl fun _ => rfl
    · exact .inr fun _ _ => rfl

/-- R322: a write after which no save runs and no more fills are open has not kept its request. -/
theorem writeEntry_header {s m : State} {sess key st : Nat} {staged : Bool} {b p header : List Byte} (header' : List Byte) (hkey : key ≠ Reg.calImport)
    (h : writeEntry s sess staged key b header = (st, p, m)) (hsaving : m.kdp.saving = none) (hfills : openFills m ≤ openFills s) :
    writeEntry s sess staged key b header' = (st, p, m) := by
  obtain hact | hsame := writeEntry_cases s sess staged key b
  · rw [hact] at h ⊢
    exact actEntry_header header' hkey h hsaving hfills
  · rw [hsame header' header, h]

/-- R324: the value of a segmented write that is no import and no image is written as a whole. -/
theorem finishTransfer_writes (s : State) (q : Request) {x : Transfer} (value : List Byte) (hcal : x.key ≠ Reg.calImport) (himage : x.key ≠ Reg.engImageWrite) :
    finishTransfer s q x value = writeEntry s q.session x.staged x.key value (segmentHeader q value) := by
  unfold finishTransfer
  rw [if_neg hcal, if_neg himage]

/-! ### Segmented writes of the keyholder -/

theorem exec_writeStaged (h : Hdr) (entry : EntryRef) (b : List Byte) (s : State) :
    exec (.writeStaged h entry b) s = .next (hostRequest (requestOf h 3 (entryKey entry) 0 b) s) := rfl

theorem exec_write (h : Hdr) (entry : EntryRef) (b : List Byte) (s : State) : exec (.write h entry b) s = .next (hostRequest (requestOf h 2 (entryKey entry) 0 b) s) := rfl

theorem exec_segmentedWriteStart (h : Hdr) (entry : EntryRef) (staged : Bool) (total : Word) (s : State) :
    exec (.segmentedWriteStart h entry staged total) s =
      .next (hostRequest (requestOf h (if staged then 3 else 2) (entryKey entry) 1 (bytesLE 4 total.toNat)) s) := rfl

theorem exec_segmentWrite (h : Hdr) (offset : Word) (b : List Byte) (last : Bool) (s : State) :
    exec (.segmentWrite h offset b last) s = .next (hostRequest (requestOf h 5 0 (2 * b2n last) (bytesLE 4 offset.toNat ++ b)) s) := rfl

theorem serve_segment (u : State) (h : Hdr) (flags : Nat) (p : List Byte) : serve u (requestOf h 5 0 flags p) = serveSegment u (requestOf h 5 0 flags p) := rfl

/-- A session's own state bears on no save, import or fill. -/
theorem waits_inSession (h : Hdr) (f : Session → Session) {s : State} (hsaving : s.kdp.saving = none) :
    (inSession h f (served s h.session.toNat)).kdp.saving = none ∧ (inSession h f (served s h.session.toNat)).cal.imp.state = s.cal.imp.state ∧
    openFills (inSession h f (served s h.session.toNat)) = openFills s := by
  refine ⟨(kdp_served s _).1.trans hsaving, congrArg (fun c => c.imp.state) (kdp_served s h.session.toNat).2.2, ?_⟩
  exact congrArg (fun x : Tolls => x.owed.countP (·.report.isSome)) (tolls_served s h.session.toNat)

/-- R324: a segmented write of the keyholder, the next request of its session, opens a transfer. -/
theorem exec_segmentedWriteStart_opens {h : Hdr} {entry : EntryRef} {staged : Bool} {total : Word} {row : Row} {s : State} (hn : NextRequest h s) (hholds : HoldsKey h s)
    (hrow : rowFor s (entryKey entry) = some row) (hdict : dictRow (entryKey entry) = some row) (hacc : row.access = if staged then .rc else .rw)
    (hlevel : needsService s (entryKey entry) none = false)
    (hsize : if row.type = .variable then total.toNat ≤ row.size else total.toNat = row.size) :
    exec (.segmentedWriteStart h entry staged total) s = .next (answerTo h (if staged then 3 else 2) (entryKey entry) 0 []
      (inSession h (fun x => { x with transfer := some ⟨true, staged, entryKey entry, total.toNat, [], 0, none⟩ }) (served s h.session.toNat))) := by
  have hcal : entryKey entry ≠ Reg.calImport := ne_key_of_wo hdict (by rw [hacc]; cases staged <;> decide) (by decide)
  have hgate : writeGate (served s h.session.toNat) h.session.toNat staged row (entryKey entry) none = (0, []) :=
    writeGate_passes hdict hacc (.inr ((kdp_served s _).2.1.trans hholds)) ((writerState_needsService (.host h) s _ _).trans hlevel)
  have hrow' : rowFor (served s h.session.toNat) (entryKey entry) = some row := (writerState_rowFor (.host h) s _).trans hrow
  have hopens := startTransfer_opens hrow' hgate ((kdp_served s _).1.trans hn.saving) hcal total.isLt hsize
  have hserve := (serve_startTransfer hn.transfer_served).trans hopens
  have hfit : (bytesLE 4 total.toNat).length ≤ frameLimit h.transport := by rw [bytesLE_length]; unfold frameLimit; split <;> decide
  obtain ⟨hsaving, himport, hfills⟩ := waits_inSession h (fun x => { x with transfer := some ⟨true, staged, entryKey entry, total.toNat, [], 0, none⟩ }) hn.saving
  rw [exec_segmentedWriteStart, hostRequest_answers hn.inTurn hfit (by cases staged <;> decide) hserve hsaving himport (Nat.le_of_eq hfills)]

section
variable {h : Hdr} {x : Transfer} {s : State} {offset : Word} {b : List Byte}
variable (hn : NextSegment h x s) (hholds : HoldsKey h s) (hwrite : x.write = true) (hcal : x.key ≠ Reg.calImport) (hoffset : offset.toNat = x.next)
  (hframe : 4 + b.length ≤ frameLimit h.transport)
include hn hholds hwrite hcal hoffset hframe

/-- R324: a SEGMENT of the keyholder at the next offset adds its bytes. -/
theorem exec_segmentWrite_adds (hfit : x.next + b.length ≤ x.total) :
    exec (.segmentWrite h offset b false) s = .next (answerTo h 5 0 0 (bytesLE 4 (x.next + b.length))
      (inSession h (fun y => { y with transfer := some { x with data := x.data ++ b, next := x.next + b.length } }) (served s h.session.toNat))) := by
  have hserve := serveSegment_adds (b := b) hn.transfer_served hwrite ((kdp_served s _).2.1.trans hholds) ((kdp_served s _).1.trans hn.saving) hcal
    (hoffset ▸ offset.isLt) hfit
  obtain ⟨hsaving, himport, hfills⟩ :=
    waits_inSession h (fun y => { y with transfer := some { x with data := x.data ++ b, next := x.next + b.length } }) hn.saving
  have hanswer := hostRequest_answers hn.inTurn (by rwa [List.length_append, bytesLE_length]) (by decide) ((serve_segment _ _ _ _).trans hserve) hsaving himport (Nat.le_of_eq hfills)
  rw [exec_segmentWrite, hoffset]
  exact congrArg _ hanswer

/-- R324: the last SEGMENT of the keyholder is answered with the end reached, where the write of the value is accepted and its answer need not wait. -/
theorem exec_segmentWrite_finishes {m : State} {header : List Byte} (hend : x.next + b.length = x.total) (himage : x.key ≠ Reg.engImageWrite) (hsaving : m.kdp.saving = none)
    (himport : m.cal.imp.state = s.cal.imp.state) (hfills : openFills m ≤ openFills s)
    (hw : writeEntry (inSession h (fun y => { y with transfer := none }) (served s h.session.toNat)) h.session.toNat x.staged x.key (x.data ++ b) header = (0, [], m)) :
    exec (.segmentWrite h offset b true) s = .next (answerTo h 5 0 0 (bytesLE 4 (x.next + b.length)) m) := by
  obtain ⟨_, _, hopen⟩ := waits_inSession h (fun y => { y with transfer := none }) hn.saving
  have hvalue := writeEntry_header (segmentHeader (requestOf h 5 0 2 (bytesLE 4 x.next ++ b)) (x.data ++ b)) hcal hw hsaving (Nat.le_trans hfills (Nat.le_of_eq hopen.symm))
  have hserve := serveSegment_finishes hn.transfer_served hwrite ((kdp_served s _).2.1.trans hholds) ((kdp_served s _).1.trans hn.saving) hcal
    (hoffset ▸ offset.isLt) hend ((finishTransfer_writes _ _ _ hcal himage).trans hvalue)
  have hanswer := hostRequest_answers hn.inTurn (by rwa [List.length_append, bytesLE_length]) (by decide) ((serve_segment _ _ _ _).trans hserve) hsaving himport hfills
  rw [exec_segmentWrite, hoffset]
  exact congrArg _ hanswer

end

/-- Settles O41: whole writes of plain entries as either writer makes them, answered with OK, and the start and the SEGMENTs of a segmented write. -/
theorem writeServices : Obligations.WriteServices := by
  unfold Obligations.WriteServices
  intro h entry b staged total offset row s hholds hbooted key n u
  have hm (hn : NextRequest h s) : MayWrite (.host h) false s := ⟨hbooted, hn, hholds, nofun⟩
  constructor
  · intro hn hrow hdict
    refine ⟨fun hlen hb hvar hlevel => ⟨?_, ?_⟩, exec_segmentedWriteStart_opens hn hholds hrow hdict⟩
    · intro hrc hmode
      have hanswer := hostWrite_plain hn (staged := true) (stage_plain n key _) hb
        (writerState_stages (w := .host h) (hm hn) hrow hdict hlen hvar hlevel hrc hmode)
      rw [exec_writeStaged]
      exact congrArg _ hanswer
    · intro v hrw hhandle hrange hcross hrefused hheld hmodules
      have hanswer := hostWrite_plain hn (staged := false) (setReg_plain key v) hb
        (writerState_sets (w := .host h) (hm hn) hrow hdict hlen hvar hlevel hrw hhandle hrange hcross hrefused hheld hmodules)
      rw [exec_write]
      exact congrArg _ hanswer
  · intro x hn hwrite hcal hoffset hframe hfit
    refine ⟨exec_segmentWrite_adds hn hholds hwrite hcal hoffset hframe hfit, ?_⟩
    intro m hend himage hsaving himport hfills hw
    exact exec_segmentWrite_finishes hn hholds hwrite hcal hoffset hframe hend himage hsaving himport hfills hw

end Sys2Proof.Machine
end

section
/-!
SUPPORT. What writes by either writer leave beside a plain effect (R309, R320): the frames that wait on a CAN controller, and latched event bits.
-/

namespace Sys2Proof.Machine

open Sys2Proof.Laws

/-! ### What frames on their way to the host keep (R320, R340) -/

section
variable {α : Type} {view : State → α} (hbyte : ∀ s a v, view (storeByte s a v) = view s) (hqueue : ∀ s q c, view (setQ s q c) = view s)
  (htrans : ∀ s n x, view (setTrans s n x) = view s) (hlanes : ∀ s l, view { s with lanes := l } = view s) (hdrain : ∀ s c, view (canDrain s c) = view s)
include hbyte hqueue htrans hlanes hdrain

/-- What neither the pixel store, nor a queue's control, nor a transport, nor the lanes, nor sent CAN frames change, a placed frame keeps. -/
theorem placeFrame_keeps (s : State) (t : Nat) (f : List Byte) : view (placeFrame s t f) = view s := by
  have hbytes : ∀ (b : List Byte) (st : State) (a : Nat), view (storeBytes st a b) = view st := by
    intro b
    induction b with
    | nil => intros; rfl
    | cons v b ih => intro st a; rw [storeBytes, ih, hbyte]
  have hput (st : State) (q : Nat) (e : List Byte) : view (qPut st q e) = view st := by unfold qPut; rw [hqueue, hbytes]
  have hlease (st : State) (q e : Nat) : view (qLease st q e) = view st := by
    unfold qLease
    dsimp only
    split
    · exact hqueue _ _ _
    · split
      · rfl
      · exact hqueue _ _ _
  have hack (st : State) (q : Nat) (k : BitVec 16) : view (qAck st q k) = view st := by
    unfold qAck
    dsimp only
    split
    · exact hqueue _ _ _
    · rfl
  have htake (st : State) (q : Nat) : view (qTake st q).2 = view st := by
    unfold qTake
    split
    · rfl
    · exact (hack _ _ _).trans (hlease _ _ _)
  have hsend (st : State) (ctl : Bool) (p : List Byte) : view (linkSend st ctl p) = view st := by
    unfold linkSend
    split
    · rfl
    · unfold pumpAll
      exact hlanes st _
  unfold placeFrame
  dsimp only
  split
  · rw [hsend, htake, hput]
  · split
    · rw [hdrain, htrans, htake, hput]
    · rw [htrans, htake, hput]

theorem sendFrame_keeps (s : State) (t : Nat) (f : List Byte) : view (sendFrame s t f) = view s := by
  unfold sendFrame
  dsimp only
  split
  · exact placeFrame_keeps hbyte hqueue htrans hlanes hdrain _ _ _
  · exact htrans _ _ _

theorem releaseTx_keeps (n t : Nat) : ∀ s, view (releaseTx n t s) = view s := by
  induction n with
  | zero => intro s; rfl
  | succ n ih =>
    intro s
    unfold releaseTx
    dsimp only
    split
    · rfl
    · split
      · rw [ih, placeFrame_keeps hbyte hqueue htrans hlanes hdrain, htrans]
      · rfl

end

theorem regs_releaseAll (s : State) (t : Nat) : (releaseAll s t).regs = s.regs :=
  releaseTx_keeps (view := State.regs) (fun _ _ _ => rfl) (fun _ _ _ => rfl) (fun _ _ _ => rfl) (fun _ _ => rfl) regs_canDrain _ _ s

theorem upTo_releaseAll (s : State) (t : Nat) : UpToEvents s (releaseAll s t) := by
  suffices hall : ∀ n s, UpToEvents s (releaseTx n t s) from hall _ s
  intro n
  induction n with
  | zero => exact UpToEvents.refl
  | succ n ih =>
    intro s
    unfold releaseTx
    dsimp only
    split
    · exact UpToEvents.refl s
    · split
      · exact ((upTo_setTrans _ _ _).trans (upTo_placeFrame _ _ _)).trans (ih _)
      · exact UpToEvents.refl s

/-- R345: mode and bus-off of a CAN controller. -/
def canPart (c : Nat) (s : State) : Nat × Bool := ((canOf s c).mode, (canOf s c).busOff)

theorem canOf_setCan (s : State) (c : Nat) (x : CanCtl) (h : c < 2) : canOf (setCan s c x) c = x := vget_vset _ _ _ _ h

/-- A controller replaced with its mode and bus-off kept. -/
theorem canPart_setCan {s : State} {k : Nat} {x : CanCtl} (c : Nat) (hmode : x.mode = (canOf s k).mode) (hoff : x.busOff = (canOf s k).busOff) :
    canPart c (setCan s k x) = canPart c s := by
  have hother (h : canOf (setCan s k x) c = canOf s c) : canPart c (setCan s k x) = canPart c s := by unfold canPart; rw [h]
  by_cases hck : c = k
  · subst hck
    by_cases hc : c < 2
    · unfold canPart; rw [canOf_setCan _ _ _ hc, hmode, hoff]
    · exact hother (by unfold canOf setCan vget vset; simp [hc])
  · exact hother (vget_vset_ne _ _ _ _ _ hck)

theorem canPart_canDrain (c : Nat) (s : State) (k : Nat) : canPart c (canDrain s k) = canPart c s := by
  unfold canDrain
  split
  · exact canPart_setCan (s := setTrans s k { transOf s k with tx := [] }) c rfl rfl
  · rfl

theorem canPart_sendFrame (c : Nat) (s : State) (t : Nat) (f : List Byte) : canPart c (sendFrame s t f) = canPart c s :=
  sendFrame_keeps (view := canPart c) (fun _ _ _ => rfl) (fun _ _ _ => rfl) (fun _ _ _ => rfl) (fun _ _ => rfl) (canPart_canDrain c) _ _ _

theorem canPart_releaseAll (c : Nat) (s : State) (t : Nat) : canPart c (releaseAll s t) = canPart c s :=
  releaseTx_keeps (view := canPart c) (fun _ _ _ => rfl) (fun _ _ _ => rfl) (fun _ _ _ => rfl) (fun _ _ => rfl) (canPart_canDrain c) _ _ _

theorem events_sendFrame (s : State) (t : Nat) (f : List Byte) : (sendFrame s t f).events = s.events :=
  sendFrame_keeps (view := State.events) (fun _ _ _ => rfl) (fun _ _ _ => rfl) (fun _ _ _ => rfl) (fun _ _ => rfl)
    (fun s c => by unfold canDrain; split <;> rfl) _ _ _

/-- What a frame on its way to the host and a replaced session keep, an answer keeps. -/
theorem answerTo_keeps {α : Type} {view : State → α} (hsend : ∀ s t f, view (sendFrame s t f) = view s) (hsess : ∀ s n x, view (setSess s n x) = view s)
    (h : Hdr) (svc key status : Nat) (p : List Byte) (m : State) : view (answerTo h svc key status p m) = view m := by
  unfold answerTo respond
  rw [hsend, hsess, hsess]

/-! ### Writes whose effect is a plain one up to what frames and events change -/

theorem Answered.trans_after {m u t : State} (h : Answered m [] u) (k : After u [] t) : Answered m [] t := by
  refine ⟨h.1.trans k.1.toUpToFrames, fun hg n hn h1 h2 => ?_⟩
  rw [k.2 (h.1.settled hg) n hn h1 h2]
  have hcount := h.2 hg n hn h1 h2
  simp only [List.count_nil] at hcount ⊢
  omega

section
variable {w : Writer} {service : Bool} {s : State} {f g : State → State} {key : Nat} {b : List Byte}
variable (hm : MayWrite w service s) (hf : PlainEffect f) (hg : ∀ u, After (f u) [] (g u)) (hb : b.length ≤ 50)
  (hw : ∀ header, writeEntry (writerState w s) (writerSession w) false key b header = (0, [], g (writerState w s)))
include hm hf hg hb hw

/-- The write works on the writer's state; a host's is answered with OK. -/
theorem writeBy_answers : writeBy w false key b s = match w with
    | .host h => answerTo h 2 key 0 [] (g (writerState w s))
    | .firmware => g s := by
  cases w with
  | firmware =>
    obtain ⟨_, ⟨n, hn, hruns⟩, hrecovery⟩ := hm
    have hany : [0, 1, 2, 3].any (firmwareRuns s) = true := List.any_eq_true.2 ⟨n, by simp only [List.mem_cons, List.not_mem_nil]; omega, hruns⟩
    have hw' : writeEntry s 0 false key b [] = (0, [], g s) := hw []
    unfold writeBy firmwareWrite
    simp [hany, hrecovery, hw']
  | host h =>
    obtain ⟨_, hn, _⟩ := hm
    have hrest := (hg (served s h.session.toNat)).1.rest
    refine hostWrite_answered hn false key b [] (Nat.le_trans hb (by unfold frameLimit; split <;> omega)) (hw _) ?_ ?_ ?_
    · exact (congrArg (fun r => r.kdp.saving) hrest).trans ((hf.saving _).trans ((kdp_served s _).1.trans hn.saving))
    · exact (congrArg (fun r => r.cal.imp.state) hrest).trans (congrArg (fun c => c.imp.state) ((hf.cal _).trans (kdp_served s _).2.2))
    · have htolls : (g (served s h.session.toNat)).tolls = (f (served s h.session.toNat)).tolls := congrArg Rest.tolls hrest
      refine Nat.le_of_eq (Eq.trans ?_ (hf.openFills_served s h.session.toNat))
      unfold openFills
      exact congrArg (fun l : Tolls => l.owed.countP (·.report.isSome)) htolls

/-- The write leaves its plain effect. -/
theorem writeBy_after : Wrote w f [] s (writeBy w false key b s) := by
  have hresult := writeBy_answers hm hf hg hb hw
  cases w with
  | firmware => exact hresult ▸ hg s
  | host h =>
    obtain ⟨_, hn, hkey, _⟩ := hm
    have hbound : 1 ≤ h.session.toNat ∧ h.session.toNat ≤ 8 := ⟨hn.inTurn.first, hn.inTurn.last⟩
    have heffect : f (served s h.session.toNat) = setSess (f (hostActive s)) h.session.toNat { sessOf s h.session.toNat with lastRequest := s.now } := by
      rw [served_key hkey, ← hf.sessions]; rfl
    have hplain : Answered (f (hostActive s)) [] (f (served s h.session.toNat)) := heffect ▸ (After.refl _).answered.setSess _ _
    refine hresult ▸ ⟨((hplain.trans_after (hg _)).setSess _ _).respond _ _ _ _ _ _ _, ?_⟩
    unfold answerTo
    rw [seqLast_respond _ _ _ _ _ _ _ _ hbound, sessOf_setSess _ _ _ hbound]

/-- What an answer keeps stands after the write as its effect leaves it. -/
theorem view_writeBy {α : Type} {view : State → α} (hsend : ∀ s t f, view (sendFrame s t f) = view s) (hsess : ∀ s n x, view (setSess s n x) = view s) :
    view (writeBy w false key b s) = view (g (writerState w s)) := by
  have hresult := writeBy_answers hm hf hg hb hw
  cases w with
  | firmware => exact congrArg view hresult
  | host h => exact (congrArg view hresult).trans (answerTo_keeps hsend hsess _ _ _ _ _ _)

end

end Sys2Proof.Machine
end

section
/-!
SUPPORT. Writes of the entries of drive, rectangles, Assayers, queues, dump, events and CAN: which checks they meet where every module guards entries of its own
alone (R331, R372, R540), and what each does (R119, R279, R291, R292, R296, R345, R387, R510).
-/

namespace Sys2Proof.Machine

open Sys2Proof.Laws

/-! ### The checks of a write of a unit's entry -/

/-- R372: no module's list of guarded keys names an entry of the tables. -/
def ModulesGuardOwn (s : State) : Prop := ∀ m ∈ s.modules, ∀ k ∈ m.service, dictRow k = none

/-- The entries outside the acquisition groups of which a check of a write speaks by name (R83, R85, R170, R249, R305, R335, R504). -/
def checkedByName : List Nat :=
  [Reg.diagEnable, Reg.unlockKey, Reg.diagClear, Reg.dictRestore, Reg.engImageTarget, Reg.engImageWrite, Reg.engImageActivate, Reg.engExtKeyHash, Reg.calImport,
    Reg.thermDerateStartC, Reg.thermDerateEndC, Reg.pwrVledMinMv, Reg.pwrVledMaxMv, Reg.adcInjConfig, Reg.commitWindowUs, Reg.frameTeDelayUs, Reg.laneEmiDrop, Reg.laneEmiMin,
    Reg.lanternRelease, Reg.dictSave, Reg.unlockResponse]

/-- A writable entry of a table whose writes no check but its own unit's rules out. -/
def UnitEntry (key : Nat) (row : Row) : Prop :=
  dictRow key = some row ∧ key ∉ checkedByName ∧ (key / 256 < 0x2410 ∨ 0x2413 < key / 256) ∧ (key / 256 < 0x2A30 ∨ 0x2A37 < key / 256) ∧
    (row.access = .rw ∨ row.access = .wo) ∧ row.type ≠ .variable ∧ row.type ≠ .handle

/-- R279, R292, R344: the rules of the queues, the Assayers and the CAN controllers on a write. -/
def unitRefuses (s : State) (key v : Nat) : Bool :=
  let i := key / 256
  if i = 0x1020 ∨ i = 0x1021 then canRefused s (i - 0x1020) (key % 256) v
  else if 0x2610 ≤ i ∧ i ≤ 0x261F then !ringSize v || ringBusy s (i - 0x2610)
  else if 0x2720 ≤ i ∧ i ≤ 0x2727 then assayRefused s (i - 0x2720) (key % 256) v
  else false

section
variable {s : State} {key : Nat} {row : Row} (he : UnitEntry key row)
include he

theorem UnitEntry.rowFor (hbooted : bootedSlot s ≠ none) : rowFor s key = some row := by
  obtain ⟨hdict, _, _, hgroups, _⟩ := he
  have hopen : (bootedSlot s != none) = true := bne_iff_ne.2 hbooted
  have hown : ownRow key row = row := by unfold ownRow; rw [if_neg (by omega)]
  unfold Machine.rowFor rowOf
  simp [hopen, hdict, hown]

theorem UnitEntry.needsService (hown : ModulesGuardOwn s) (b : Option (List Byte)) : needsService s key b = false := by
  obtain ⟨hdict, hnamed, _⟩ := he
  have hmodules (m : Module) (hm : m ∈ s.modules) : key ∉ m.service := fun hk => nomatch hdict.symm.trans (hown m hm key hk)
  simp only [checkedByName, List.mem_cons, List.not_mem_nil, or_false, not_or] at hnamed
  unfold Machine.needsService
  simpa [hnamed] using hmodules

theorem UnitEntry.crossRange (v : Nat) : crossRange s key v = true := by
  obtain ⟨_, hnamed, _, hgroups, _⟩ := he
  have hgroup : ¬ (0x2A34 ≤ key / 256 ∧ key / 256 ≤ 0x2A37) := by omega
  simp only [checkedByName, List.mem_cons, List.not_mem_nil, or_false, not_or] at hnamed
  unfold Machine.crossRange
  simp only [hnamed, hgroup, if_false]

theorem UnitEntry.writeRefused (sess v : Nat) : writeRefused s sess row key v = unitRefuses s key v := by
  obtain ⟨_, hnamed, hstock, hgroups, _, _, hhandle⟩ := he
  have hgroup : ¬ (0x2A34 ≤ key / 256 ∧ key / 256 ≤ 0x2A37) := by omega
  have howned : stockOwned s key = false := by unfold stockOwned; simp; omega
  simp only [checkedByName, List.mem_cons, List.not_mem_nil, or_false, not_or] at hnamed
  have hframe : frameRule (presentFrame s) key v = true := by unfold frameRule; simp only [hnamed, if_false]
  unfold Machine.writeRefused unitRefuses
  simp [hnamed, hgroup, howned, hframe, hhandle]

/-- R331, R540: the checks up to BUSY pass. -/
theorem UnitEntry.writeGate {sess : Nat} {b : Option (List Byte)} (hkey : sess = 0 ∨ s.kdp.keyholder = sess) (hlevel : Machine.needsService s key b = false) :
    writeGate s sess false row key b = (0, []) := by
  obtain ⟨_, hnamed, _, _, hacc, _⟩ := he
  have hunlock : (key == Reg.unlockResponse) = false := beq_eq_false_iff_ne.2 (by rintro rfl; exact hnamed (by decide))
  simp only [checkedByName, List.mem_cons, List.not_mem_nil, or_false, not_or] at hnamed
  have hclass : (row.access != .rw && row.access != .wo) = false := by rcases hacc with h | h <;> rw [h] <;> rfl
  have hholder : ¬ (sess ≠ 0 ∧ s.kdp.keyholder ≠ sess ∧ !(!false && sess != 0 && key == Reg.sessionNotifyMask (sess - 1))) := by
    rintro ⟨h1, h2, _⟩; exact hkey.elim h1 h2
  unfold Machine.writeGate
  simp only [hclass, hholder, hlevel, hnamed, Bool.false_and, Bool.or_self, hunlock, Bool.false_eq_true, and_false,
    false_and, or_self, if_false]

/-- A value that is valid for the entry lies in its row's range. -/
theorem UnitEntry.inRange {v : Nat} (hbooted : bootedSlot s ≠ none) (hv : Valid s key v) : row.inRange key v = true := by
  obtain ⟨⟨r, hr, hrange⟩, _⟩ := hv
  rw [he.rowFor hbooted] at hr
  obtain rfl := Option.some.inj hr
  exact hrange

/-- R305, R309: a write that the rules of its unit do not refuse has its entry's action or sets its entry's value. -/
theorem UnitEntry.written {w : Writer} {b : List Byte} (hm : MayWrite w false s) (hown : ModulesGuardOwn s) (hlen : b.length = row.size)
    (hrange : row.inRange key (heldBits key (natLE b)) = true) (hrules : unitRefuses s key (heldBits key (natLE b)) = false) (header : List Byte) :
    writeEntry (writerState w s) (writerSession w) false key b header =
      if row.access = .wo then actEntry (writerState w s) (writerSession w) key (heldBits key (natLE b)) b header
      else ok (setEntry (writerState w s) (writerSession w) key (heldBits key (natLE b))) := by
  obtain ⟨hbooted, _⟩ := id hm
  have hgate := he.writeGate (writerState_holds hm) ((writerState_needsService w s key (some b)).trans (he.needsService hown (some b)))
  have hrefused := (writerState_writeRefused w s (writerSession w) row key (heldBits key (natLE b))).trans ((he.writeRefused _ _).trans hrules)
  have hcross := he.crossRange (s := writerState w s) (heldBits key (natLE b))
  have hrow := (writerState_rowFor w s key).trans (he.rowFor hbooted)
  obtain ⟨_, _, _, _, _, hvar, hhandle⟩ := he
  unfold writeEntry
  simp [hrow, hgate, hvar, hlen, hrange, hcross, hhandle, hrefused]

end

/-- R7: an entry whose table has no reserved bits keeps the value written. -/
theorem heldBits_whole {key v : Nat} (hnamed : key ∉ [Reg.pwrArrayMask, Reg.scanPhaseOrder, Reg.scanStagger, Reg.adcInjConfig])
    (hindex : (key / 256 < 0x2720 ∨ 0x2727 < key / 256) ∧ (key / 256 < 0x2A30 ∨ 0x2A37 < key / 256) ∧ key / 256 ≠ 0x6010 ∧ key / 256 ≠ 0x6020) :
    heldBits key v = v := by
  obtain ⟨hassay, hgroup, hbeam, hsymbol⟩ := hindex
  have hassay' (p : Prop) : ¬ (0x2720 ≤ key / 256 ∧ key / 256 ≤ 0x2727 ∧ p) := by rintro ⟨h1, h2, _⟩; omega
  have hgroup' (p : Prop) : ¬ (0x2A30 ≤ key / 256 ∧ key / 256 ≤ 0x2A37 ∧ p) := by rintro ⟨h1, h2, _⟩; omega
  simp only [List.mem_cons, List.not_mem_nil, or_false, not_or] at hnamed
  unfold heldBits
  simp only [hnamed, hassay', hgroup', hbeam, hsymbol, false_and, if_false]

/-! ### The entries and their actions -/

section
variable (s : State) (sess v : Nat) (b header : List Byte)

theorem unitEntry_driveRecompute : UnitEntry Reg.driveRecompute ⟨0x2200, 1, 0x0D, 1, .u8, 1, .wo, .no, 0, 0, 0x0, false⟩ := by unfold UnitEntry; decide
theorem unitEntry_rectLearn (r : Fin 16) : UnitEntry (Reg.rectLearn r) ⟨0x2710, 16, 0x0C, 1, .u8, 1, .wo, .no, 0, 0, 0x0, false⟩ := by unfold UnitEntry; revert r; decide
theorem unitEntry_assayReset (a : Fin 8) : UnitEntry (Reg.assayReset a) ⟨0x2720, 8, 0x08, 1, .u8, 1, .wo, .no, 0, 0, 0x0, false⟩ := by unfold UnitEntry; revert a; decide
theorem unitEntry_assayConfig (a : Fin 8) : UnitEntry (Reg.assayConfig a) ⟨0x2720, 8, 0x01, 1, .u32, 4, .rw, .no, 0, 0, 0x4, false⟩ := by unfold UnitEntry; revert a; decide
theorem unitEntry_queueEntries (q : Fin 16) : UnitEntry (Reg.queueEntries q) ⟨0x2610, 16, 0x01, 1, .u16, 2, .rw, .saved, 32, 2048, 0x0, false⟩ := by unfold UnitEntry; revert q; decide
theorem unitEntry_dumpClear : UnitEntry Reg.dumpClear ⟨0x2C42, 1, 0x02, 1, .u8, 1, .wo, .no, 0, 0, 0x0, false⟩ := by unfold UnitEntry; decide
theorem unitEntry_evtClear : UnitEntry Reg.evtClear ⟨0x2822, 1, 0x02, 1, .domain, 16, .wo, .no, 0, 0, 0x0, false⟩ := by unfold UnitEntry; decide
theorem unitEntry_canMode (c : Fin 2) : UnitEntry (Reg.canMode c) ⟨0x1020, 2, 0x01, 1, .u8, 1, .rw, .saved, 0, 2, 0x0, false⟩ := by unfold UnitEntry; revert c; decide

theorem rectLearn_index (r : Nat) : Reg.rectLearn r / 256 = 0x2710 + r := by unfold Reg.rectLearn; omega
theorem assayReset_index (a : Nat) : Reg.assayReset a / 256 = 0x2720 + a := by unfold Reg.assayReset; omega
theorem assayConfig_index (a : Nat) : Reg.assayConfig a / 256 = 0x2720 + a ∧ Reg.assayConfig a % 256 = 1 := by unfold Reg.assayConfig; omega
theorem queueEntries_index (q : Nat) : Reg.queueEntries q / 256 = 0x2610 + q := by unfold Reg.queueEntries; omega
theorem canMode_index (c : Nat) : Reg.canMode c / 256 = 0x1020 + c ∧ Reg.canMode c % 256 = 1 := by unfold Reg.canMode; omega

theorem actEntry_driveRecompute : actEntry s sess Reg.driveRecompute v b header = ok (recomputeDrive s) := rfl
theorem actEntry_evtClear : actEntry s sess Reg.evtClear v b header = ok (clearEvents s (BitVec.ofNat 128 v)) := rfl
theorem actEntry_dumpClear : actEntry s sess Reg.dumpClear v b header = ok (clearDump s) := rfl

theorem actEntry_rectLearn (r : Fin 16) : actEntry s sess (Reg.rectLearn r) v b header = ok (learnRect s r) := by
  have hnamed : Reg.rectLearn r ∉ [Reg.commitRequest, Reg.driveRecompute, Reg.diagClear, Reg.chanCreate, Reg.chanDestroy] := by revert r; decide
  simp only [List.mem_cons, List.not_mem_nil, or_false, not_or] at hnamed
  have hlast : 0x2710 + r.val ≤ 0x271F := by omega
  unfold actEntry
  simp [hnamed, rectLearn_index, hlast]

theorem actEntry_assayReset (a : Fin 8) : actEntry s sess (Reg.assayReset a) v b header = ok (resetAssay s a) := by
  have hnamed : Reg.assayReset a ∉ [Reg.commitRequest, Reg.driveRecompute, Reg.diagClear, Reg.chanCreate, Reg.chanDestroy] := by revert a; decide
  simp only [List.mem_cons, List.not_mem_nil, or_false, not_or] at hnamed
  have hrect : ¬ (0x2710 ≤ 0x2720 + a.val ∧ 0x2720 + a.val ≤ 0x271F) := by omega
  have hlast : 0x2720 + a.val ≤ 0x2727 := by omega
  unfold actEntry
  simp [hnamed, assayReset_index, hrect, hlast]

/-- R292: a new `assay.config` leaves of `assay.value` what the width of the CRC holds. -/
theorem setEntry_assayConfig (a : Fin 8) :
    setEntry s sess (Reg.assayConfig a) v = setAssayValue (s.setReg (Reg.assayConfig a) v) a (s.reg (Reg.assayValue a)) := by
  obtain ⟨hindex, hsub⟩ := assayConfig_index a
  have hcan : ¬ (0x2720 + a.val = 0x1020 ∨ 0x2720 + a.val = 0x1021) := by omega
  have hsession : ¬ (0x1041 ≤ 0x2720 + a.val ∧ 0x2720 + a.val ≤ 0x1048) := by omega
  have hevents : ¬ 0x2720 + a.val = 0x2820 := by omega
  have hassay : 0x2720 ≤ 0x2720 + a.val ∧ 0x2720 + a.val ≤ 0x2727 := by omega
  have hvalue : (s.setReg (Reg.assayConfig a) v).reg (Reg.assayValue a) = s.reg (Reg.assayValue a) :=
    reg_setReg_ne _ _ _ _ (by unfold Reg.assayValue Reg.assayConfig; omega)
  unfold setEntry
  simp only [hindex, hsub, hcan, hsession, hevents, hassay, if_false, if_true, and_self, Nat.add_sub_cancel_left, hvalue]

theorem setEntry_canMode (c : Fin 2) : setEntry s sess (Reg.canMode c) v = afterCan (s.setReg (Reg.canMode c) v) c 1 v := by
  obtain ⟨hindex, hsub⟩ := canMode_index c
  have hcan : 0x1020 + c.val = 0x1020 ∨ 0x1020 + c.val = 0x1021 := by omega
  unfold setEntry
  simp only [hindex, hsub, hcan, if_true, Nat.add_sub_cancel_left]

end

end Sys2Proof.Machine
end

section
/-!
SUPPORT. The clauses of O23 with the premise that they lack: where every module guards entries of its own alone (R372), each of the writes is accepted and has
its effect and nothing else (R119, R279, R291, R292, R296, R345, R387, R510).
-/

namespace Sys2Proof.Machine

open Sys2Proof.Laws

/-! ### The rules of the units (R279, R292, R344) -/

/-- R344: a mode is refused by no rule where the nominal rate does not exceed the data rate. -/
theorem unitRefuses_canMode {s : State} {c : Fin 2} (v : Nat) (hrates : s.reg (Reg.canNomKbps c) ≤ s.reg (Reg.canDataKbps c)) :
    unitRefuses s (Reg.canMode c) v = false := by
  obtain ⟨hindex, hsub⟩ := canMode_index c
  have hcan : 0x1020 + c.val = 0x1020 ∨ 0x1020 + c.val = 0x1021 := by omega
  have hnominal : 256 * (0x1020 + c.val) + 2 = Reg.canNomKbps c := by unfold Reg.canNomKbps; omega
  have hdata : 256 * (0x1020 + c.val) + 3 = Reg.canDataKbps c := by unfold Reg.canDataKbps; omega
  unfold unitRefuses canRefused
  simp only [hindex, hsub, Nat.add_sub_cancel_left, if_pos hcan]
  simp [hnominal, hdata, hrates]

/-- R279: a new size of an empty ring without leases is refused by no rule. -/
theorem unitRefuses_queueEntries {s : State} {q : Fin 16} {v : Nat} (hsize : ringSize v = true) (hempty : qCount s q = 0) (hleases : (qCtl s q).lessees = []) :
    unitRefuses s (Reg.queueEntries q) v = false := by
  have hcan : ¬ (0x2610 + q.val = 0x1020 ∨ 0x2610 + q.val = 0x1021) := by omega
  have hqueue : 0x2610 ≤ 0x2610 + q.val ∧ 0x2610 + q.val ≤ 0x261F := by omega
  unfold unitRefuses ringBusy
  simp only [queueEntries_index, hcan, hqueue, hsize, hempty, hleases, and_self, if_false, if_true, Nat.add_sub_cancel_left]
  rfl

/-- R279: the sizes 32 to 2,048 are those that a ring may take. -/
theorem ringSize_pow : ∀ k, k < 7 → ringSize (32 * 2 ^ k) = true := by decide

theorem unitRefuses_assay {s : State} {key v : Nat} (a : Fin 8) (hindex : key / 256 = 0x2720 + a.val) : unitRefuses s key v = assayRefused s a (key % 256) v := by
  have hcan : ¬ (0x2720 + a.val = 0x1020 ∨ 0x2720 + a.val = 0x1021) := by omega
  have hqueue : ¬ (0x2610 ≤ 0x2720 + a.val ∧ 0x2720 + a.val ≤ 0x261F) := by omega
  have hassay : 0x2720 ≤ 0x2720 + a.val ∧ 0x2720 + a.val ≤ 0x2727 := by omega
  unfold unitRefuses
  simp only [hindex, hcan, hqueue, hassay, and_self, if_false, if_true, Nat.add_sub_cancel_left]

/-- R292: a reset is refused by no rule. -/
theorem unitRefuses_assayReset (s : State) (a : Fin 8) (v : Nat) : unitRefuses s (Reg.assayReset a) v = false := by
  have hsub : Reg.assayReset a % 256 = 8 := by unfold Reg.assayReset; omega
  rw [unitRefuses_assay a (assayReset_index a), hsub]
  unfold assayRefused
  simp

theorem heldBits_assayConfig (a : Fin 8) (v : Nat) : heldBits (Reg.assayConfig a) v = v &&& 0xFF0E := by
  obtain ⟨hindex, hsub⟩ := assayConfig_index a
  have hnamed : Reg.assayConfig a ∉ [Reg.pwrArrayMask, Reg.scanPhaseOrder, Reg.scanStagger, Reg.adcInjConfig] := by revert a; decide
  have hassay : 0x2720 ≤ 0x2720 + a.val ∧ 0x2720 + a.val ≤ 0x2727 := by omega
  simp only [List.mem_cons, List.not_mem_nil, or_false, not_or] at hnamed
  unfold heldBits
  simp only [hnamed, hindex, hsub, hassay, and_self, if_false, if_true]

/-- R292: a configuration is refused by no rule while RUN is 0, or where it clears RUN. -/
theorem unitRefuses_assayConfig {s : State} {a : Fin 8} {v : Nat} (hrun : bitAt (s.reg (Reg.assayConfig a)) 1 = false ∨ bitAt v 1 = false) :
    unitRefuses s (Reg.assayConfig a) (heldBits (Reg.assayConfig a) v) = false := by
  obtain ⟨hindex, hsub⟩ := assayConfig_index a
  rw [unitRefuses_assay a hindex, hsub, heldBits_assayConfig]
  unfold assayRefused
  rcases hrun with h | h
  · simp [h]
  · have hcleared : bitAt (v &&& 0xFF0E) 1 = false := by unfold bitAt at h ⊢; simp [Nat.testBit_and, h]
    simp [hcleared]

/-- R7: the bits that `assay.config` keeps of a valid value are valid. -/
theorem inRange_assayConfig {a : Fin 8} {row : Row} {v : Nat} (htype : row.type = .u32) (hbounds : row.min = 0 ∧ row.max = 0)
    (h : row.inRange (Reg.assayConfig a) v = true) : row.inRange (Reg.assayConfig a) (v &&& 0xFF0E) = true := by
  obtain ⟨hindex, hsub⟩ := assayConfig_index a
  have hsource : bits (v &&& 0xFF0E) 15 8 = bits v 15 8 := by
    have hmask : 0xFF0E / 2 ^ 8 % 2 ^ 8 = 2 ^ 8 - 1 := rfl
    unfold bits
    rw [Nat.and_div_two_pow, Nat.and_mod_two_pow, hmask, Nat.and_two_pow_sub_one_eq_mod, Nat.mod_mod]
  have hless : v &&& 0xFF0E ≤ v := Nat.and_le_left
  have hnamed : Reg.assayConfig a ≠ Reg.diagProbeInterval := by clear h hindex hsub; revert a; decide
  have hlist (x : Nat) : listedOk (Reg.assayConfig a) x = decide (bits x 15 8 ≤ 5) := by
    have hcan : ¬ (0x2720 + a.val = 0x1020) ∧ ¬ (0x2720 + a.val = 0x1021) := by omega
    have hassay : 0x2720 ≤ 0x2720 + a.val ∧ 0x2720 + a.val ≤ 0x2727 := by omega
    unfold listedOk
    simp [hnamed, hindex, hsub, hcan, hassay]
  unfold Row.inRange Row.bounds at h ⊢
  simp [htype, hbounds, hlist, hsource, EntryType.isDomain, EntryType.signed, EntryType.bounds] at h ⊢
  omega

theorem heldBits_queueEntries (q : Fin 16) (v : Nat) : heldBits (Reg.queueEntries q) v = v :=
  heldBits_whole (by revert q; decide) (by rw [queueEntries_index]; omega)

theorem heldOnly_queueEntries (q : Fin 16) : HeldOnly (Reg.queueEntries q) := by unfold HeldOnly; revert q; decide

theorem heldBits_canMode (c : Fin 2) (v : Nat) : heldBits (Reg.canMode c) v = v :=
  heldBits_whole (by revert c; decide) (by rw [(canMode_index c).1]; omega)

/-- A value of up to 50 bytes fits a frame of every transport (R324). -/
theorem bytesLE_fits {n : Nat} (v : Nat) (h : n ≤ 50) : (bytesLE n v).length ≤ 50 := Nat.le_trans (Nat.le_of_eq (bytesLE_length n v)) h

/-! ### Plain effects of the units -/

theorem recomputeDrive_plain : PlainEffect recomputeDrive where
  sessions := fun s _ _ => by unfold recomputeDrive markInternal setSess; dsimp only; split <;> rfl
  saving := fun s => by unfold recomputeDrive markInternal; split <;> rfl
  cal := fun s => by unfold recomputeDrive markInternal; split <;> rfl
  tolls := fun s => by unfold recomputeDrive markInternal; split <;> rfl

theorem learnRect_plain (r : Nat) : PlainEffect (learnRect · r) := ⟨fun _ _ _ => rfl, fun _ => rfl, fun _ => rfl, fun _ => rfl⟩

theorem resetAssay_plain (a : Nat) : PlainEffect (resetAssay · a) := ⟨fun _ _ _ => rfl, fun _ => rfl, fun _ => rfl, fun _ => rfl⟩

theorem configureAssay_plain (a v : Nat) : PlainEffect (fun m => setAssayValue (m.setReg (Reg.assayConfig a) v) a (m.reg (Reg.assayValue a))) :=
  ⟨fun _ _ _ => rfl, fun _ => rfl, fun _ => rfl, fun _ => rfl⟩

theorem id_plain : PlainEffect id := ⟨fun _ _ _ => rfl, fun _ => rfl, fun _ => rfl, fun _ => rfl⟩

/-- R510: the dump removed. -/
def dropDump (m : State) : State := { m.setReg Reg.dumpSeq 0 with dump := { m.dump with length := 0 } }

theorem dropDump_plain : PlainEffect dropDump := ⟨fun _ _ _ => rfl, fun _ => rfl, fun _ => rfl, fun _ => rfl⟩

theorem clearDump_eq {s : State} (h : s.dump.writing = false) : clearDump s = dropDump s := by
  unfold clearDump
  rw [if_neg (by simp [h])]
  rfl

/-- R119: every drive tile is marked for the frame being prepared, or past the admission point for the one after. -/
theorem recomputeDrive_eq (m : State) : recomputeDrive m =
    { m with pipe := if m.scan.admissionPassed then { m.pipe with nextInternal := BitVec.allOnes 4096 } else { m.pipe with driveDirty := BitVec.allOnes 4096 } } := by
  have hall (x : TileSet) : x ||| allTiles = BitVec.allOnes 4096 := BitVec.or_allOnes
  unfold recomputeDrive markInternal
  simp only [hall]
  split <;> rfl

theorem learnRect_eq (m : State) (r : Nat) :
    learnRect m r = { m with lamp := { m.lamp with learn := if r ∈ m.lamp.learn then m.lamp.learn else m.lamp.learn ++ [r] } } := by
  unfold learnRect
  simp only [List.contains_iff_mem]

/-- R387: clearing latched bits is one of the changes that events make. -/
theorem after_clearEvents (s : State) (mask : BitVec 128) : After s [] (clearEvents s mask) := ⟨upTo_events s _ id, (After.refl s).2⟩

/-- R345: a new mode of a controller, apart from its register, is one of the changes that frames on their way to the host make. -/
theorem after_afterCan_mode (s : State) (c v : Nat) : After s [] (afterCan s c 1 v) := by
  have hmode : afterCan s c 1 v = releaseAll (canDrain (setCan s c { canOf s c with mode := v, busOff := false }) c) c := rfl
  have hregs : (afterCan s c 1 v).regs = s.regs := by rw [hmode, regs_releaseAll, regs_canDrain]; rfl
  refine ⟨?_, counted_congr (After.refl s).2 hregs⟩
  rw [hmode]
  exact ((upTo_setCan _ _ _).trans (upTo_canDrain _ _)).trans (upTo_releaseAll _ _)

theorem canPart_afterCan_mode (s : State) (c : Fin 2) (v : Nat) : canPart c (afterCan s c 1 v) = (v, false) := by
  have hmode : afterCan s c 1 v = releaseAll (canDrain (setCan s c { canOf s c with mode := v, busOff := false }) c) c := rfl
  rw [hmode, canPart_releaseAll, canPart_canDrain]
  unfold canPart
  rw [canOf_setCan _ _ _ c.isLt]

/-! ### The clauses -/

/-- What O23 says of a writer and a state. -/
def UnitRegisterWrites (w : Writer) (r q : Fin 16) (a : Fin 8) (c : Fin 2) (mode : Byte) (v : Word) (n : Half) (mask : BitVec 128) (s : State) : Prop :=
  let tiles (m : State) : State := { m with pipe := if m.scan.admissionPassed then { m.pipe with nextInternal := BitVec.allOnes 4096 } else { m.pipe with driveDirty := BitVec.allOnes 4096 } }
  let learn (m : State) : State := { m with lamp := { m.lamp with learn := if r.val ∈ m.lamp.learn then m.lamp.learn else m.lamp.learn ++ [r.val] } }
  let wrote (i : Instr) (f : State → State) : Prop := ∃ t, exec i s = .next t ∧ Wrote w f [] s t
  wrote (.driveRecompute w) tiles ∧ wrote (.rectLearn w r) learn ∧
  let value (m : State) (x : Nat) : State := m.setReg (Reg.assayValue a) (x % 2 ^ (crcAlg (bits (m.reg (Reg.assayConfig a)) 3 2)).width)
  wrote (.assayReset w a) (fun m => (value m (m.reg (Reg.assayInit a))).setReg (Reg.assayCount a) 0) ∧
  (Valid s (Reg.assayConfig a) v.toNat → bitAt (s.reg (Reg.assayConfig a)) 1 = false ∨ bitAt v.toNat 1 = false →
    wrote (.assayConfigWrite w a v) (fun m => value (m.setReg (Reg.assayConfig a) (heldBits (Reg.assayConfig a) v.toNat)) (m.reg (Reg.assayValue a)))) ∧
  (Valid s (Reg.queueEntries q) n.toNat → (∃ k, k < 7 ∧ n.toNat = 32 * 2 ^ k) → qCount s q = 0 → (qCtl s q).lessees = [] →
    wrote (.queueEntriesWrite w q n) (fun m => m.setReg (Reg.queueEntries q) n.toNat)) ∧
  (s.dump.writing = false → wrote (.dumpClear w) (fun m => { m.setReg Reg.dumpSeq 0 with dump := { m.dump with length := 0 } })) ∧
  (∃ t, exec (.evtClear w mask) s = .next t ∧ Wrote w id [] s t ∧ ∀ k, k < 128 → t.events.status.getLsbD k = (s.events.status.getLsbD k && !mask.getLsbD k)) ∧
  (Valid s (Reg.canMode c) mode.toNat → s.reg (Reg.canNomKbps c) ≤ s.reg (Reg.canDataKbps c) →
    ∃ t, exec (.canModeWrite w c mode) s = .next t ∧ Wrote w (fun m => m.setReg (Reg.canMode c) mode.toNat) [] s t ∧ (canOf t c).mode = mode.toNat ∧ (canOf t c).busOff = false)

theorem writesOfUnitRegisters_iff : Obligations.WritesOfUnitRegisters ↔
    ∀ w r q a c mode v n mask s, MayWrite w false s → UnitRegisterWrites w r q a c mode v n mask s := Iff.rfl

section
variable {w : Writer} {s : State} (hm : MayWrite w false s) (hown : ModulesGuardOwn s)
include hm hown

theorem driveRecompute_wrote : Wrote w recomputeDrive [] s (writeBy w false Reg.driveRecompute [1] s) :=
  writeBy_after hm recomputeDrive_plain (fun u => After.refl _) (by decide)
    (unitEntry_driveRecompute.written hm hown rfl (by decide) rfl)

theorem rectLearn_wrote (r : Fin 16) : Wrote w (learnRect · r) [] s (writeBy w false (Reg.rectLearn r) [1] s) := by
  have hrange : Row.inRange ⟨0x2710, 16, 0x0C, 1, .u8, 1, .wo, .no, 0, 0, 0x0, false⟩ (Reg.rectLearn r) (heldBits (Reg.rectLearn r) (natLE [1])) = true := by revert r; decide
  have hrules : unitRefuses s (Reg.rectLearn r) (heldBits (Reg.rectLearn r) (natLE [1])) = false := by
    have hunits : ¬ (0x2710 + r.val = 0x1020 ∨ 0x2710 + r.val = 0x1021) ∧ ¬ (0x2610 ≤ 0x2710 + r.val ∧ 0x2710 + r.val ≤ 0x261F) ∧
        ¬ (0x2720 ≤ 0x2710 + r.val ∧ 0x2710 + r.val ≤ 0x2727) := by omega
    unfold unitRefuses
    simp only [rectLearn_index, hunits, if_false]
  refine writeBy_after hm (learnRect_plain r) (fun u => After.refl _) (by decide) fun header => ?_
  exact ((unitEntry_rectLearn r).written hm hown rfl hrange hrules header).trans (actEntry_rectLearn _ _ _ _ _ r)

theorem assayReset_wrote (a : Fin 8) : Wrote w (resetAssay · a) [] s (writeBy w false (Reg.assayReset a) [1] s) := by
  have hrange : Row.inRange ⟨0x2720, 8, 0x08, 1, .u8, 1, .wo, .no, 0, 0, 0x0, false⟩ (Reg.assayReset a) (heldBits (Reg.assayReset a) (natLE [1])) = true := by revert a; decide
  refine writeBy_after hm (resetAssay_plain a) (fun u => After.refl _) (by decide) fun header => ?_
  exact ((unitEntry_assayReset a).written hm hown rfl hrange (unitRefuses_assayReset s a _) header).trans (actEntry_assayReset _ _ _ _ _ a)

theorem assayConfig_wrote {a : Fin 8} {v : Word} (hv : Valid s (Reg.assayConfig a) v.toNat)
    (hrun : bitAt (s.reg (Reg.assayConfig a)) 1 = false ∨ bitAt v.toNat 1 = false) :
    Wrote w (fun m => setAssayValue (m.setReg (Reg.assayConfig a) (heldBits (Reg.assayConfig a) v.toNat)) a (m.reg (Reg.assayValue a))) [] s
      (writeBy w false (Reg.assayConfig a) (bytesLE 4 v.toNat) s) := by
  obtain ⟨hbooted, _⟩ := id hm
  have hread : natLE (bytesLE 4 v.toNat) = v.toNat := natLE_bytesLE 4 _ v.isLt
  have hrange := inRange_assayConfig rfl ⟨rfl, rfl⟩ ((unitEntry_assayConfig a).inRange hbooted hv)
  rw [← heldBits_assayConfig] at hrange
  refine writeBy_after hm (configureAssay_plain a _) (fun u => After.refl _) (bytesLE_fits _ (by decide)) fun header => ?_
  refine ((unitEntry_assayConfig a).written hm hown (bytesLE_length 4 _) (by rwa [hread]) (by rw [hread]; exact unitRefuses_assayConfig hrun) header).trans ?_
  rw [hread]
  exact congrArg ok (setEntry_assayConfig _ _ _ a)

theorem queueEntries_wrote {q : Fin 16} {n : Half} (hv : Valid s (Reg.queueEntries q) n.toNat) (hsize : ∃ k, k < 7 ∧ n.toNat = 32 * 2 ^ k)
    (hempty : qCount s q = 0) (hleases : (qCtl s q).lessees = []) :
    Wrote w (fun m => m.setReg (Reg.queueEntries q) n.toNat) [] s (writeBy w false (Reg.queueEntries q) (bytesLE 2 n.toNat) s) := by
  obtain ⟨hbooted, _⟩ := id hm
  have hread : natLE (bytesLE 2 n.toNat) = n.toNat := natLE_bytesLE 2 _ n.isLt
  have hwhole := heldBits_queueEntries q n.toNat
  have hring : ringSize n.toNat = true := by
    obtain ⟨k, hk, hn⟩ := hsize
    rw [hn]
    exact ringSize_pow k hk
  obtain ⟨_, hmodules⟩ := id hv
  refine writeBy_after hm (setReg_plain _ _) (fun u => After.refl _) (bytesLE_fits _ (by decide)) fun header => ?_
  refine ((unitEntry_queueEntries q).written hm hown (bytesLE_length 2 _) (by rw [hread, hwhole]; exact (unitEntry_queueEntries q).inRange hbooted hv)
    (by rw [hread, hwhole]; exact unitRefuses_queueEntries hring hempty hleases) header).trans ?_
  rw [hread, hwhole]
  exact congrArg ok (setEntry_heldOnly _ _ (heldOnly_queueEntries q) (by simpa using hmodules))

theorem dumpClear_wrote (hwriting : s.dump.writing = false) : Wrote w dropDump [] s (writeBy w false Reg.dumpClear [1] s) := by
  have hidle : (writerState w s).dump.writing = false := (writerState_congr (fun m => m.dump.writing) (fun _ _ _ => rfl) (fun _ => rfl) w s).trans hwriting
  refine writeBy_after hm dropDump_plain (fun u => After.refl _) (by decide) fun header => ?_
  refine (unitEntry_dumpClear.written hm hown rfl (by decide) rfl header).trans ?_
  exact congrArg ok (clearDump_eq hidle)

theorem evtClear_wrote (mask : BitVec 128) : Wrote w id [] s (writeBy w false Reg.evtClear (bytesLE 16 mask.toNat) s) ∧
    (writeBy w false Reg.evtClear (bytesLE 16 mask.toNat) s).events.status = s.events.status &&& ~~~ mask := by
  have hread : natLE (bytesLE 16 mask.toNat) = mask.toNat := natLE_bytesLE 16 _ mask.isLt
  have hwhole : heldBits Reg.evtClear mask.toNat = mask.toNat := heldBits_whole (by decide) (by decide)
  have hlen : (bytesLE 16 mask.toNat).length ≤ 50 := bytesLE_fits _ (by decide)
  have hw (header : List Byte) : writeEntry (writerState w s) (writerSession w) false Reg.evtClear (bytesLE 16 mask.toNat) header =
      (0, [], clearEvents (writerState w s) mask) := by
    refine (unitEntry_evtClear.written hm hown (bytesLE_length 16 _) rfl rfl header).trans ?_
    rw [hread, hwhole]
    exact congrArg (fun x => ok (clearEvents (writerState w s) x)) (show BitVec.ofNat 128 mask.toNat = mask by simp)
  have hg (u : State) : After (id u) [] (clearEvents u mask) := after_clearEvents u mask
  refine ⟨writeBy_after hm id_plain hg hlen hw, ?_⟩
  refine (congrArg Events.status (view_writeBy hm id_plain hg hlen hw events_sendFrame (fun _ _ _ => rfl))).trans ?_
  exact congrArg (fun e : Events => e.status &&& ~~~ mask) (writerState_congr State.events (fun _ _ _ => rfl) (fun _ => rfl) w s)

theorem canMode_wrote {c : Fin 2} {mode : Byte} (hv : Valid s (Reg.canMode c) mode.toNat) (hrates : s.reg (Reg.canNomKbps c) ≤ s.reg (Reg.canDataKbps c)) :
    Wrote w (fun m => m.setReg (Reg.canMode c) mode.toNat) [] s (writeBy w false (Reg.canMode c) [mode] s) ∧
    canPart c (writeBy w false (Reg.canMode c) [mode] s) = (mode.toNat, false) := by
  obtain ⟨hbooted, _⟩ := id hm
  have hread : natLE [mode] = mode.toNat := rfl
  have hwhole := heldBits_canMode c mode.toNat
  have hlen : [mode].length ≤ 50 := (by decide : 1 ≤ 50)
  have hw (header : List Byte) : writeEntry (writerState w s) (writerSession w) false (Reg.canMode c) [mode] header =
      (0, [], afterCan ((writerState w s).setReg (Reg.canMode c) mode.toNat) c 1 mode.toNat) := by
    refine ((unitEntry_canMode c).written hm hown rfl (by rw [hread, hwhole]; exact (unitEntry_canMode c).inRange hbooted hv) (unitRefuses_canMode _ hrates) header).trans ?_
    rw [hread, hwhole]
    exact congrArg ok (setEntry_canMode _ _ _ c)
  have hg (u : State) : After (u.setReg (Reg.canMode c) mode.toNat) [] (afterCan (u.setReg (Reg.canMode c) mode.toNat) c 1 mode.toNat) := after_afterCan_mode _ _ _
  refine ⟨writeBy_after hm (setReg_plain _ _) hg hlen hw, ?_⟩
  exact (view_writeBy hm (setReg_plain _ _) hg hlen hw (canPart_sendFrame c) (fun _ _ _ => rfl)).trans (canPart_afterCan_mode _ c _)

/-- R119, R279, R291, R292, R296, R345, R387, R510: with the premise that it lacks, every clause of O23 holds. -/
theorem unitRegisterWrites_of_modulesGuardOwn (r q : Fin 16) (a : Fin 8) (c : Fin 2) (mode : Byte) (v : Word) (n : Half) (mask : BitVec 128) :
    UnitRegisterWrites w r q a c mode v n mask s := by
  refine ⟨⟨_, rfl, ?_⟩, ⟨_, rfl, ?_⟩, ⟨_, rfl, assayReset_wrote hm hown a⟩, fun hv hrun => ⟨_, rfl, assayConfig_wrote hm hown hv hrun⟩,
    fun hv hsize hempty hleases => ⟨_, rfl, queueEntries_wrote hm hown hv hsize hempty hleases⟩, fun hwriting => ⟨_, rfl, dumpClear_wrote hm hown hwriting⟩,
    ⟨_, rfl, ?_⟩, fun hv hrates => ⟨_, rfl, ?_⟩⟩
  · exact funext recomputeDrive_eq ▸ driveRecompute_wrote hm hown
  · exact funext (fun m => learnRect_eq m r) ▸ rectLearn_wrote hm hown r
  · obtain ⟨hwrote, hstatus⟩ := evtClear_wrote hm hown mask
    refine ⟨hwrote, fun k hk => ?_⟩
    rw [hstatus]
    simp [hk]
  · obtain ⟨hwrote, hpart⟩ := canMode_wrote hm hown hv hrates
    exact ⟨hwrote, congrArg Prod.fst hpart, congrArg Prod.snd hpart⟩

end

theorem witness_unitRegisterWrites : UnitRegisterWrites (.host Tests.hdr) 15 15 7 1 2 3 2048 1 Tests.host :=
  unitRegisterWrites_of_modulesGuardOwn Tests.hostMayWrite0 (fun _ hm => nomatch hm) 15 15 7 1 2 3 2048 1

end Sys2Proof.Machine
end

section
/-!
SUPPORT. A session's write that needs the service level, by a session without it, is answered with LOCKED and changes no unit (R335, R540). A module whose list
of guarded keys names an entry of the tables so refutes O23, whose premises leave the modules open.
-/

namespace Sys2Proof.Machine

open Sys2Proof.Laws

/-! ### Writes answered with LOCKED (R335, R540) -/

/-- R335, R540: the keyholder without the service level does not pass the checks of a write that needs it. -/
theorem writeGate_locked {s : State} {sess key : Nat} {row : Row} {b : Option (List Byte)} (hacc : row.access = .rw ∨ row.access = .wo) (hsess : sess ≠ 0)
    (hholds : s.kdp.keyholder = sess) (hneeds : needsService s key b = true) (hservice : (sessOf s sess).service = false) :
    writeGate s sess false row key b = (6, []) := by
  have hclass : (row.access != .rw && row.access != .wo) = false := by rcases hacc with h | h <;> rw [h] <;> rfl
  unfold writeGate
  simp [hclass, hsess, hholds, hneeds, hservice]

section
variable (s : State) (n : Nat)

theorem rowFor_served (k : Nat) : rowFor (served s n) k = rowFor s k := by unfold served activity; split <;> rfl
theorem needsService_served (k : Nat) (b : Option (List Byte)) : needsService (served s n) k b = needsService s k b := by unfold served activity; split <;> rfl
theorem pipe_served : (served s n).pipe = s.pipe := by unfold served activity; split <;> rfl

end

/-- R335: a WRITE that needs the service level, the next request of a keyholder without it, is answered with LOCKED and nothing else happens. -/
theorem hostWrite_locked {h : Hdr} {s : State} {key : Nat} {b : List Byte} {row : Row} (hn : NextRequest h s) (hholds : HoldsKey h s)
    (hrow : rowFor s key = some row) (hacc : row.access = .rw ∨ row.access = .wo) (hneeds : needsService s key (some b) = true)
    (hservice : (sessOf s h.session.toNat).service = false) (hfit : b.length ≤ frameLimit h.transport) :
    hostRequest (requestOf h 2 key 0 b) s = answerTo h 2 key 6 [] (served s h.session.toNat) := by
  have ht := hn.inTurn
  have hfirst := ht.first
  have hgate : writeGate (served s h.session.toNat) h.session.toNat false row key (some b) = (6, []) := by
    refine writeGate_locked hacc (by omega) ((kdp_served s _).2.1.trans hholds) ((needsService_served s _ _ _).trans hneeds) ?_
    rw [sessOf_served ⟨ht.first, ht.last⟩]
    exact hservice
  have habandon : abandonTransfer (served s h.session.toNat) h.session.toNat = served s h.session.toNat := by
    unfold abandonTransfer
    simp only [hn.transfer_served]
  have hserve : serve (served s h.session.toNat) (requestOf h 2 key 0 b) = (6, [], served s h.session.toNat) := by
    have hflag : bitAt 0 0 = false := by decide
    simp [serve, serveWrite, requestOf, habandon, hflag, rowFor_served, hrow, hgate]
  rw [hostRequest_inTurn ht 2 key 0 hfit]
  exact execute_answers hserve (by decide) (by decide) (answerWaits_served _ ((kdp_served s _).1.trans hn.saving) (congrArg (fun c => c.imp.state) (kdp_served s _).2.2)
    (Nat.le_of_eq (by unfold openFills; rw [tolls_served])))

theorem rest_answerTo (h : Hdr) (svc key status : Nat) (p : List Byte) (m : State) : rest (answerTo h svc key status p m) = rest m := by
  unfold answerTo respond
  rw [rest_sendFrame, rest_setSess, rest_setSess]

/-! ### The counterexample -/

/-- A session that holds the key, without the service level, with a module whose list of guarded keys names `drive.recompute`. `declareModule` puts no such key
into a list (R371, R372), but the premises of O23 speak of every state. -/
def recomputeGuarded : State :=
  { setSess Tests.host 1 { sessOf Tests.host 1 with service := false } with modules := [⟨4, [], [Reg.driveRecompute]⟩] }

theorem recomputeGuarded_mayWrite : MayWrite (.host Tests.hdr) false recomputeGuarded := ⟨by decide, by unfold NextRequest; decide, by decide, nofun⟩

theorem exec_driveRecompute_host (h : Hdr) (s : State) : exec (.driveRecompute (.host h)) s = .next (hostRequest (requestOf h 2 Reg.driveRecompute 0 [1]) s) := rfl

/-- The write of `drive.recompute` is answered with LOCKED. -/
theorem exec_driveRecompute_recomputeGuarded :
    exec (.driveRecompute (.host Tests.hdr)) recomputeGuarded = .next (answerTo Tests.hdr 2 Reg.driveRecompute 6 [] (served recomputeGuarded 1)) := by
  obtain ⟨_, hnext, hholds, _⟩ := recomputeGuarded_mayWrite
  rw [exec_driveRecompute_host, hostWrite_locked (row := ⟨0x2200, 1, 0x0D, 1, .u8, 1, .wo, .no, 0, 0, 0x0, false⟩) hnext hholds (by decide) (.inr rfl) (by decide) (by decide) (by decide)]
  rfl

/-- Refutes O23: its premises do not exclude a module whose list of guarded keys names an entry of the tables. With `drive.recompute` in such a list, a
keyholder without the service level is answered with LOCKED (R335) and no drive tile is marked. With the premise `ModulesGuardOwn` every clause holds
(`unitRegisterWrites_of_modulesGuardOwn`). -/
theorem not_writesOfUnitRegisters : ¬ Obligations.WritesOfUnitRegisters := by
  unfold Obligations.WritesOfUnitRegisters
  intro hall
  obtain ⟨⟨t, hexec, ⟨hframes, _⟩, _⟩, _⟩ := hall (.host Tests.hdr) 0 0 0 0 0 0 0 0 recomputeGuarded recomputeGuarded_mayWrite
  rw [exec_driveRecompute_recomputeGuarded] at hexec
  obtain rfl := Host.Outcome.next.inj hexec
  have hmarked : BitVec.allOnes 4096 = (rest (answerTo Tests.hdr 2 Reg.driveRecompute 6 [] (served recomputeGuarded 1))).pipe.driveDirty :=
    (congrArg (fun r => r.pipe.driveDirty) hframes.rest).symm
  rw [rest_answerTo] at hmarked
  have hclean : (rest (served recomputeGuarded 1)).pipe.driveDirty = 0 := congrArg Pipeline.driveDirty (pipe_served recomputeGuarded 1)
  simpa using congrArg (fun tiles => BitVec.getLsbD tiles 0) (hmarked.trans hclean)

end Sys2Proof.Machine
end

section
/-!
SUPPORT. Transaction packets of the lanes in their turn (R183, R186, R229 to R241): what reads, notices and events keep, which packets the device
processes, and what each type does.
-/

namespace Sys2Proof.Machine

open Sys2Proof.Laws

/-! ### What reads, notices and events keep -/

/-- What the units that read tiles, send notices or raise events do not touch: channels, latches, tiles to be composed, Q9 and the packets that wait. -/
structure IngestPart where
  chans : Channels
  latches : Latches
  composeDirty : TileSet
  notices : QueueCtl
  delivered : List Delivered

/-- That part of a state. -/
def ingestPart (s : State) : IngestPart := ⟨s.chans, s.latches, s.pipe.composeDirty, qCtl s 9, s.lanes.delivered⟩

theorem delivered_of_ingestPart {s t : State} (h : ingestPart t = ingestPart s) : t.lanes.delivered = s.lanes.delivered :=
  congrArg IngestPart.delivered h

theorem ingestPart_of_upTo {s t : State} (h : UpToEvents s t) : ingestPart t = ingestPart s := by
  have hchans : t.chans = s.chans := congrArg Rest.chans h.rest
  have hlatches : t.latches = s.latches := congrArg Rest.latches h.rest
  have hdirty : t.pipe.composeDirty = s.pipe.composeDirty := congrArg (fun r => r.pipe.composeDirty) h.rest
  have hqueue : qCtl t 9 = qCtl s 9 := h.queues 9 (by decide) (by decide) (by decide)
  have hdelivered : t.lanes.delivered = s.lanes.delivered := by
    have hstill := congrArg Lanes.delivered h.lanes
    exact hstill
  unfold ingestPart
  rw [hchans, hlatches, hdirty, hqueue, hdelivered]

theorem ingestPart_foldl {α : Type} {f : State → α → State} (h : ∀ s a, ingestPart (f s a) = ingestPart s) (l : List α) (s : State) :
    ingestPart (l.foldl f s) = ingestPart s :=
  List.foldlRecOn (motive := fun t => ingestPart t = ingestPart s) l f rfl (fun t ht a _ => (h t a).trans ht)

@[simp] theorem ingestPart_setReg (s : State) (k v : Nat) : ingestPart (s.setReg k v) = ingestPart s := rfl
@[simp] theorem ingestPart_bump (s : State) (k : Nat) : ingestPart (s.bump k) = ingestPart s := rfl
@[simp] theorem ingestPart_spend (s : State) (c n : Nat) : ingestPart (spend s c n) = ingestPart s := rfl
@[simp] theorem ingestPart_setTolls (s : State) (x : Tolls) : ingestPart { s with tolls := x } = ingestPart s := rfl

theorem ingestPart_raise {e : Nat} (he : e < 128) (b : List Byte) (s : State) : ingestPart (raise e b s) = ingestPart s :=
  ingestPart_of_upTo (upTo_raise e b s he)

@[simp] theorem ingestPart_storeBytes (b : List Byte) : ∀ (s : State) (a : Nat), ingestPart (storeBytes s a b) = ingestPart s := by
  induction b with
  | nil => intros; rfl
  | cons v t ih => intro s a; rw [storeBytes, ih]; rfl

@[simp] theorem ingestPart_stallClass (s : State) (c : Nat) : ingestPart (stallClass s c) = ingestPart s := by
  unfold stallClass
  dsimp only
  split
  · rfl
  · rw [ingestPart_raise (by decide)]; rfl

@[simp] theorem ingestPart_pay (s : State) (c n : Nat) : ingestPart (pay s c n).2 = ingestPart s := by
  unfold pay
  dsimp only
  split <;> simp

@[simp] theorem ingestPart_owe (c n : Nat) (r : Option FillReport) (s : State) : ingestPart (owe c n r s) = ingestPart s := by
  unfold owe
  dsimp only
  split <;> simp

@[simp] theorem ingestPart_snoop (s : State) (point handle : Nat) (b : List Byte) : ingestPart (snoop s point handle b) = ingestPart s := by
  have habsorb (st : State) (a : Nat) : ingestPart (assayAbsorb st a b) = ingestPart st := by
    unfold assayAbsorb
    dsimp only
    split <;> simp
  unfold snoop
  refine ingestPart_foldl (fun st a => ?_) _ s
  dsimp only
  split
  · exact habsorb st a
  · rfl

theorem ingestPart_eccFind (s : State) (x : EccFinding) : ingestPart (eccFind s x) = ingestPart s := by
  unfold eccFind
  dsimp only
  split
  · split
    · rfl
    · rw [ingestPart_raise (by decide)]; rfl
  · split
    · rfl
    · rw [ingestPart_raise (by decide)]; rfl

@[simp] theorem ingestPart_eccFindAll (s : State) (l : List EccFinding) : ingestPart (eccFindAll s l) = ingestPart s :=
  ingestPart_foldl ingestPart_eccFind l s

@[simp] theorem ingestPart_tileFail (s : State) (unit : Nat) (r : TileRef) : ingestPart (tileFail s unit r) = ingestPart s := by
  unfold tileFail failTile
  dsimp only
  split
  · rfl
  · rw [ingestPart_raise (by decide)]; rfl

@[simp] theorem ingestPart_regenerate (s : State) (unit : Nat) (r : TileRef) : ingestPart (regenerate s unit r) = ingestPart s := by
  unfold regenerate
  dsimp only
  rw [ingestPart_raise (by decide)]
  simp

@[simp] theorem ingestPart_verifyTile (s : State) (unit : Nat) (r : TileRef) (again : List Nat) :
    ingestPart (verifyTile s unit r again).2 = ingestPart s := by
  have hreread (c : Nat) : ingestPart (rereadTile c r s) = ingestPart s := ingestPart_owe _ _ _ _
  unfold verifyTile verifyAs
  split
  · simp [hreread]
  · split
    · simp
    · split
      · split <;> simp [hreread]
      · simp [hreread]

theorem ingestPart_readTiles (c : Channel) (tr : List Nat) (l : List Nat) : ∀ (out : List (List Byte × Nat)) (s : State),
    ingestPart (readTiles c tr l out s).2.2 = ingestPart s := by
  induction l with
  | nil => intros; rfl
  | cons i l ih =>
    intro out s
    unfold readTiles
    dsimp only
    generalize (if c.type = 1 then TileRef.surface c i ((sideState s (.surface c i 0) + bits (sideState s (.surface c i 0)) 1 1) % 2) else .capture c i) = ref
    split
    · rw [ih, ingestPart_verifyTile]
    · exact ingestPart_verifyTile _ _ _ _

theorem ingestPart_landTile (c : Channel) (r : RegionFields) (payload : List Byte) (tr : List Nat) (q : Nat × State) (i : Nat) :
    ingestPart (landTile c r payload tr q i).2 = ingestPart q.2 := by
  unfold landTile setSideState writeTile
  dsimp only
  simp only [ingestPart_storeBytes]
  split
  · rfl
  · split <;> split <;> exact ingestPart_verifyTile _ _ _ _

theorem ingestPart_landTiles (c : Channel) (r : RegionFields) (payload : List Byte) (tr : List Nat) (l : List Nat) (q : Nat × State) :
    ingestPart (l.foldl (landTile c r payload tr) q).2 = ingestPart q.2 :=
  List.foldlRecOn (motive := fun x => ingestPart x.2 = ingestPart q.2) l _ rfl (fun x hx i _ => (ingestPart_landTile c r payload tr x i).trans hx)

/-! ### Answers and credits (R227, R241, R280) -/

theorem upTo_passQ1 (s : State) (body : List Byte) : UpToEvents s (passQ1 s body) := by
  unfold passQ1
  split
  · exact .refl s
  · exact (upTo_qPut s 1 (by simp) _).trans (upTo_qTake _ 1 (by simp))

theorem upTo_sendStatus (s : State) (p : List Byte) (handle status detail : Nat) : UpToEvents s (sendStatus s p handle status detail) :=
  (upTo_passQ1 s _).trans (upTo_linkSend _ _ _)

@[simp] theorem regs_sendStatus (s : State) (p : List Byte) (handle status detail : Nat) : (sendStatus s p handle status detail).regs = s.regs := by
  unfold sendStatus passQ1
  dsimp only
  split <;> simp

@[simp] theorem ingestPart_sendStatus (s : State) (p : List Byte) (handle status detail : Nat) : ingestPart (sendStatus s p handle status detail) = ingestPart s :=
  ingestPart_of_upTo (upTo_sendStatus s p handle status detail)

@[simp] theorem ingestPart_linkSend (s : State) (ctl : Bool) (p : List Byte) : ingestPart (linkSend s ctl p) = ingestPart s :=
  ingestPart_of_upTo (upTo_linkSend s ctl p)

@[simp] theorem ingestPart_returnCredits (s : State) (ctl : Bool) (n : Nat) : ingestPart (returnCredits s ctl n) = ingestPart s := by
  unfold returnCredits sendCredit
  dsimp only
  split
  · rfl
  · cases ctl <;> split <;> rfl

/-! ### Packets in their turn (R230) -/

/-- The packets that wait replaced. -/
def withDelivered (s : State) (l : List Delivered) : State := { s with lanes := { s.lanes with delivered := l } }

theorem linkServes_withDelivered (s : State) (l : List Delivered) : linkServes (withDelivered s l) = linkServes s := rfl
theorem packetWaits_withDelivered (s : State) (l : List Delivered) (ctl : Bool) : packetWaits (withDelivered s l) ctl = packetWaits s ctl := rfl

theorem servePool_nothing (ctl : Bool) (n : Nat) {s : State} (h : s.lanes.delivered = []) : servePool ctl n s = s := by
  cases n with
  | zero => rfl
  | succ n =>
    unfold servePool
    split
    · rfl
    · simp [h]

theorem servePackets_nothing {s : State} (h : s.lanes.delivered = []) : servePackets s = s := by
  unfold servePackets
  rw [servePool_nothing _ _ h, servePool_nothing _ _ h]

/-- The one packet that waits is taken in its pool, once it is called and nothing holds it back. -/
theorem servePool_takes {s : State} {d : Delivered} {o : TileObs} (k : Nat) (hserves : linkServes s = true) (hcalled : d.called = some o)
    (hturn : packetWaits s d.ctl = false) : servePool d.ctl (k + 1) (withDelivered s [d]) = servePool d.ctl k (takePacket d o (withDelivered s [])) := by
  have hfind : (withDelivered s [d]).lanes.delivered.find? (fun x => x.ctl == d.ctl) = some d := by simp [withDelivered]
  have herase : withDelivered (withDelivered s [d]) ((withDelivered s [d]).lanes.delivered.erase d) = withDelivered s [] := by simp [withDelivered]
  rw [servePool, if_neg (by simp [linkServes_withDelivered, hserves])]
  simp only [hfind, hcalled, packetWaits_withDelivered, hturn, Bool.false_and, Bool.false_eq_true, if_false]
  exact congrArg (fun u => servePool d.ctl k (takePacket d o u)) herase

/-- A pool passes over a packet of the other one. -/
theorem servePool_otherPool {s : State} {d : Delivered} {ctl : Bool} (k : Nat) (h : d.ctl ≠ ctl) : servePool ctl k (withDelivered s [d]) = withDelivered s [d] := by
  cases k with
  | zero => rfl
  | succ k =>
    unfold servePool
    split
    · rfl
    · simp [withDelivered, h]

/-- R230: the command of the one packet that waits calls it. -/
theorem callPacket_calls {s : State} {ctl : Bool} {n : Nat} {p : List Byte} (o : TileObs) (hserves : linkServes s = true)
    (hdelivered : s.lanes.delivered = [⟨ctl, n, p, none⟩]) :
    callPacket ctl p o s = servePool true 1 (servePool false 1 (withDelivered s [⟨ctl, n, p, some o⟩])) := by
  unfold callPacket
  rw [if_pos hserves, hdelivered, show callFirst ctl p o [⟨ctl, n, p, none⟩] = [⟨ctl, n, p, some o⟩] by simp [callFirst]]
  rfl

/-- A bulk packet that the device knows has its turn: the link is up, nothing is staged, and no readback is in progress. -/
structure BulkTurn (n : Nat) (p : List Byte) (s : State) : Prop where
  serves : linkServes s = true
  delivered : s.lanes.delivered = [⟨false, n, p, none⟩]
  staging : s.chans.staging = []
  job : s.lanes.readJob = none
  known : packetUnknown false p = false

section
variable {n : Nat} {p : List Byte} {s : State} (hturn : BulkTurn n p s)
include hturn

/-- The packet called is taken; then the control pool is looked at. -/
theorem BulkTurn.callPacket_eq (o : TileObs) :
    callPacket false p o s = servePool true 1 (takePacket ⟨false, n, p, some o⟩ o (withDelivered s [])) := by
  have hready : packetWaits s false = false := by simp [packetWaits, hturn.staging, hturn.job]
  rw [callPacket_calls o hturn.serves hturn.delivered]
  exact congrArg _ (servePool_takes (d := ⟨false, n, p, some o⟩) 0 hturn.serves rfl hready)

/-- Where the packet leaves none behind, the command does no more than take it. -/
theorem BulkTurn.callPacket_takes {t : State} {o : TileObs} (htake : takePacket ⟨false, n, p, some o⟩ o (withDelivered s []) = t)
    (hleft : t.lanes.delivered = []) : callPacket false p o s = t := by
  rw [hturn.callPacket_eq o, htake]
  exact servePool_nothing _ _ hleft

/-- A packet after which its credits return and no packet waits. -/
theorem BulkTurn.callPacket_returns {m : State} {o : TileObs}
    (htake : takePacket ⟨false, n, p, some o⟩ o (withDelivered s []) = returnCredits m false n) (hleft : (ingestPart m).delivered = []) :
    callPacket false p o s = returnCredits m false n := by
  refine hturn.callPacket_takes htake ?_
  rw [← hleft, ← ingestPart_returnCredits m false n]
  rfl

end

end Sys2Proof.Machine
end

section
/-!
SUPPORT. What each type of transaction packet does in its turn (R183, R185, R229 to R241), for a packet whose TCRC passes and for one whose TCRC fails.
-/

namespace Sys2Proof.Machine

open Sys2Proof.Laws

theorem channel_of_usable {s : State} {h : Nat} {c : Channel} (hc : s.usable h = some c) : s.channel h = some c := by
  unfold State.usable at hc
  cases hchannel : s.channel h with
  | none => simp [hchannel] at hc
  | some x =>
    simp only [hchannel, Option.bind_some] at hc
    split at hc
    · cases hc
    · exact hc

/-! ### Packets of a type -/

section
variable {s : State} {n : Nat} {p : List Byte} {o : TileObs} {ctl : Bool} (hknown : packetUnknown ctl p = false)
include hknown

theorem takePacket_tcrcFails (htcrc : tcrcOk p = false) : takePacket ⟨ctl, n, p, some o⟩ o s = returnCredits (tcrcFails s p) ctl n := by
  simp [takePacket, hknown, htcrc]

variable (htcrc : tcrcOk p = true)
include htcrc

theorem takePacket_region (htype : field p 0 1 = 1) : takePacket ⟨ctl, n, p, some o⟩ o s = takeRegion n p s := by
  simp [takePacket, hknown, htcrc, htype]

theorem takePacket_setClose (htype : field p 0 1 = 2) : takePacket ⟨ctl, n, p, some o⟩ o s = takeSetClose n p s := by
  simp [takePacket, hknown, htcrc, htype]

theorem takePacket_setCommit (htype : field p 0 1 = 3) : takePacket ⟨ctl, n, p, some o⟩ o s = takeSetCommit n p s := by
  simp [takePacket, hknown, htcrc, htype]

theorem takePacket_readback (htype : field p 0 1 = 5) : takePacket ⟨ctl, n, p, some o⟩ o s = takeReadback n p o s := by
  simp [takePacket, hknown, htcrc, htype]

theorem takePacket_kdp (htype : field p 0 1 = 4) {b : Nat} (hbuffer : freeBuffer s 3 = some b) :
    takePacket ⟨ctl, n, p, some o⟩ o s = returnCredits (arrive s 3 b (slice p 8 (p.length - 12)) o.ecc) true n := by
  simp [takePacket, hknown, htcrc, htype, hbuffer]

end

/-! ### Refusals (R229, R233, R264) -/

/-- R229, R233: the state after E89 of a REGION whose TCRC fails, and its STATUS. -/
theorem answered_tcrcFails (s : State) {p : List Byte} (htype : field p 0 1 = 1) : Answered s [89] (tcrcFails s p) := by
  unfold tcrcFails
  rw [if_pos htype]
  obtain ⟨hraised, hcounted⟩ := after_raise s 89 (bytesLE 4 (field p 8 4) ++ bytesLE 2 (field p 2 2)) (by decide) (by decide) (by decide)
  exact ⟨(hraised.trans (upTo_sendStatus _ _ _ _ _)).toUpToFrames, counted_congr hcounted (regs_sendStatus _ _ _ _ _)⟩

theorem ingestPart_tcrcFails (s : State) (p : List Byte) : ingestPart (tcrcFails s p) = ingestPart s := by
  unfold tcrcFails
  rw [ingestPart_sendStatus]
  split
  · exact ingestPart_raise (by decide) _ _
  · rfl

/-- R264: a stale handle counted and raised. -/
theorem after_staleHandle (s : State) (h place : Nat) : After (s.bump Reg.chanStaleCount) [68] (staleHandle s h place) :=
  after_raise _ 68 _ (by decide) (by decide) (by decide)

theorem ingestPart_staleHandle (s : State) (h place : Nat) : ingestPart (staleHandle s h place) = ingestPart s :=
  ingestPart_of_upTo (s := s.bump Reg.chanStaleCount) (after_staleHandle s h place).1

theorem laneChannel_stale {s : State} {p : List Byte} {h : Nat} (hstale : s.usable h = none) :
    laneChannel s p h = (none, sendStatus (staleHandle s h 0) p h 4 0) := by
  simp [laneChannel, hstale]

theorem laneChannel_usable {s : State} {p : List Byte} {h : Nat} {c : Channel} (hc : s.usable h = some c) : laneChannel s p h = (some c, s) := by
  simp [laneChannel, hc]

/-- R264: a stale handle is refused by every type that uses one. -/
theorem takePacket_stale {s : State} {n : Nat} {p : List Byte} (o : TileObs) (hknown : packetUnknown false p = false) (htcrc : tcrcOk p = true)
    (hstale : s.usable (field p 8 4) = none)
    (htype : field p 0 1 = 1 ∨ field p 0 1 = 2 ∨ (field p 0 1 = 3 ∧ field p 12 1 ≠ 0) ∨ field p 0 1 = 5) :
    takePacket ⟨false, n, p, some o⟩ o s = returnCredits (sendStatus (staleHandle s (field p 8 4) 0) p (field p 8 4) 4 0) false n := by
  have hrefused := laneChannel_stale (p := p) hstale
  rcases htype with h | h | ⟨h, hset⟩ | h
  · simp [takePacket_region hknown htcrc h, takeRegion, regionFields, hrefused]
  · simp [takePacket_setClose hknown htcrc h, takeSetClose, hrefused]
  · simp [takePacket_setCommit hknown htcrc h, takeSetCommit, hset, hrefused]
  · simp [takePacket_readback hknown htcrc h, takeReadback, hrefused]

/-! ### REGION and SET_CLOSE (R233, R235) -/

section
variable {s : State} {n : Nat} {p : List Byte} {c : Channel} (hc : s.usable (field p 8 4) = some c)
include hc

theorem takeRegion_stages (hsound : regionRefusal s c p = none) :
    takeRegion n p s = { s with chans := { s.chans with staging := [⟨p, n, 0, none⟩] } } := by
  simp [takeRegion, regionFields, laneChannel_usable hc, hsound]

theorem takeRegion_refused {status detail : Nat} (hrefusal : regionRefusal s c p = some (status, detail)) :
    takeRegion n p s = returnCredits (sendStatus s p (field p 8 4) status detail) false n := by
  simp [takeRegion, regionFields, laneChannel_usable hc, hrefusal]

theorem takeSetClose_notSurface (htype : c.type ≠ 1) : takeSetClose n p s = returnCredits (sendStatus s p (field p 8 4) 5 c.type) false n := by
  simp [takeSetClose, laneChannel_usable hc, closeSet, htype]

theorem takeSetClose_opens (htype : c.type = 1) (hset : field p 12 1 ≠ 0) (hcount : field p 14 2 ≠ 0) (hninth : ninthSet s c.slot (field p 12 1) = false)
    (hopen : openSet s c.slot (field p 12 1) = none) (hreport : bitAt (field p 1 1) 0 = false) :
    takeSetClose n p s = returnCredits { s with chans := { s.chans with
      sets := s.chans.sets ++ [⟨c.slot, field p 12 1, [], some (field p 14 2), [], false, false⟩] } } false n := by
  simp [takeSetClose, laneChannel_usable hc, closeSet, htype, hset, hcount, hninth, hopen, hreport]

end

theorem regionRefusal_notSurface {s : State} {c : Channel} {p : List Byte} (htype : c.type ≠ 1) : regionRefusal s c p = some (5, c.type) := by
  simp [regionRefusal, htype]

theorem regionRefusal_withDelivered (s : State) (l : List Delivered) (c : Channel) (p : List Byte) :
    regionRefusal (withDelivered s l) c p = regionRefusal s c p := rfl

/-- R233, R235: a channel that is no SURFACE is refused by REGION and by SET_CLOSE. -/
theorem takePacket_notSurface {s : State} {n : Nat} {p : List Byte} {c : Channel} (o : TileObs) (hknown : packetUnknown false p = false)
    (htcrc : tcrcOk p = true) (hc : s.usable (field p 8 4) = some c) (hsurface : c.type ≠ 1) (htype : field p 0 1 = 1 ∨ field p 0 1 = 2) :
    takePacket ⟨false, n, p, some o⟩ o s = returnCredits (sendStatus s p (field p 8 4) 5 c.type) false n := by
  rcases htype with h | h
  · rw [takePacket_region hknown htcrc h, takeRegion_refused hc (regionRefusal_notSurface hsurface)]
  · rw [takePacket_setClose hknown htcrc h, takeSetClose_notSurface hc hsurface]

/-! ### SET_COMMIT (R236, R237) -/

/-- R236: whether slot `k` is bound to a channel in the configuration that a commit requested now would apply. -/
def slotBound (s : State) (c : Channel) (k : Nat) : Bool :=
  ((s.kdp.staged.find? (fun x => x.key == Reg.layerHandle k)).map (·.value)).getD (commitBase s (Reg.layerHandle k)) == c.handle

/-- R236, R237: the commit's answer goes out as a STATUS with its reason, and the credits return. -/
def commitAnswered (n : Nat) (p : List Byte) (r : CommitAnswer × State) : State :=
  returnCredits (sendStatus r.2 p (field p 8 4) (if r.1.reason = 0 then 0 else 9) r.1.reason) false n

theorem setCommit_channel (s : State) (c : Channel) (set tag : Nat) :
    setCommit s (some c) set tag = ((List.range 8).find? (slotBound s c)).elim (commitFor s tag (if c.type = 1 then [(c.slot, set)] else []))
      (fun k => commitFor (stage s 0 (Reg.layerFlipSet k) set) tag []) := by
  have hfind (f : Nat → Bool) (hf : f = slotBound s c) : (List.range 8).find? f = (List.range 8).find? (slotBound s c) := by rw [hf]
  unfold setCommit
  dsimp only
  rw [hfind _ (funext fun k => by unfold slotBound; cases s.kdp.staged.find? _ <;> rfl)]
  cases (List.range 8).find? (slotBound s c) <;> rfl

theorem setCommit_bound {s : State} {c : Channel} {set tag k : Nat} (hk : k < 8) (hbound : slotBound s c k = true) (hlowest : ∀ j, j < k → slotBound s c j = false) :
    setCommit s (some c) set tag = commitFor (stage s 0 (Reg.layerFlipSet k) set) tag [] := by
  have hfind : (List.range 8).find? (slotBound s c) = some k :=
    List.find?_range_eq_some.2 ⟨hbound, List.mem_range.2 hk, fun j hj => by simp [hlowest j hj]⟩
  rw [setCommit_channel, hfind, Option.elim_some]

theorem setCommit_unbound {s : State} {c : Channel} {set tag : Nat} (htype : c.type = 1) (hfree : ∀ k, k < 8 → slotBound s c k = false) :
    setCommit s (some c) set tag = commitFor s tag [(c.slot, set)] := by
  have hfind : (List.range 8).find? (slotBound s c) = none := List.find?_range_eq_none.2 (fun k hk => by simp [hfree k hk])
  rw [setCommit_channel, hfind, Option.elim_none, if_pos htype]

/-- R236: the lowest slot bound to a SURFACE flips it, or the snapshot itself does where none is. -/
theorem setCommit_surface {s : State} {c : Channel} {set tag : Nat} {r : CommitAnswer × State} (htype : c.type = 1)
    (hbound : ∀ k, k < 8 → slotBound s c k = true → (∀ j, j < k → slotBound s c j = false) → r = commitFor (stage s 0 (Reg.layerFlipSet k) set) tag [])
    (hfree : (∀ k, k < 8 → slotBound s c k = false) → r = commitFor s tag [(c.slot, set)]) : setCommit s (some c) set tag = r := by
  cases hfind : (List.range 8).find? (slotBound s c) with
  | some k =>
    obtain ⟨hkbound, hk, hbefore⟩ := List.find?_range_eq_some.1 hfind
    have hlowest (j : Nat) (hj : j < k) : slotBound s c j = false := by simpa using hbefore j hj
    rw [setCommit_bound (List.mem_range.1 hk) hkbound hlowest, hbound k (List.mem_range.1 hk) hkbound hlowest]
  | none =>
    have hnone (k : Nat) (hk : k < 8) : slotBound s c k = false := by simpa using List.find?_range_eq_none.1 hfind k hk
    rw [setCommit_unbound htype hnone, hfree hnone]

theorem takeSetCommit_alone {s : State} {n : Nat} {p : List Byte} (hset : field p 12 1 = 0) :
    takeSetCommit n p s = commitAnswered n p (commitFor (hostActive s) (field p 13 1) []) := by
  unfold takeSetCommit
  rw [if_pos hset]
  rfl

theorem takeSetCommit_flips {s : State} {n : Nat} {p : List Byte} {c : Channel} (hc : s.usable (field p 8 4) = some c) (hset : field p 12 1 ≠ 0) :
    takeSetCommit n p s = commitAnswered n p (setCommit (hostActive s) (some c) (field p 12 1) (field p 13 1)) := by
  simp [takeSetCommit, hset, laneChannel_usable hc, commitAnswered]

/-! ### READBACK_REQ (R239, R240) -/

theorem pay_within {s : State} {c n : Nat} (h : n ≤ tokensLeft s c) : pay s c n = (n, spend s c n) := by
  have hall : Nat.min n (tokensLeft s c) = n := Nat.min_eq_left h
  unfold pay
  dsimp only
  rw [hall, if_neg (Nat.lt_irrefl n)]

/-- The readback in progress replaced. -/
def setReadJob (s : State) (j : Option ReadJob) : State := { s with lanes := { s.lanes with readJob := j } }

/-- A readback that would be over at once leaves none in progress. -/
theorem setReadJob_spend {s : State} (hidle : s.lanes.readJob = none) (j : Option ReadJob) (c k : Nat) :
    setReadJob (spend (setReadJob s j) c k) none = spend s c k := by
  have hlanes : { s.lanes with readJob := none } = s.lanes := by rw [← hidle]
  change { spend s c k with lanes := { s.lanes with readJob := none } } = _
  rw [hlanes]
  rfl

/-- R239: a readback in progress whose tokens C0 has is answered. -/
theorem goOnReading_answers {s : State} {j : ReadJob} {c : Channel} (hjob : s.lanes.readJob = some j) (hc : s.channel (field j.packet 8 4) = some c)
    (hstore : domainOn s 3 = true) (hpaid : readTokens c (field j.packet 16 4) - j.paid ≤ tokensLeft s 0) :
    goOnReading s = answerReadback c j (setReadJob (spend s 0 (readTokens c (field j.packet 16 4) - j.paid)) none) := by
  unfold goOnReading
  simp only [hjob, hc, hstore, pay_within hpaid, Bool.not_true, Bool.false_eq_true, if_false, Nat.lt_irrefl]
  rfl

/-- A readback that nothing refuses and for which C0 has the tokens is answered at once. -/
theorem takeReadback_answers {s : State} {n : Nat} {p : List Byte} {c : Channel} (o : TileObs) (hc : s.usable (field p 8 4) = some c)
    (hsound : readbackRefusal c (field p 12 4) (field p 16 4) = none) (hstore : domainOn s 3 = true) (hjob : s.lanes.readJob = none)
    (hpaid : readTokens c (field p 16 4) ≤ tokensLeft s 0) :
    takeReadback n p o s = answerReadback c ⟨p, n, 0, o⟩ (spend s 0 (readTokens c (field p 16 4))) := by
  have hanswer := goOnReading_answers (s := setReadJob s (some ⟨p, n, 0, o⟩)) rfl (channel_of_usable hc) hstore hpaid
  unfold takeReadback
  simp only [laneChannel_usable hc, hsound]
  exact hanswer.trans (congrArg _ (setReadJob_spend hjob _ _ _))

/-- R239: the answer to a readback: the parts snooped, and the packet with the data. -/
def readbackSent (n : Nat) (p : List Byte) (parts : List (List Byte × Nat)) (d : List Byte) (s : State) : State :=
  returnCredits (linkSend (parts.foldl (fun st q => snoop st 3 (field p 8 4) q.1) s) false
    (transaction 0x85 0 (field p 2 2) (bytesLE 4 (field p 8 4) ++ bytesLE 4 (field p 12 4) ++ bytesLE 4 (field p 16 4) ++ bytesLE 4 0 ++ d))) false n

@[simp] theorem ingestPart_readbackSent (n : Nat) (p : List Byte) (parts : List (List Byte × Nat)) (d : List Byte) (s : State) :
    ingestPart (readbackSent n p parts d s) = ingestPart s := by
  have hsnooped (st : State) (q : List Byte × Nat) : ingestPart (snoop st 3 (field p 8 4) q.1) = ingestPart st := ingestPart_snoop _ _ _ _
  unfold readbackSent
  rw [ingestPart_returnCredits, ingestPart_linkSend, ingestPart_foldl hsnooped]

section
variable {s : State} {n : Nat} {p : List Byte} {c : Channel} {o : TileObs} (hecc : o.ecc = [])
include hecc

theorem answerReadback_tiles {m : State} {parts : List (List Byte × Nat)} (htiles : c.type ≤ 2)
    (hread : readTiles c o.transient (span (field p 12 4) (field p 16 4)) [] s = (none, parts, m)) :
    answerReadback c ⟨p, n, 0, o⟩ s = readbackSent n p parts (parts.flatMap (fun q => q.1 ++ bytesLE 4 q.2)) m := by
  simp [answerReadback, hecc, eccFindAll, htiles, hread, readbackSent]

theorem answerReadback_bytes (hbytes : 2 < c.type) (hclean : s.store.poison = []) :
    answerReadback c ⟨p, n, 0, o⟩ s =
      readbackSent n p [(chanBytes s c (field p 12 4) (field p 16 4), 0)] (chanBytes s c (field p 12 4) (field p 16 4)) s := by
  have hsound (i : Nat) : chanPoisoned s c i 1 = false := by simp [chanPoisoned, hclean]
  simp [answerReadback, hecc, eccFindAll, Nat.not_le.2 hbytes, hsound, readbackSent, chanBytes]

end

end Sys2Proof.Machine
end

section
/-!
SUPPORT. KDP packets in their turn, and the landing of the staged region (R183, R186, R232, R234, R238, R266, R272, R278).
-/

namespace Sys2Proof.Machine

open Sys2Proof.Laws

/-! ### KDP packets (R238, R340) -/

/-- The bytes of a frame that a transport keeps of those it received: what LEN counts, where LEN fits (R315, R317). -/
def keptFrame (t : Nat) (f : List Byte) : List Byte := if lenOk t f = true then f.take (14 + field f 8 2) else f

/-- R340: a frame kept in a receive buffer, its entry on the queue, and the service's look at the queues. -/
def frameServed (s : State) (t b : Nat) (f : List Byte) : State :=
  serveFrames (postFrame (setTrans s t { transOf s t with rx := (transOf s t).rx ++ [(b, keptFrame t f)] }) t b (keptFrame t f).length)

theorem arrive_sound (s : State) (t b : Nat) (f : List Byte) : arrive s t b f [] = frameServed s t b f := by
  unfold arrive frameServed keptFrame eccFindAll
  simp only [List.foldl_nil, ite_self]

/-- R230: a KDP packet that has its turn, with a free receive buffer and space on Q0, is taken. -/
theorem callPacket_kdp {s : State} {n b : Nat} {p : List Byte} (hserves : linkServes s = true) (hdelivered : s.lanes.delivered = [⟨true, n, p, none⟩])
    (hknown : packetUnknown true p = false) (htype : field p 0 1 = 4) (htcrc : tcrcOk p = true) (hqueue : qFull s 0 = false)
    (hheld : (transOf s 2).rxHeld = []) (hbuffer : freeBuffer s 3 = some b) :
    callPacket true p ⟨[], []⟩ s = returnCredits (frameServed (withDelivered s []) 3 b (slice p 8 (p.length - 12))) true n := by
  have hready : packetWaits s true = false := by simp [packetWaits, hbuffer, hqueue, hheld]
  have htaken := takePacket_kdp (s := withDelivered s []) (n := n) (o := ⟨[], []⟩) hknown htcrc htype hbuffer
  rw [callPacket_calls _ hserves hdelivered, servePool_otherPool 1 (by simp)]
  refine (servePool_takes (d := ⟨true, n, p, some ⟨[], []⟩⟩) 0 hserves rfl hready).trans (htaken.trans ?_)
  rw [arrive_sound]

/-! ### The landing of the staged region (R186, R232 to R234) -/

section
variable {s : State} {st : StagedRegion} {c : Channel}

/-- R272, R278: a region lands whose tiles' flips are over, with space on Q9 and the pixel store on. -/
theorem landingWaits_free (hc : s.channel (regionFields st.packet).handle = some c) (hstore : domainOn s 3 = true) (hqueue : qFull s 9 = false)
    (htiles : ∀ i ∈ regionTiles c (regionFields st.packet), tileWaits s c i = false) : landingWaits s st = false := by
  have hany : (regionTiles c (regionFields st.packet)).any (tileWaits s c) = false := List.any_eq_false.2 (fun i hi => by simp [htiles i hi])
  simp [landingWaits, hc, hstore, hqueue, hany]

theorem landingGone_live (hc : s.channel (regionFields st.packet).handle = some c) (hlive : c.destroyed = false) : landingGone s st = false := by
  simp [landingGone, hc, hlive]

/-- R186, R232: a region that nothing holds back is written, and then counted; its reads and writes touch no channel, no latch and not Q9. -/
theorem landStaged_writes (o : TileObs) {l : List StagedRegion} (hstaged : s.chans.staging = st :: l)
    (hc : s.channel (regionFields st.packet).handle = some c) (hgone : landingGone s st = false) (hwaits : landingWaits s st = false)
    (hpaid : regionTokens c (regionFields st.packet) - st.paid ≤ tokensLeft s 0) :
    ∃ zeros m, landStaged o s = finishRegion m c st zeros ∧ ingestPart m = ingestPart s := by
  unfold landStaged
  simp only [hstaged, hgone, hwaits, hc, pay_within hpaid, Nat.lt_irrefl, Bool.false_eq_true, if_false]
  refine ⟨_, _, rfl, ?_⟩
  rw [ingestPart_landTiles, ingestPart_eccFindAll, ingestPart_spend]

end

/-- R276: a queue's control after a push. -/
def queuePushed (c : QueueCtl) : QueueCtl := { c with tail := c.tail + 1, highWater := Nat.max c.highWater (c.tail + 1 - c.head).toNat }

theorem ingestPart_setQ (s : State) (x : QueueCtl) : ingestPart (setQ s 9 x) = { ingestPart s with notices := x } := by
  unfold ingestPart
  rw [qCtl_setQ _ _ _ (by decide)]
  rfl

theorem ingestPart_qPut (s : State) (b : List Byte) : ingestPart (qPut s 9 b) = { ingestPart s with notices := queuePushed (ingestPart s).notices } := by
  unfold qPut
  dsimp only
  rw [ingestPart_setQ, ingestPart_storeBytes]
  rfl

/-- R183, R184: counting a region touches only the channels' sets and loose tiles. -/
theorem ingestPart_countRegion (s : State) (c : Channel) (r : RegionFields) :
    ingestPart (countRegion s c r) = { ingestPart s with chans := (countRegion s c r).chans } := by
  unfold countRegion
  dsimp only
  split
  · rfl
  · split
    · rfl
    · split <;> rfl

theorem ingestPart_unstage (s : State) : ingestPart (unstage s) = { ingestPart s with chans := { (ingestPart s).chans with staging := [] } } := rfl

/-- R183: the tiles of a region without a set are loose. -/
theorem loose_countRegion {s : State} {c : Channel} {r : RegionFields} (hlive : c.destroyed = false) (hset : r.set = 0) {i : Nat} (hi : i ∈ regionTiles c r) :
    (c.slot, i) ∈ (countRegion s c r).chans.loose := by
  unfold countRegion
  by_cases hloose : (c.slot, i) ∈ s.chans.loose
  · simp [hlive, hset, hloose]
  · simp [hlive, hset, hloose, hi]

/-- R232: what a landed region leaves. -/
theorem ingestPart_finishRegion {s : State} {c : Channel} (st : StagedRegion) (zeros : Nat) (hlive : c.destroyed = false) :
    ingestPart (finishRegion s c st zeros) = { ingestPart s with
      chans := { (countRegion s c (regionFields st.packet)).chans with staging := [] }, notices := queuePushed (qCtl s 9) } := by
  have hreported (b : Bool) (m : State) (h detail : Nat) : ingestPart (if b then sendStatus m st.packet h 0 detail else m) = ingestPart m := by
    split <;> simp
  unfold finishRegion
  simp only [hlive, Bool.false_and, Bool.false_eq_true, if_false, ingestPart_returnCredits]
  refine (ingestPart_unstage _).trans ?_
  rw [hreported, ingestPart_owe, ingestPart_qPut, ingestPart_snoop, ingestPart_countRegion]
  rfl

theorem qCount_pushed {s t : State} (hpushed : qCtl t 9 = queuePushed (qCtl s 9)) (hcount : qCount s 9 < 2048) : qCount t 9 = qCount s 9 + 1 := by
  unfold qCount at *
  rw [hpushed]
  unfold queuePushed
  dsimp only
  bv_omega

end Sys2Proof.Machine
end

section
/-!
SUPPORT. The commands of transaction packets in their turn and of the staged region's landing, assembled (R183, R229 to R241, R340).
-/

namespace Sys2Proof.Machine

open Sys2Proof.Laws

/-! ### Bulk packets -/

/-- The four commands that name a bulk packet differ only in what its reads meet. -/
theorem exec_bulk {p : List Byte} {o : TileObs} {i : Instr} (hi : i = .region p ∨ i = .setClose p ∨ i = .setCommit p ∨ (i = .readbackReq p o ∧ o = ⟨[], []⟩))
    (s : State) : exec i s = .next (callPacket false p ⟨[], []⟩ s) := by
  rcases hi with rfl | rfl | rfl | ⟨rfl, rfl⟩ <;> rfl

section
variable {n : Nat} {p : List Byte} {s : State} (hturn : BulkTurn n p s)
include hturn

/-- A packet that is only answered. -/
theorem BulkTurn.callPacket_answers {m : State} {o : TileObs} {status detail : Nat}
    (htake : takePacket ⟨false, n, p, some o⟩ o (withDelivered s []) = returnCredits (sendStatus m p (field p 8 4) status detail) false n)
    (hleft : ingestPart m = ingestPart (withDelivered s [])) :
    callPacket false p o s = returnCredits (sendStatus m p (field p 8 4) status detail) false n :=
  hturn.callPacket_returns htake (by rw [ingestPart_sendStatus, hleft]; rfl)

theorem BulkTurn.exec_region_tcrcFails (htcrc : tcrcOk p = false) :
    exec (.region p) s = .next (returnCredits (tcrcFails (withDelivered s []) p) false n) :=
  congrArg _ (hturn.callPacket_returns (takePacket_tcrcFails hturn.known htcrc) (by rw [ingestPart_tcrcFails]; rfl))

variable (htcrc : tcrcOk p = true)
include htcrc

theorem BulkTurn.callPacket_stale (o : TileObs) (hstale : s.usable (field p 8 4) = none)
    (htype : field p 0 1 = 1 ∨ field p 0 1 = 2 ∨ (field p 0 1 = 3 ∧ field p 12 1 ≠ 0) ∨ field p 0 1 = 5) :
    callPacket false p o s = returnCredits (sendStatus (staleHandle (withDelivered s []) (field p 8 4) 0) p (field p 8 4) 4 0) false n :=
  hturn.callPacket_answers (takePacket_stale o hturn.known htcrc hstale htype) (ingestPart_staleHandle _ _ _)

theorem BulkTurn.exec_setCommit_alone (htype : field p 0 1 = 3) (hset : field p 12 1 = 0) :
    exec (.setCommit p) s = .next (servePool true 1 (commitAnswered n p (commitFor (hostActive (withDelivered s [])) (field p 13 1) []))) := by
  have htake := takePacket_setCommit (s := withDelivered s []) (n := n) (o := ⟨[], []⟩) hturn.known htcrc htype
  rw [takeSetCommit_alone hset] at htake
  exact congrArg _ ((hturn.callPacket_eq _).trans (congrArg _ htake))

variable {c : Channel} (hc : s.usable (field p 8 4) = some c)
include hc

theorem BulkTurn.exec_region_stages (htype : field p 0 1 = 1) (hsound : regionRefusal s c p = none) :
    exec (.region p) s = .next { withDelivered s [] with chans := { s.chans with staging := [⟨p, n, 0, none⟩] } } :=
  congrArg _ (hturn.callPacket_takes ((takePacket_region hturn.known htcrc htype).trans
    (takeRegion_stages (s := withDelivered s []) hc ((regionRefusal_withDelivered s [] c p).trans hsound))) rfl)

theorem BulkTurn.exec_region_refused (htype : field p 0 1 = 1) {status detail : Nat} (hrefusal : regionRefusal s c p = some (status, detail)) :
    exec (.region p) s = .next (returnCredits (sendStatus (withDelivered s []) p (field p 8 4) status detail) false n) :=
  congrArg _ (hturn.callPacket_answers ((takePacket_region hturn.known htcrc htype).trans
    (takeRegion_refused (s := withDelivered s []) hc ((regionRefusal_withDelivered s [] c p).trans hrefusal))) rfl)

theorem BulkTurn.exec_setClose_opens (htype : field p 0 1 = 2) (hsurface : c.type = 1) (hset : field p 12 1 ≠ 0) (hcount : field p 14 2 ≠ 0)
    (hninth : ninthSet s c.slot (field p 12 1) = false) (hopen : openSet s c.slot (field p 12 1) = none) (hreport : bitAt (field p 1 1) 0 = false) :
    exec (.setClose p) s = .next (returnCredits { withDelivered s [] with chans := { s.chans with
      sets := s.chans.sets ++ [⟨c.slot, field p 12 1, [], some (field p 14 2), [], false, false⟩] } } false n) :=
  congrArg _ (hturn.callPacket_returns
    ((takePacket_setClose hturn.known htcrc htype).trans (takeSetClose_opens hc hsurface hset hcount hninth hopen hreport)) rfl)

theorem BulkTurn.exec_setCommit_flips (htype : field p 0 1 = 3) (hset : field p 12 1 ≠ 0) (hsurface : c.type = 1) {r : CommitAnswer × State}
    (hbound : ∀ k, k < 8 → slotBound (hostActive (withDelivered s [])) c k = true → (∀ j, j < k → slotBound (hostActive (withDelivered s [])) c j = false) →
      r = commitFor (stage (hostActive (withDelivered s [])) 0 (Reg.layerFlipSet k) (field p 12 1)) (field p 13 1) [])
    (hfree : (∀ k, k < 8 → slotBound (hostActive (withDelivered s [])) c k = false) →
      r = commitFor (hostActive (withDelivered s [])) (field p 13 1) [(c.slot, field p 12 1)]) :
    exec (.setCommit p) s = .next (servePool true 1 (commitAnswered n p r)) := by
  have htake := takePacket_setCommit (s := withDelivered s []) (n := n) (o := ⟨[], []⟩) hturn.known htcrc htype
  rw [takeSetCommit_flips (s := withDelivered s []) hc hset, setCommit_surface hsurface hbound hfree] at htake
  exact congrArg _ ((hturn.callPacket_eq _).trans (congrArg _ htake))

variable {o : TileObs} (htype : field p 0 1 = 5) (hsound : readbackRefusal c (field p 12 4) (field p 16 4) = none)
  (hstore : domainOn s 3 = true) (hpaid : readTokens c (field p 16 4) ≤ tokensLeft s 0)
include htype hsound hstore hpaid

/-- A readback in its turn is answered from the state with its tokens spent. -/
theorem BulkTurn.takePacket_readback :
    takePacket ⟨false, n, p, some o⟩ o (withDelivered s []) = answerReadback c ⟨p, n, 0, o⟩ (spend (withDelivered s []) 0 (readTokens c (field p 16 4))) :=
  (Machine.takePacket_readback hturn.known htcrc htype).trans (takeReadback_answers o hc hsound hstore hturn.job hpaid)

theorem BulkTurn.exec_readback_tiles (hecc : o.ecc = []) (htiles : c.type ≤ 2) {parts : List (List Byte × Nat)} {m : State}
    (hread : readTiles c o.transient (span (field p 12 4) (field p 16 4)) [] (spend (withDelivered s []) 0 (readTokens c (field p 16 4))) = (none, parts, m)) :
    exec (.readbackReq p o) s = .next (readbackSent n p parts (parts.flatMap (fun q => q.1 ++ bytesLE 4 q.2)) m) := by
  have hkept := ingestPart_readTiles c o.transient (span (field p 12 4) (field p 16 4)) [] (spend (withDelivered s []) 0 (readTokens c (field p 16 4)))
  rw [hread] at hkept
  have htake := hturn.takePacket_readback (o := o) htcrc hc htype hsound hstore hpaid
  rw [answerReadback_tiles hecc htiles hread] at htake
  refine congrArg _ (hturn.callPacket_takes htake ?_)
  exact (delivered_of_ingestPart (s := m) (ingestPart_readbackSent _ _ _ _ _)).trans (delivered_of_ingestPart hkept)

theorem BulkTurn.exec_readback_bytes (hecc : o.ecc = []) (hbytes : 2 < c.type) (hclean : s.store.poison = []) :
    exec (.readbackReq p o) s = .next (readbackSent n p [(chanBytes s c (field p 12 4) (field p 16 4), 0)] (chanBytes s c (field p 12 4) (field p 16 4))
      (spend (withDelivered s []) 0 (readTokens c (field p 16 4)))) := by
  have htake := hturn.takePacket_readback (o := o) htcrc hc htype hsound hstore hpaid
  rw [answerReadback_bytes (s := spend (withDelivered s []) 0 (readTokens c (field p 16 4))) hecc hbytes hclean] at htake
  exact congrArg _ (hturn.callPacket_takes htake (delivered_of_ingestPart (ingestPart_readbackSent _ _ _ _ _)))

end

/-- A region for the SURFACE of the tests has its turn. -/
theorem witness_bulkTurn : BulkTurn 1 (Tests.regionOf 56) (Tests.turn false (Tests.regionOf 56) Tests.surface) := by
  obtain ⟨hserves, hdelivered, hstaging, -, hjob, -, -, -⟩ := Tests.witness_LanePackets_turn
  exact ⟨hserves, hdelivered, hstaging, hjob, by decide +kernel⟩

/-! ### The landing of the staged region -/

theorem exec_regionLanded {s : State} {st : StagedRegion} {l : List StagedRegion} {c : Channel} (o : TileObs) (hdelivered : s.lanes.delivered = [])
    (hstaged : s.chans.staging = st :: l) (hc : s.channel (regionFields st.packet).handle = some c) (hlive : c.destroyed = false)
    (hwaits : landingWaits s st = false) (hpaid : regionTokens c (regionFields st.packet) - st.paid ≤ tokensLeft s 0) :
    ∃ m t, exec (.regionLanded o) s = .next t ∧ ingestPart t = { ingestPart s with
      chans := { (countRegion m c (regionFields st.packet)).chans with staging := [] }, notices := queuePushed (qCtl s 9) } := by
  obtain ⟨zeros, m, hland, hkept⟩ := landStaged_writes o hstaged hc (landingGone_live hc hlive) hwaits hpaid
  have hpart := ingestPart_finishRegion (s := m) st zeros hlive
  rw [hkept, show qCtl m 9 = qCtl s 9 from congrArg IngestPart.notices hkept] at hpart
  have hleft : (finishRegion m c st zeros).lanes.delivered = [] := (congrArg IngestPart.delivered hpart).trans hdelivered
  refine ⟨m, finishRegion m c st zeros, ?_, hpart⟩
  exact congrArg _ ((congrArg servePackets hland).trans (servePackets_nothing hleft))

/-! ### The statement -/

/-- Settles O38: the one packet that waits is taken, and its type says what that does; the landing keeps all of the ingest part but the channels and Q9. -/
theorem lanePackets : Obligations.LanePackets := by
  unfold Obligations.LanePackets
  intro p o n s hserves
  refine ⟨?bulk, ?kdp, ?landing⟩
  case bulk =>
    intro hdelivered hstaging hjob hknown
    have hturn : BulkTurn n p s := ⟨hserves, hdelivered, hstaging, hjob, hknown⟩
    refine ⟨fun htcrc htype => ⟨_, hturn.exec_region_tcrcFails htcrc, answered_tcrcFails _ htype⟩, ?stale, ?notSurface, ?commitAlone, ?sound⟩
    case stale =>
      intro htcrc hstale htype i hi
      exact ⟨_, after_staleHandle _ _ _, (exec_bulk hi s).trans (congrArg _ (hturn.callPacket_stale htcrc _ hstale htype))⟩
    case notSurface =>
      intro htcrc c hc hsurface htype
      exact ⟨congrArg _ (hturn.callPacket_answers (takePacket_notSurface _ hknown htcrc hc hsurface htype) rfl), rfl⟩
    case commitAlone =>
      intro htcrc htype hset
      exact hturn.exec_setCommit_alone htcrc htype hset
    case sound =>
      intro htcrc c hc
      refine ⟨fun htype => ⟨hturn.exec_region_stages htcrc hc htype, fun _ _ => hturn.exec_region_refused htcrc hc htype⟩,
        hturn.exec_setClose_opens htcrc hc, fun htype hset hsurface r hbound hfree => hturn.exec_setCommit_flips htcrc hc htype hset hsurface hbound hfree, ?_⟩
      intro htype hecc hsound hstore _ _ _ hpaid
      exact ⟨fun htiles _ _ => hturn.exec_readback_tiles htcrc hc htype hsound hstore hpaid hecc htiles,
        hturn.exec_readback_bytes htcrc hc htype hsound hstore hpaid hecc⟩
  case kdp =>
    intro hdelivered hknown htype htcrc hqueue hheld b hbuffer
    exact congrArg _ (callPacket_kdp hserves hdelivered hknown htype htcrc hqueue hheld hbuffer)
  case landing =>
    intro st l c hdelivered hstaged hc hlive hstore hqueue hcount htiles hpaid
    obtain ⟨m, t, hexec, hpart⟩ := exec_regionLanded o hdelivered hstaged hc hlive (landingWaits_free hc hstore hqueue htiles) hpaid
    have hchans : t.chans = { (countRegion m c (regionFields st.packet)).chans with staging := [] } := congrArg IngestPart.chans hpart
    refine ⟨t, hexec, by rw [hchans], qCount_pushed (congrArg IngestPart.notices hpart) hcount, congrArg IngestPart.latches hpart,
      congrArg IngestPart.composeDirty hpart, ?_⟩
    intro hset i hi
    rw [hchans]
    exact loose_countRegion hlive hset hi

end Sys2Proof.Machine
end
